-- ==== Sys2Proof/Word.lean ====
section
/-! DEFINITION. The widths the manual gives its numbers, and the types of what commands and frames
carry: the lane sensors, the reader's reports, the CONFIGURE fields, the bench line frames (R49) and
the commands of the local link (R157). -/

namespace Sys2Proof

/-- One byte of the local link or of the bench line (R50, R156). -/
abbrev Byte := BitVec 8

/-- The 16-bit encoder count, which wraps (R2). -/
abbrev Count := BitVec 16

/-- The 32-bit bench clock in seconds, which wraps (R9), and every bench time. -/
abbrev Clock := BitVec 32

/-- The 32-bit number on a tote's label (R4); 0 is "unknown", and marks a stray in a lane record. -/
abbrev ToteNo := BitVec 32

/-- The bench computer's name for a pick line (R16). -/
abbrev Tag := BitVec 16

/-- The bench computer's name for a customer order (R16, R31). -/
abbrev Handle := BitVec 16

/-- A station number 0..31 (R49). -/
abbrev StationNo := Fin 32

/-- A put position. The manual's position k, 1..16, is the index k-1 (R31). -/
abbrev PutIdx := Fin 16

/-- The manual's number of a put position, 1..16 (R31). -/
def putNumber (k : PutIdx) : Nat := k.val + 1

/-- The five lane sensors (R110). -/
inductive Sensor where
  | entry | head | face | park | exit
  deriving DecidableEq, Repr

/-- The four waits the Lane Controller times against MOVE_TIME (R124). -/
inductive Wait where
  | arrival | park | merge | head
  deriving DecidableEq, Repr

/-- What the label reader reports of a passing tote: a number, or NO_READ (R86). -/
inductive ReaderReport where
  | label (n : ToteNo)
  | noRead
  deriving DecidableEq, Repr

/-- How a send attempt ended (R52). -/
inductive AttemptOutcome where
  | sent | lost
  deriving DecidableEq, Repr

/-- The 21 fields of a CONFIGURE command, each an unsigned 16-bit number, in the order of R157: the
four structural fields of R12 and the seventeen tuning fields of the tuning table. -/
structure ConfigFields where
  station : BitVec 16
  loopLen : BitVec 16
  pR : BitVec 16
  pM : BitVec 16
  c : BitVec 16
  wWin : BitVec 16
  divertReach : BitVec 16
  w : BitVec 16
  lapLimit : BitVec 16
  chilledBudget : BitVec 16
  frozenBudget : BitVec 16
  alert : BitVec 16
  stale : BitVec 16
  g : BitVec 16
  urgentSlack : BitVec 16
  lockRun : BitVec 16
  attemptLimit : BitVec 16
  missLimit : BitVec 16
  moveTime : BitVec 16
  mergeWait : BitVec 16
  settle : BitVec 16
  deriving DecidableEq, Repr

/-- The further fields of an INFEED or RELEASE frame, as wide as the frame carries them (R49, R50). -/
structure Announcement where
  cls : Byte
  coldUsed : BitVec 16
  laps : Byte
  position : BitVec 16
  count : Count
  deriving DecidableEq, Repr

/-- A bench line frame's kind, with the fields its kind carries (R49). -/
inductive FrameBody where
  | infeed (a : Announcement)
  | release (a : Announcement)
  | ret
  | want (weight : BitVec 16)
  | drop
  | hold
  | state (able : Byte)
  deriving DecidableEq, Repr

/-- One bench line frame: kind, sender, tote and further fields (R49). -/
structure Frame where
  sender : StationNo
  tote : ToteNo
  body : FrameBody
  deriving DecidableEq, Repr

/-- The 21 commands of the local link with their fields, as wide as the command frame carries them
(R157). -/
inductive LinkCommand where
  | configure (f : ConfigFields)
  | setTime (t : Clock)
  | restart
  | loadLine (tag : Tag) (tote : ToteNo) (handle : Handle) (cls qty prio : Byte)
  | cancelLine (tag : Tag)
  | placeOrder (handle : Handle) (position : Byte) (deadline : Clock)
  | closeOrder (handle : Handle)
  | releaseFace
  | rest
  | wake
  | clearJam
  | retrack
  | setNotice (source enable level : Byte)
  | setFloor (floor : Byte)
  | readNotice
  | clearNotice (source : Byte)
  | readStatus
  | readLine (tag : Tag)
  | readLane
  | readTrack
  | readConfig
  deriving DecidableEq, Repr

end Sys2Proof
end

