-- ==== Sys2Proof/Config.lean ====
section
/-! DEFINITION. What CONFIGURE fixes for the machine (R12 to R14), and the free values: what the
manual leaves open although the machine goes on. -/

namespace Sys2Proof

/-- The configuration record as held (R12, R13), with the derived values of R14. -/
structure Record where
  station : StationNo
  loopLen : Nat
  pR : Nat
  pM : Nat
  c : Nat
  wWin : Nat
  divertReach : Nat
  w : Nat
  lapLimit : Nat
  chilledBudget : Nat
  frozenBudget : Nat
  alert : Nat
  stale : Nat
  g : Nat
  urgentSlack : Nat
  lockRun : Nat
  attemptLimit : Nat
  missLimit : Nat
  moveTime : Nat
  mergeWait : Nat
  settle : Nat
  chilledMargin : Nat
  frozenMargin : Nat
  refreshPeriod : Nat
  productTop : Nat
  serviceBottom : Nat
  deriving DecidableEq, Repr

/-- What the blocks read while the configuration is unset: nothing observable rests on it, because
in UNCONFIGURED no rule reads a field (R15). DESIGN CHOICE, log 15. -/
def Record.unset : Record where
  station := 0
  loopLen := 0
  pR := 0
  pM := 0
  c := 0
  wWin := 0
  divertReach := 0
  w := 0
  lapLimit := 0
  chilledBudget := 0
  frozenBudget := 0
  alert := 0
  stale := 0
  g := 0
  urgentSlack := 0
  lockRun := 0
  attemptLimit := 0
  missLimit := 0
  moveTime := 0
  mergeWait := 0
  settle := 0
  chilledMargin := 0
  frozenMargin := 0
  refreshPeriod := 0
  productTop := 0
  serviceBottom := 0

/-- Free value: which of several causes that come in the same millisecond is taken first, for the
n-th such draw. The manual gives no order (R124, R125, R142). Log 10. -/
opaque Config.freeOrder : Nat → Nat

/-- Free value: the remaining field of READ_LANE for a remaining time that does not fit a signed
32-bit value (R160). Log 14. -/
opaque Config.freeRemaining : Int → BitVec 32

end Sys2Proof
end

