-- ==== Sys2Proof/Syntax.lean ====
section
/-! DEFINITION. The commands the part takes: one constructor for each row of spec/opcode_table.json,
in the table's order, with the operands its rule names. -/

namespace Sys2Proof

/-- The commands: link commands, bench line frames, field events, counted and timed events. The
docstrings name the rule that gives each its effect. -/
inductive Instr where
  /-- R155. -/
  | powerOnReset
  /-- R156. One period of select low; `bitsIn` are the bits the bench computer shifts in. -/
  | transaction (bitsIn : List Bool)
  /-- R157. The rise of select with `bytes` shifted in that form a bad command frame. -/
  | badFrame (bytes : List Byte)
  /-- R12 to R14. -/
  | configure (f : ConfigFields)
  /-- R10. -/
  | setTime (t : Clock)
  /-- R154, R155. -/
  | restart
  /-- R18. -/
  | loadLine (tag : Tag) (tote : ToteNo) (handle : Handle) (cls qty prio : Byte)
  /-- R21. -/
  | cancelLine (tag : Tag)
  /-- R32, R33. -/
  | placeOrder (handle : Handle) (position : Byte) (deadline : Clock)
  /-- R22. -/
  | closeOrder (handle : Handle)
  /-- R114. -/
  | releaseFace
  /-- R149. -/
  | rest
  /-- R150. -/
  | wake
  /-- R127. -/
  | clearJam
  /-- R92. -/
  | retrack
  /-- R166. -/
  | setNotice (source enable level : Byte)
  /-- R166. -/
  | setFloor (floor : Byte)
  /-- R164. -/
  | readNotice
  /-- R165. -/
  | clearNotice (source : Byte)
  /-- R158. -/
  | readStatus
  /-- R159. -/
  | readLine (tag : Tag)
  /-- R160. -/
  | readLane
  /-- R161. -/
  | readTrack
  /-- R161. -/
  | readConfig
  /-- R2, and the work of R83, R93 and R106 at each pulse. -/
  | encoderPulse
  /-- R83, of the nearest entry. -/
  | overdueRemoval
  /-- R106, of the oldest divert record. -/
  | divertTimeout
  /-- R9, and the work of every block at each tick. -/
  | oneSecondTick
  /-- R67, of one station record. -/
  | stationStale (station : StationNo)
  /-- R74, of one interest entry. -/
  | entryStale (station : StationNo) (tote : ToteNo)
  /-- R77. -/
  | stateAndHoldRefresh
  /-- R41, of one want record. -/
  | wantRefresh (tote : ToteNo)
  /-- R121, of one lane record. -/
  | coldAlert (tote : ToteNo)
  /-- R122, of one lane record. -/
  | coldBreach (tote : ToteNo)
  /-- R118. -/
  | mergeStall
  /-- R124: the wait reaches MOVE_TIME. -/
  | laneJam (wait : Wait)
  /-- R125: the sensor's time reaches MOVE_TIME. -/
  | unaccountedSensor (sensor : Sensor)
  /-- R138: the settle's time left reaches 0. -/
  | settleEnd (k : PutIdx)
  /-- R142: the beam's blocked time reaches 3000 ms. -/
  | beamStuck (k : PutIdx)
  /-- R143: the stuck beam's clear time reaches 3000 ms. -/
  | beamRecovered (k : PutIdx)
  /-- R58. The bits on the line of a run that is no frame of good form. -/
  | frameDiscarded (bits : List Bool)
  /-- R66 (a received STATE). -/
  | stateFrame (sender : StationNo) (tote : ToteNo) (able : Byte)
  /-- R69 (a received WANT). -/
  | wantFrame (sender : StationNo) (tote : ToteNo) (weight : BitVec 16)
  /-- R70 (a received DROP). -/
  | dropFrame (sender : StationNo) (tote : ToteNo)
  /-- R71, R82 (a received HOLD). -/
  | holdFrame (sender : StationNo) (tote : ToteNo)
  /-- R72, R80 (a received RELEASE). -/
  | releaseFrame (sender : StationNo) (tote : ToteNo) (a : Announcement)
  /-- R80 (a received INFEED). -/
  | infeedFrame (sender : StationNo) (tote : ToteNo) (a : Announcement)
  /-- R82 (a received RETURN). -/
  | returnFrame (sender : StationNo) (tote : ToteNo)
  /-- R51, R53: the moment at which the line becomes idle, or is idle as a frame becomes available. -/
  | sendAttempt
  /-- R52, R53. `readBack` are the bits read back from the line during the attempt. -/
  | attemptEnd (readBack : List Bool)
  /-- R86 to R103. -/
  | readerEvent (report : ReaderReport)
  /-- R104, R105: the entry sensor becomes blocked. -/
  | entrySeen
  /-- R112, R124: the head sensor becomes blocked. -/
  | headBlocked
  /-- R113: the face sensor becomes blocked. -/
  | faceArrived
  /-- R117: the park sensor becomes blocked. -/
  | parkArrived
  /-- R119: the exit sensor becomes clear. -/
  | merged
  /-- R110, R118: the merge-gap input becomes present, or absent. -/
  | mergeGap (present : Bool)
  /-- R128: a lane sensor becomes blocked. -/
  | sensorBlocked (sensor : Sensor)
  /-- R152: a lane sensor becomes clear. -/
  | sensorClear (sensor : Sensor)
  /-- R133. -/
  | beamBreak (k : PutIdx)
  /-- R143. -/
  | beamClear (k : PutIdx)
  /-- R136. -/
  | shortKey
  /-- R150. -/
  | logonKey
  deriving DecidableEq, Repr

end Sys2Proof
end

