-- ==== Sys2Proof/Decode.lean ====
section
/-! DEFINITION. The bytes and bits of the part's two links, both ways: command frames of the local link
(R156, R157) and frames of the bench line (R50, R58). Decoding is total and answers `none` for a frame of bad
form. The opcode table gives no row any bits, so no table word spells a command (log 20). -/

namespace Sys2Proof

/-! ### Numbers of more than one byte, most significant byte first (R50, R156) -/

def bytes16 (x : BitVec 16) : List Byte :=
  [x.extractLsb' 8 8, x.extractLsb' 0 8]

def bytes32 (x : BitVec 32) : List Byte :=
  [x.extractLsb' 24 8, x.extractLsb' 16 8, x.extractLsb' 8 8, x.extractLsb' 0 8]

def word16 (a b : Byte) : BitVec 16 := a ++ b

def word32 (a b c d : Byte) : BitVec 32 := a ++ b ++ c ++ d

/-- A byte list read as 16-bit numbers; `none` where the length is odd. -/
def words16 : List Byte → Option (List (BitVec 16))
  | [] => some []
  | a :: b :: rest => (words16 rest).map (word16 a b :: ·)
  | [_] => none

/-! ### The bits of a byte, most significant bit first (R50, R156) -/

/-- The bits of a byte, most significant first. -/
def byteBits (b : Byte) : List Bool :=
  [b.getMsbD 0, b.getMsbD 1, b.getMsbD 2, b.getMsbD 3, b.getMsbD 4, b.getMsbD 5, b.getMsbD 6,
    b.getMsbD 7]

/-- The byte of eight bits, most significant first. -/
def byteOfBits (a b c d e f g h : Bool) : Byte := BitVec.ofBoolListBE [a, b, c, d, e, f, g, h]

/-! ### The bits of the local link (R156) -/

/-- A run of bytes as the local link exchanges it, eight bits at a time (R156). -/
def linkBits (bs : List Byte) : List Bool := bs.flatMap byteBits

/-- The bytes of the bits that one transaction shifts in (R156). Bits after the last whole byte, where
select rises in mid-byte, make no byte: DESIGN CHOICE, log 32. -/
def bytesOfLink : List Bool → List Byte
  | a :: b :: c :: d :: e :: f :: g :: h :: rest => byteOfBits a b c d e f g h :: bytesOfLink rest
  | _ => []

/-! ### The check byte of the local link (R156) -/

/-- The sum of a frame's bytes modulo 256. -/
def byteSum (bs : List Byte) : Byte := bs.foldl (· + ·) 0

/-- The frame with the check byte that brings the sum of all its bytes to 0 modulo 256. -/
def withCheckByte (bs : List Byte) : List Byte := bs ++ [-(byteSum bs)]

/-! ### Command frames (R156, R157) -/

/-- The command code of the command table (R157). -/
def LinkCommand.code : LinkCommand → Byte
  | .configure _ => 1
  | .setTime _ => 2
  | .restart => 3
  | .loadLine _ _ _ _ _ _ => 4
  | .cancelLine _ => 5
  | .placeOrder _ _ _ => 6
  | .closeOrder _ => 7
  | .releaseFace => 8
  | .rest => 9
  | .wake => 10
  | .clearJam => 11
  | .retrack => 12
  | .setNotice _ _ _ => 13
  | .setFloor _ => 14
  | .readNotice => 15
  | .clearNotice _ => 16
  | .readStatus => 17
  | .readLine _ => 18
  | .readLane => 19
  | .readTrack => 20
  | .readConfig => 21

/-- The 21 CONFIGURE fields in frame order (R157). -/
def ConfigFields.words (f : ConfigFields) : List (BitVec 16) :=
  [f.station, f.loopLen, f.pR, f.pM, f.c, f.wWin, f.divertReach, f.w, f.lapLimit,
    f.chilledBudget, f.frozenBudget, f.alert, f.stale, f.g, f.urgentSlack, f.lockRun,
    f.attemptLimit, f.missLimit, f.moveTime, f.mergeWait, f.settle]

/-- The command's field bytes, in the order of R157. -/
def LinkCommand.fieldBytes : LinkCommand → List Byte
  | .configure f => f.words.flatMap bytes16
  | .setTime t => bytes32 t
  | .loadLine tag tote handle cls qty prio =>
      bytes16 tag ++ bytes32 tote ++ bytes16 handle ++ [cls, qty, prio]
  | .cancelLine tag => bytes16 tag
  | .placeOrder handle position deadline => bytes16 handle ++ [position] ++ bytes32 deadline
  | .closeOrder handle => bytes16 handle
  | .setNotice source enable level => [source, enable, level]
  | .setFloor floor => [floor]
  | .clearNotice source => [source]
  | .readLine tag => bytes16 tag
  | .restart | .releaseFace | .rest | .wake | .clearJam | .retrack | .readNotice | .readStatus
  | .readLane | .readTrack | .readConfig => []

/-- The command frame: code, field length, fields, check (R156). -/
def encodeCommand (c : LinkCommand) : List Byte :=
  withCheckByte ([c.code, BitVec.ofNat 8 c.fieldBytes.length] ++ c.fieldBytes)

/-- The configuration fields from their 21 numbers. -/
def configOfWords : List (BitVec 16) → Option ConfigFields
  | [station, loopLen, pR, pM, c, wWin, divertReach, w, lapLimit, chilledBudget, frozenBudget,
      alert, stale, g, urgentSlack, lockRun, attemptLimit, missLimit, moveTime, mergeWait,
      settle] =>
    some { station, loopLen, pR, pM, c, wWin, divertReach, w, lapLimit, chilledBudget,
           frozenBudget, alert, stale, g, urgentSlack, lockRun, attemptLimit, missLimit, moveTime,
           mergeWait, settle }
  | _ => none

/-- The command a code and its field bytes spell. `none` where the code is not 1..21 or the number of
field bytes is not the code's (R157). -/
def commandOfFields (code : Byte) (fields : List Byte) : Option LinkCommand :=
  match code.toNat, fields with
  | 1, fs => ((words16 fs).bind configOfWords).map .configure
  | 2, [a, b, c, d] => some (.setTime (word32 a b c d))
  | 3, [] => some .restart
  | 4, [t1, t0, a, b, c, d, h1, h0, cls, qty, prio] =>
      some (.loadLine (word16 t1 t0) (word32 a b c d) (word16 h1 h0) cls qty prio)
  | 5, [t1, t0] => some (.cancelLine (word16 t1 t0))
  | 6, [h1, h0, p, a, b, c, d] => some (.placeOrder (word16 h1 h0) p (word32 a b c d))
  | 7, [h1, h0] => some (.closeOrder (word16 h1 h0))
  | 8, [] => some .releaseFace
  | 9, [] => some .rest
  | 10, [] => some .wake
  | 11, [] => some .clearJam
  | 12, [] => some .retrack
  | 13, [n, e, l] => some (.setNotice n e l)
  | 14, [f] => some (.setFloor f)
  | 15, [] => some .readNotice
  | 16, [n] => some (.clearNotice n)
  | 17, [] => some .readStatus
  | 18, [t1, t0] => some (.readLine (word16 t1 t0))
  | 19, [] => some .readLane
  | 20, [] => some .readTrack
  | 21, [] => some .readConfig
  | _, _ => none

/-- R157's frame checks: the code is 1..21, the length byte is the code's field length, the number of
bytes is the length byte plus 3, and the bytes sum to 0. `none` is BAD_FRAME. -/
def decodeCommand : List Byte → Option LinkCommand
  | code :: len :: rest =>
      if rest.length = len.toNat + 1 ∧ byteSum (code :: len :: rest) = 0 then
        commandOfFields code (rest.take len.toNat)
      else none
  | _ => none

/-! ### The check of the bench line (R50) -/

/-- One bit of the cyclic check with the generator x^16 + x^12 + x^5 + 1. -/
def crcBit (c : BitVec 16) (bit : Bool) : BitVec 16 :=
  if c.msb != bit then (c <<< 1) ^^^ 0x1021#16 else c <<< 1

/-- One byte of the check, most significant bit first. -/
def crcByte (c : BitVec 16) (b : Byte) : BitVec 16 :=
  [b.getLsbD 7, b.getLsbD 6, b.getLsbD 5, b.getLsbD 4, b.getLsbD 3, b.getLsbD 2, b.getLsbD 1,
    b.getLsbD 0].foldl crcBit c

/-- The check over a frame's bytes, from 65535, with no final inversion. -/
def crc16 (bs : List Byte) : BitVec 16 := bs.foldl crcByte 0xFFFF#16

/-! ### Bench line frames (R49, R50, R58) -/

/-- The line class of a kind (R49). -/
def FrameBody.lineClass : FrameBody → Nat
  | .infeed _ => 0
  | .ret => 0
  | .release _ => 1
  | .hold => 1
  | .state _ => 2
  | .want _ => 3
  | .drop => 3

/-- The kind code of byte 1 (R50). -/
def FrameBody.kindCode : FrameBody → Byte
  | .infeed _ => 1
  | .release _ => 2
  | .ret => 3
  | .want _ => 4
  | .drop => 5
  | .hold => 6
  | .state _ => 7

/-- Byte 0: line class × 32 + sender (R50). -/
def Frame.arbitrationByte (f : Frame) : Byte :=
  BitVec.ofNat 8 (f.body.lineClass * 32 + f.sender.val)

def Announcement.toBytes (a : Announcement) : List Byte :=
  [a.cls] ++ bytes16 a.coldUsed ++ [a.laps] ++ bytes16 a.position ++ bytes16 a.count

/-- The bytes after the tote and before the check (R50). -/
def FrameBody.toBytes : FrameBody → List Byte
  | .infeed a => a.toBytes
  | .release a => a.toBytes
  | .want w => bytes16 w
  | .state able => [able]
  | .ret | .drop | .hold => []

/-- A frame's bytes before its check. -/
def Frame.head (f : Frame) : List Byte :=
  [f.arbitrationByte, f.body.kindCode] ++ bytes32 f.tote ++ f.body.toBytes

/-- A frame's bytes on the line (R50). -/
def encodeFrame (f : Frame) : List Byte := f.head ++ bytes16 (crc16 f.head)

/-! ### Characters (R50) -/

/-- A byte as one character: a start bit, the eight data bits, a stop bit (R50). The stop bit is 1, as a
quiet line is (R51), and the start bit is 0, which a quiet line is not. DEDUCED, log 28. -/
def characterBits (b : Byte) : List Bool := [false] ++ byteBits b ++ [true]

/-- A run of bytes as the part sends it (R50), one character straight after the other: DESIGN CHOICE,
log 30. -/
def lineBits (bs : List Byte) : List Bool := bs.flatMap characterBits

/-- A frame's bits on the line (R50). -/
def frameBits (f : Frame) : List Bool := lineBits (encodeFrame f)

/-- Characters with this many quiet bits after each, as another station may send them: only an idle line
ends a frame (R50, R51). -/
def spacedBits (cs : List (Byte × Nat)) : List Bool :=
  cs.flatMap fun c => characterBits c.1 ++ List.replicate c.2 true

/-- The bytes of the characters up to the idle line, after `quiet` bits of quiet: at the twelfth the line
is idle and the run has ended (R50, R51). `none` where a character is cut short or has no stop bit (R50).
Bits after the idle line are no part of the run: DEDUCED, log 17. -/
def bytesAfterQuiet (quiet : Nat) : List Bool → Option (List Byte)
  | [] => some []
  | true :: rest => if quiet + 1 < 12 then bytesAfterQuiet (quiet + 1) rest else some []
  | false :: a :: b :: c :: d :: e :: f :: g :: h :: stop :: rest =>
      if stop then (bytesAfterQuiet 0 rest).map (byteOfBits a b c d e f g h :: ·) else none
  | false :: _ => none

/-- The bytes of a run, from the first byte after the idle line to the last before the line is idle again
(R50). -/
def bytesOfLine (bits : List Bool) : Option (List Byte) := bytesAfterQuiet 0 (bits.dropWhile id)

/-- The kind and its fields from the kind code and the field bytes. `none` where the code is not 1..7
or the number of bytes is not the kind's (R58). -/
def bodyOfBytes (kind : Byte) (fields : List Byte) : Option FrameBody :=
  match kind.toNat, fields with
  | 1, [cls, u1, u0, laps, p1, p0, c1, c0] =>
      some (.infeed ⟨cls, word16 u1 u0, laps, word16 p1 p0, word16 c1 c0⟩)
  | 2, [cls, u1, u0, laps, p1, p0, c1, c0] =>
      some (.release ⟨cls, word16 u1 u0, laps, word16 p1 p0, word16 c1 c0⟩)
  | 3, [] => some .ret
  | 4, [w1, w0] => some (.want (word16 w1 w0))
  | 5, [] => some .drop
  | 6, [] => some .hold
  | 7, [able] => some (.state able)
  | _, _ => none

/-- The form checks of R58: kind code, length, check, and line class of the arbitration byte. -/
def decodeFrame : List Byte → Option Frame
  | arb :: kind :: t3 :: t2 :: t1 :: t0 :: rest =>
      let fields := rest.take (rest.length - 2)
      match rest.drop (rest.length - 2), bodyOfBytes kind fields with
      | [k1, k0], some body =>
          if crc16 (arb :: kind :: t3 :: t2 :: t1 :: t0 :: fields) = word16 k1 k0 ∧
              arb.toNat / 32 = body.lineClass then
            some ⟨⟨arb.toNat % 32, Nat.mod_lt _ (by decide)⟩, word32 t3 t2 t1 t0, body⟩
          else none
      | _, _ => none
  | _ => none

/-- The frame that the bits on the line spell, if they are whole characters and the bytes pass the form
checks (R50, R58). -/
def decodeLine (bits : List Bool) : Option Frame := (bytesOfLine bits).bind decodeFrame

/-! ### The opcode table's words -/

/-- The command that a word spells by the table's bits. The table gives no row any bits, so there is
none. Log 20. -/
def decodeTableWord (_nbits _w : Nat) : Option Instr := none

end Sys2Proof
end

