-- ==== Sys2Proof/Machine/State.lean ====
section
/-! DEFINITION. The state of the part, block by block as the manual's Block Overview divides it, its
value after power-on reset, and the reasons a step can stop. Plain data throughout. -/

namespace Sys2Proof.Machine

/-- No command of this part stops the machine: a command that cannot be carried out is refused on the
link with a status (R157), and trouble is raised as a notice (R162). -/
inductive Fault where
  deriving DecidableEq, Repr

/-- The host's form of a refusal. -/
inductive Refusal where
  /-- Raised by an arm of exec whose command has no meaning yet; none is left. Safe. -/
  | notModelled (mnemonic : String)
  deriving DecidableEq, Repr

/-! ### Temperature classes, tote kinds, cold references -/

/-- The temperature classes of R6. -/
inductive TempClass where
  | ambient | chilled | frozen
  deriving DecidableEq, Repr

/-- The four kinds of tote number of R4. -/
inductive ToteKind where
  | unknown | product | service | nonCanonical
  deriving DecidableEq, Repr

/-- A cold reference (R43, R45): a used figure and its reference time, or UNKNOWN with the reference
time alone. -/
inductive ColdRef where
  | known (used : Nat) (time : Clock)
  | unknown (time : Clock)
  deriving DecidableEq, Repr

/-- The cold standings of R44. -/
inductive Standing where
  | clear | alert | breached
  deriving DecidableEq, Repr

/-! ### Demand Table and Put Map -/

/-- The states of a pick line (R16, R19). -/
inductive LineState where
  | waiting | active | suspended | done | short | cancelled | held
  deriving DecidableEq, Repr

inductive Priority where
  | normal | express
  deriving DecidableEq, Repr

/-- A line record (R16). -/
structure Line where
  tag : Tag
  tote : ToteNo
  handle : Handle
  cls : TempClass
  qty : Nat
  puts : Nat
  prio : Priority
  state : LineState
  deriving DecidableEq, Repr

/-- A want record (R29). -/
structure WantRec where
  tote : ToteNo
  weight : Nat
  time : Clock
  deriving DecidableEq, Repr

/-- The Demand Table: the lines in load order and the want records (R16, R29). -/
structure Demand where
  lines : List Line
  wants : List WantRec
  deriving DecidableEq, Repr

/-- The order record of an occupied put position (R31). -/
structure Order where
  handle : Handle
  deadline : Clock
  ready : Bool
  deriving DecidableEq, Repr

/-! ### Bench Line Interface -/

/-- The transmitter's states (R63). -/
inductive TxState where
  | off | on | closing | listenOnly
  deriving DecidableEq, Repr

/-- What is on the bench line (R51). The line is busy but in `idle`: with a frame on it, and after a frame,
or after the receiver was turned on, until it has been quiet for the time of 12 bits. -/
inductive Traffic where
  | frame | gap | idle
  deriving DecidableEq, Repr

/-- The frame in the send slot and its attempt count (R53). -/
structure TxSlot where
  frame : Frame
  attempts : Nat
  deriving DecidableEq, Repr

/-- The Bench Line Interface (R49 to R64). The queue is held as one list in the order in which the
keys entered (R56). -/
structure Bus where
  ownStation : Option StationNo
  rxOn : Bool
  tx : TxState
  queue : List Frame
  slot : Option TxSlot
  /-- A send attempt is in progress (R51, R53). -/
  attempting : Bool
  /-- RESTART was taken during the attempt in progress: the slot is emptied at its end (R64). -/
  slotDoomed : Bool
  /-- The line as the receiver finds it (R51). -/
  line : Traffic
  /-- The bits that the attempt in progress means to send (R50, R52). -/
  meant : List Bool
  /-- The bits that the last attempt put on the line before it ended or stopped (R52). -/
  driven : List Bool
  deriving DecidableEq, Repr

/-! ### Station Table and Interest Board -/

/-- A station record (R65). -/
structure StationRec where
  heard : Bool
  able : Bool
  age : Nat
  deriving DecidableEq, Repr

/-- An interest entry (R68). -/
structure InterestEntry where
  station : StationNo
  tote : ToteNo
  weight : Option Nat
  holding : Bool
  age : Nat
  deriving DecidableEq, Repr

/-- The Station Table and the Interest Board (R65 to R77). -/
structure Board where
  stations : Vector StationRec 32
  entries : List InterestEntry
  /-- BOARD_CROWDED (R75). -/
  crowded : Bool
  /-- The own refresh count (R77). -/
  refreshCount : Nat
  deriving DecidableEq, Repr

/-! ### Loop Tracker -/

/-- An expected arrival entry (R78). -/
structure EalEntry where
  tote : ToteNo
  expected : Count
  cls : TempClass
  cold : ColdRef
  laps : Nat
  deriving DecidableEq, Repr

/-- The tracker lock's states (R90 to R92). -/
inductive LockState where
  | seeking | confirming | locked | faulted
  deriving DecidableEq, Repr

/-- The Loop Tracker (R78 to R95). -/
structure Tracker where
  eal : List EalEntry
  /-- EAL_CROWDED (R81). -/
  crowded : Bool
  lock : LockState
  run : Nat
  attempts : Nat
  misses : Nat
  windowCount : Nat
  speed : Nat
  loopStopped : Bool
  maxDev : Nat
  deriving DecidableEq, Repr

/-! ### Divert Unit -/

/-- What a reader event's consumed entry hands on (R89, R96). -/
structure EntryPart where
  cls : TempClass
  cold : ColdRef
  laps : Nat
  deriving DecidableEq, Repr

/-- A divert record in flight (R96). -/
structure DivertRec where
  tote : ToteNo
  readCount : Count
  takeTime : Clock
  entry : Option EntryPart
  deriving DecidableEq, Repr

/-- The Divert Unit: its records, oldest first, and the model's count of the divert commands given on
the divert drive output (R103, log 16). -/
structure Divert where
  records : List DivertRec
  commands : Nat
  deriving DecidableEq, Repr

/-! ### Lane Controller -/

/-- Where a lane tote record stands (R109). -/
inductive Stage where
  | queued | face | park
  deriving DecidableEq, Repr

/-- The place a face record's tote came from (R109). -/
inductive FaceSource where
  | queue | park
  deriving DecidableEq, Repr

/-- A lane tote record (R109), with the merge wait count of R118. -/
structure LaneRec where
  tote : ToteNo
  cls : TempClass
  cold : ColdRef
  laps : Nat
  urgent : Bool
  stage : Stage
  alertMark : Bool
  breachMark : Bool
  refusalMark : Bool
  stallMark : Bool
  source : FaceSource
  savedTag : Option Tag
  mergeWait : Nat
  deriving DecidableEq, Repr

/-- The face's six states (R111). -/
inductive FaceState where
  | empty | arriving | presenting | parking | releasing | leaving
  deriving DecidableEq, Repr

/-- The park transfer output (R110). -/
inductive Transfer where
  | off | towardPark | towardFace
  deriving DecidableEq, Repr

/-- The lane's drive outputs, the divert output apart (R110). -/
structure Drives where
  advance : Bool
  transfer : Transfer
  exit : Bool
  deriving DecidableEq, Repr

/-- A lane sensor: its level, and its time in milliseconds while it is blocked and not accounted for
(R125). -/
structure SensorRec where
  blocked : Bool
  time : Option Nat
  deriving DecidableEq, Repr

structure Sensors where
  entry : SensorRec
  head : SensorRec
  face : SensorRec
  park : SensorRec
  exit : SensorRec
  deriving DecidableEq, Repr

/-- The four waits of R124: `none` where the wait is not begun or is ended, and otherwise its
milliseconds. While the lane is jammed every wait stands still (R126). -/
structure Waits where
  arrival : Option Nat
  park : Option Nat
  merge : Option Nat
  head : Option Nat
  deriving DecidableEq, Repr

/-- The Lane Controller (R109 to R129). -/
structure Lane where
  /-- The queued records, oldest first. -/
  queue : List LaneRec
  face : FaceState
  faceRec : Option LaneRec
  parkRec : Option LaneRec
  /-- The face became EMPTY by PARK_ARRIVED and no fill has been made since (R112, step 1). -/
  preempted : Bool
  /-- The detail sensor of the jam in force (R126). -/
  jam : Option Sensor
  waits : Waits
  sensors : Sensors
  /-- The merge-gap input (R110). -/
  gap : Bool
  drives : Drives
  deriving DecidableEq, Repr

/-! ### Pick Controller -/

/-- A beam record (R130). The blocked time runs while the beam is blocked and not stuck, the clear
time while it is clear and stuck, each in configured modes. -/
structure Beam where
  blocked : Bool
  stuck : Bool
  blockedMs : Nat
  clearMs : Nat
  deriving DecidableEq, Repr

/-- The Pick Controller (R130 to R145). -/
structure Picker where
  /-- The active position. -/
  active : Option PutIdx
  beams : Vector Beam 16
  /-- The settle time left, or not settling. -/
  settles : Vector (Option Nat) 16
  toteLight : Bool
  /-- The quantity display, or blank. -/
  display : Option Nat
  /-- The put light that is on; every other one is off (R131). -/
  putLight : Option PutIdx
  deriving DecidableEq, Repr

/-! ### Mode Controller, Local Link Port, Notice Controller -/

/-- The bench modes (R146). -/
inductive BenchMode where
  | unconfigured | sweeping | active | draining | rest
  deriving DecidableEq, Repr

/-- The sweep return (R146). -/
inductive SweepReturn where
  | active | rest
  deriving DecidableEq, Repr

structure ModeCtl where
  mode : BenchMode
  sweepReturn : SweepReturn
  able : Bool
  deriving DecidableEq, Repr

/-- The Local Link Port: the reply slot, `[]` when empty (R156), and the bits shifted out in the last
transaction (log 16). -/
structure Link where
  reply : List Byte
  shiftedOut : List Bool
  deriving DecidableEq, Repr

/-- The nineteen notice sources of R162, in the order of their numbers. -/
inductive NoticeSource where
  | coldBreach | laneJam | stationClash | duplicateTote | divertFail | trackFault | beamStuck
  | trackLost | coldAlert | parkRefused | mergeStall | putMiss | wrongPut | overPut | lineShort
  | orderReady | lineDone | frameAbandoned | modeChanged
  deriving DecidableEq, Repr

/-- A notice source's record (R162). -/
structure NoticeRec where
  pending : Bool
  count : Nat
  detail : BitVec 32
  enable : Bool
  level : Nat
  deriving DecidableEq, Repr

structure Notices where
  sources : Vector NoticeRec 19
  floor : Nat
  /-- The ATTN output (R163). -/
  attn : Bool
  deriving DecidableEq, Repr

/-! ### The whole part -/

/-- The part's state. `pending` holds the commands that wait, first in, first out (log 1). -/
structure State where
  cfg : Option Record
  count : Count
  clock : Clock
  demand : Demand
  puts : Vector (Option Order) 16
  bus : Bus
  board : Board
  tracker : Tracker
  divert : Divert
  lane : Lane
  picker : Picker
  modeCtl : ModeCtl
  link : Link
  notices : Notices
  /-- How many free values have been drawn (log 10). -/
  freeDraws : Nat
  pending : List Instr
  deriving DecidableEq, Repr

/-! ### After power-on reset -/

/-- The Demand Table after power-on reset and after RESTART (R16). -/
def Demand.reset : Demand := { lines := [], wants := [] }

/-- The Put Map after power-on reset and after RESTART (R31). -/
def putsReset : Vector (Option Order) 16 := Vector.replicate 16 none

/-- R64. The line is not idle before the receiver is on (R51). -/
def Bus.reset : Bus where
  ownStation := none
  rxOn := false
  tx := .off
  queue := []
  slot := none
  attempting := false
  slotDoomed := false
  line := .gap
  meant := []
  driven := []

/-- R65, R68, R75; the own refresh count as log 15 says. -/
def Board.reset : Board where
  stations := Vector.replicate 32 { heard := false, able := false, age := 0 }
  entries := []
  crowded := false
  refreshCount := 0

/-- R95. -/
def Tracker.reset : Tracker where
  eal := []
  crowded := false
  lock := .seeking
  run := 0
  attempts := 0
  misses := 0
  windowCount := 0
  speed := 0
  loopStopped := true
  maxDev := 0

/-- A sensor input at power-on: clear, with no time running (log 15). -/
def SensorRec.reset : SensorRec := { blocked := false, time := none }

def Sensors.reset : Sensors where
  entry := .reset
  head := .reset
  face := .reset
  park := .reset
  exit := .reset

def Waits.none : Waits := { arrival := Option.none, park := Option.none, merge := Option.none,
                            head := Option.none }

def Drives.off : Drives := { advance := false, transfer := .off, exit := false }

/-- R109, R111, R110, R127; the inputs as log 15 says. -/
def Lane.reset : Lane where
  queue := []
  face := .empty
  faceRec := none
  parkRec := none
  preempted := false
  jam := none
  waits := .none
  sensors := .reset
  gap := false
  drives := .off

/-- R145. The level is an input, and R145 does not say what a stopped blocked or clear time holds: clear
and 0 are DESIGN CHOICE, log 15. -/
def Beam.reset : Beam := { blocked := false, stuck := false, blockedMs := 0, clearMs := 0 }

/-- R145. -/
def Picker.reset : Picker where
  active := none
  beams := Vector.replicate 16 .reset
  settles := Vector.replicate 16 none
  toteLight := false
  display := none
  putLight := none

/-- A notice source at power-on: clear, enabled, at its default level (R162). -/
def NoticeRec.reset (level : Nat) : NoticeRec where
  pending := false
  count := 0
  detail := 0
  enable := true
  level := level

/-- R162: the table's default levels in source order, floor 0; R163: ATTN deasserted. -/
def Notices.reset : Notices where
  sources := #v[.reset 7, .reset 7, .reset 6, .reset 5, .reset 5, .reset 5, .reset 5, .reset 4,
    .reset 4, .reset 3, .reset 3, .reset 3, .reset 2, .reset 2, .reset 2, .reset 2, .reset 1,
    .reset 1, .reset 1]
  floor := 0
  attn := false

/-- The machine right after power-on reset (R155). -/
def State.reset : State where
  cfg := none
  count := 0
  clock := 0
  demand := .reset
  puts := putsReset
  bus := .reset
  board := .reset
  tracker := .reset
  divert := { records := [], commands := 0 }
  lane := .reset
  picker := .reset
  modeCtl := { mode := .unconfigured, sweepReturn := .active, able := false }
  link := { reply := [], shiftedOut := [] }
  notices := .reset
  freeDraws := 0
  pending := []

end Sys2Proof.Machine
end

