-- ==== Sys2Proof/Machine/Operands.lean ====
section
/-! DEFINITION. How a command's operands are read: the codes of enumerated values (R50, R157, R162),
put positions and notice numbers, the field checks of CONFIGURE (R12, R13, R14) and of a received
frame (R60), and the access to vectors that the meanings share. -/

namespace Sys2Proof.Machine

/-! ### Vectors -/

/-- Every element changed alike. -/
def mapVec {α : Type} {n : Nat} (f : α → α) (v : Vector α n) : Vector α n :=
  ⟨⟨v.toArray.toList.map f⟩, by simp⟩

/-- One element changed. -/
def modifyVec {α : Type} {n : Nat} (k : Fin n) (f : α → α) (v : Vector α n) : Vector α n :=
  v.set k (f v[k])

/-! ### Codes of enumerated values -/

/-- Class code: AMBIENT 0, CHILLED 1, FROZEN 2 (R50). -/
def classCode : TempClass → Byte
  | .ambient => 0
  | .chilled => 1
  | .frozen => 2

def classOfCode (b : Byte) : Option TempClass :=
  match b.toNat with
  | 0 => some .ambient
  | 1 => some .chilled
  | 2 => some .frozen
  | _ => none

/-- Priority code: NORMAL 0, EXPRESS 1 (R157). -/
def priorityCode : Priority → Byte
  | .normal => 0
  | .express => 1

def priorityOfCode (b : Byte) : Option Priority :=
  match b.toNat with
  | 0 => some .normal
  | 1 => some .express
  | _ => none

/-- A yes or no, an on or off, as a byte: 0 or 1 (R50, R157). -/
def boolCode (b : Bool) : Byte := if b then 1 else 0

/-- Bench mode code (R157). -/
def modeCode : BenchMode → Nat
  | .unconfigured => 0
  | .sweeping => 1
  | .active => 2
  | .draining => 3
  | .rest => 4

/-- Face state code (R157). -/
def faceCode : FaceState → Nat
  | .empty => 0
  | .arriving => 1
  | .presenting => 2
  | .parking => 3
  | .releasing => 4
  | .leaving => 5

/-- Lock state code (R157). -/
def lockCode : LockState → Nat
  | .seeking => 0
  | .confirming => 1
  | .locked => 2
  | .faulted => 3

/-- Line state code (R157). -/
def lineStateCode : LineState → Nat
  | .waiting => 1
  | .active => 2
  | .suspended => 3
  | .done => 4
  | .short => 5
  | .cancelled => 6
  | .held => 7

/-- Lane sensor code (R157). -/
def sensorCode : Sensor → Nat
  | .entry => 1
  | .head => 2
  | .face => 3
  | .park => 4
  | .exit => 5

/-- Status codes of a reply (R157). -/
inductive Status where
  | accepted | acceptedClamped | notConfigured | wrongMode | wrongState | tableFull | duplicateTag
  | unknownTag | unknownOrder | positionBusy | orderPlaced | orderOpenLines | badValue | badFrame
  deriving DecidableEq, Repr

def statusCode : Status → Byte
  | .accepted => 0
  | .acceptedClamped => 1
  | .notConfigured => 2
  | .wrongMode => 3
  | .wrongState => 4
  | .tableFull => 5
  | .duplicateTag => 6
  | .unknownTag => 7
  | .unknownOrder => 8
  | .positionBusy => 9
  | .orderPlaced => 10
  | .orderOpenLines => 11
  | .badValue => 12
  | .badFrame => 13

/-- The sensor named in the detail of a wait's jam (R124). -/
def waitSensor : Wait → Sensor
  | .arrival => .face
  | .park => .park
  | .merge => .exit
  | .head => .head

/-- The five sensors, in the order of their codes. -/
def allSensors : List Sensor := [.entry, .head, .face, .park, .exit]

/-- The four waits, in the order of R124's table. -/
def allWaits : List Wait := [.arrival, .park, .merge, .head]

/-! ### Put positions and notice sources -/

/-- The sixteen put positions in order. -/
def allPuts : List PutIdx := [0, 1, 2, 3, 4, 5, 6, 7, 8, 9, 10, 11, 12, 13, 14, 15]

/-- The put position of a command's position byte; `none` outside 1..16 (R32). -/
def putOfNumber (b : Byte) : Option PutIdx :=
  allPuts.find? fun k => putNumber k == b.toNat

/-- The nineteen sources in the order of their numbers (R162). -/
def allSources : List NoticeSource :=
  [.coldBreach, .laneJam, .stationClash, .duplicateTote, .divertFail, .trackFault, .beamStuck,
    .trackLost, .coldAlert, .parkRefused, .mergeStall, .putMiss, .wrongPut, .overPut, .lineShort,
    .orderReady, .lineDone, .frameAbandoned, .modeChanged]

/-- A source's place in the vector of source records; its number is one more (R162). -/
def NoticeSource.index : NoticeSource → Fin 19
  | .coldBreach => 0
  | .laneJam => 1
  | .stationClash => 2
  | .duplicateTote => 3
  | .divertFail => 4
  | .trackFault => 5
  | .beamStuck => 6
  | .trackLost => 7
  | .coldAlert => 8
  | .parkRefused => 9
  | .mergeStall => 10
  | .putMiss => 11
  | .wrongPut => 12
  | .overPut => 13
  | .lineShort => 14
  | .orderReady => 15
  | .lineDone => 16
  | .frameAbandoned => 17
  | .modeChanged => 18

/-- The source's number, 1..19 (R162). -/
def NoticeSource.number (n : NoticeSource) : Nat := n.index.val + 1

/-- The source a command's number byte names; `none` outside 1..19 (R165, R166). -/
def noticeOfNumber (b : Byte) : Option NoticeSource :=
  allSources.find? fun n => n.number == b.toNat

/-! ### CONFIGURE's fields -/

/-- The structural checks of R12. -/
def structuralOk (f : ConfigFields) : Bool :=
  decide (f.station.toNat ≤ 31) &&
  decide (64 ≤ f.loopLen.toNat ∧ f.loopLen.toNat ≤ 32767) &&
  decide (f.pR.toNat < f.loopLen.toNat) &&
  decide (f.pM.toNat < f.loopLen.toNat ∧ f.pM ≠ f.pR)

/-- Steps 1 to 3 of R13 for one tuning field of range lo..hi: the value asked for and the value held.
`zero` marks the three fields for which 65535 stands for 0. -/
def tune (lo hi dflt : Nat) (zero : Bool) (sent : BitVec 16) : Nat × Nat :=
  if sent = 0 then (dflt, dflt)
  else if zero && sent == 65535#16 then (0, 0)
  else (sent.toNat, max lo (min hi sent.toNat))

/-- The seventeen tuning fields, each as (asked for, held), by the ranges and defaults of the tuning
table and R13; step 4 lowers W_win to floor(L/8). -/
def tuning (f : ConfigFields) : List (Nat × Nat) :=
  let win := tune 1 255 40 false f.wWin
  [ tune 2 6 4 false f.c,
    (win.1, min win.2 (f.loopLen.toNat / 8)),
    tune 10 1000 200 false f.divertReach,
    tune 16 32 24 false f.w,
    tune 1 15 4 false f.lapLimit,
    tune 60 7200 1800 false f.chilledBudget,
    tune 60 3600 900 false f.frozenBudget,
    tune 0 1800 300 true f.alert,
    tune 6 60 20 false f.stale,
    tune 0 2047 256 true f.g,
    tune 0 4095 600 true f.urgentSlack,
    tune 2 15 4 false f.lockRun,
    tune 1 255 20 false f.attemptLimit,
    tune 1 15 3 false f.missLimit,
    tune 500 10000 4000 false f.moveTime,
    tune 5 120 30 false f.mergeWait,
    tune 200 3000 800 false f.settle ]

/-- Some tuning field is held at a value other than the one asked for (R13). -/
def isClamped (f : ConfigFields) : Bool := (tuning f).any fun p => p.1 != p.2

/-- The record that an accepted CONFIGURE stores: the structural fields as sent, the tuning fields as
R13 holds them and the derived values of R14. -/
def recordOf (f : ConfigFields) : Record :=
  let held := fun i => ((tuning f).map Prod.snd).getD i 0
  { station := ⟨f.station.toNat % 32, Nat.mod_lt _ (by decide)⟩
    loopLen := f.loopLen.toNat
    pR := f.pR.toNat
    pM := f.pM.toNat
    c := held 0
    wWin := held 1
    divertReach := held 2
    w := held 3
    lapLimit := held 4
    chilledBudget := held 5
    frozenBudget := held 6
    alert := held 7
    stale := held 8
    g := held 9
    urgentSlack := held 10
    lockRun := held 11
    attemptLimit := held 12
    missLimit := held 13
    moveTime := held 14
    mergeWait := held 15
    settle := held 16
    chilledMargin := min (held 7) (held 5 - 1)
    frozenMargin := min (held 7) (held 6 - 1)
    refreshPeriod := held 8 / 2
    productTop := 2 ^ (held 3 - 1) - 1
    serviceBottom := 2 ^ 32 - 2 ^ (held 3 - 1) }

/-- The record's 21 fields in CONFIGURE order, as READ_CONFIG returns them (R15, R161). -/
def recordFields (r : Record) : List Nat :=
  [r.station.val, r.loopLen, r.pR, r.pM, r.c, r.wWin, r.divertReach, r.w, r.lapLimit,
    r.chilledBudget, r.frozenBudget, r.alert, r.stale, r.g, r.urgentSlack, r.lockRun,
    r.attemptLimit, r.missLimit, r.moveTime, r.mergeWait, r.settle]

/-! ### Tote numbers (R4) and a received frame's field values (R60) -/

/-- The kind of a tote number by the derived range ends of R14 (R4). -/
def toteKind (r : Record) (n : ToteNo) : ToteKind :=
  if n = 0 then .unknown
  else if n.toNat ≤ r.productTop then .product
  else if r.serviceBottom ≤ n.toNat then .service
  else .nonCanonical

def isProduct (r : Record) (n : ToteNo) : Bool := toteKind r n == .product

/-- Class 0..2 and position 0..L-1 (R60). -/
def announcementOk (r : Record) (a : Announcement) : Bool :=
  (classOfCode a.cls).isSome && decide (a.position.toNat < r.loopLen)

/-- The value checks of R60. -/
def frameValuesOk (r : Record) (f : Frame) : Bool :=
  match f.body with
  | .state able => f.tote == 0 && decide (able.toNat ≤ 1)
  | .infeed a => isProduct r f.tote && announcementOk r a
  | .release a => isProduct r f.tote && announcementOk r a
  | .want w => isProduct r f.tote && decide (w.toNat ≤ 5631)
  | .ret => isProduct r f.tote
  | .drop => isProduct r f.tote
  | .hold => isProduct r f.tote

end Sys2Proof.Machine
end

