-- ==== Sys2Proof/Machine/Flags.lean ====
section
/-! DEFINITION. What the blocks work out from the state without changing it: loop arithmetic (R1, R3,
R11), placement and workability (R17), the claim weight (R36 to R38), cold time (R43 to R46), the
urgent test (R47), the rival weight (R76), occupancy (R123), sensor accounting (R125), able (R147)
and ATTN (R163). -/

namespace Sys2Proof.Machine

/-! ### Loop and clock arithmetic -/

/-- dist(a→b) = (b − a) mod L (R1). -/
def dist (loopLen a b : Nat) : Nat := (((b : Int) - (a : Int)) % (loopLen : Int)).toNat

/-- The signed reading of a 16-bit difference (R3). -/
def signed16 (x : Count) : Int := x.toInt

/-- How far the count `e` lies ahead of the current count; negative when behind (R3). -/
def aheadOf (e current : Count) : Int := signed16 (e - current)

/-- The deviation of a reading at count `c` from an expected count `e` (R3). -/
def deviation (c e : Count) : Int := signed16 (c - e)

/-- Elapsed bench time (R11). -/
def elapsed (t t0 : Clock) : Nat := (t - t0).toNat

/-- Time to a deadline, signed (R11). -/
def timeTo (deadline t : Clock) : Int := (deadline - t).toInt

/-- Laps with an addition, held at 255 (R7). -/
def addLap (laps : Nat) : Nat := min 255 (laps + 1)

/-! ### Access to the state -/

/-- The configuration that the blocks read. -/
def State.conf (s : State) : Record := s.cfg.getD Record.unset

def State.mode (s : State) : BenchMode := s.modeCtl.mode

/-- The part is in a configured mode (R146). -/
def State.configured (s : State) : Bool := s.modeCtl.mode != .unconfigured

/-! ### Put Map and lines -/

/-- The position of a handle (R35). -/
def positionOf (puts : Vector (Option Order) 16) (h : Handle) : Option PutIdx :=
  allPuts.find? fun k => (puts[k]).any fun o => o.handle == h

/-- The handle is placed (R17). -/
def isPlaced (puts : Vector (Option Order) 16) (h : Handle) : Bool := (positionOf puts h).isSome

/-- The deadline of a placed handle (R35). -/
def deadlineOf (puts : Vector (Option Order) 16) (h : Handle) : Option Clock :=
  (positionOf puts h).bind fun k => (puts[k]).map Order.deadline

/-- The open states of R17. -/
def LineState.isOpen : LineState → Bool
  | .waiting | .active | .suspended | .held => true
  | .done | .short | .cancelled => false

/-- A line is workable while it is WAITING and placed (R17). -/
def isWorkable (puts : Vector (Option Order) 16) (l : Line) : Bool :=
  l.state == .waiting && isPlaced puts l.handle

/-- The workable lines of tote T, in load order. -/
def workableOf (lines : List Line) (puts : Vector (Option Order) 16) (T : ToteNo) : List Line :=
  lines.filter fun l => l.tote == T && isWorkable puts l

/-- T has a workable line (R30). -/
def hasWorkable (lines : List Line) (puts : Vector (Option Order) 16) (T : ToteNo) : Bool :=
  !(workableOf lines puts T).isEmpty

/-- The ACTIVE line; there is at most one (R19). -/
def activeLine (lines : List Line) : Option Line := lines.find? fun l => l.state == .active

/-- The SUSPENDED line of tote T (R23). -/
def suspendedOf (lines : List Line) (T : ToteNo) : Option Line :=
  lines.find? fun l => l.state == .suspended && l.tote == T

/-- The Demand Table's answer to the request for a line to work at the face (R23). -/
def lineToWork (lines : List Line) (puts : Vector (Option Order) 16) (T : ToteNo) : Option Line :=
  match suspendedOf lines T with
  | some l => some l
  | none => (workableOf lines puts T).head?

/-- The tote numbers of the lines, in the load order of each tote's first line (R29, R42). -/
def toteOrder (lines : List Line) : List ToteNo :=
  lines.foldl (fun acc l => if acc.contains l.tote then acc else acc ++ [l.tote]) []

/-- The coldest class among T's open lines, AMBIENT where it has none (R30). -/
def classFromLines (lines : List Line) (T : ToteNo) : TempClass :=
  let cs := (lines.filter fun l => l.tote == T && l.state.isOpen).map Line.cls
  if cs.contains .frozen then .frozen
  else if cs.contains .chilled then .chilled
  else .ambient

/-- The condition of an order's readiness, for a placed handle (R34). -/
def orderReady (lines : List Line) (h : Handle) : Bool :=
  let ls := lines.filter fun l => l.handle == h
  !ls.isEmpty && ls.all fun l => !l.state.isOpen

/-! ### The claim weight (R36 to R38) -/

/-- The times to the deadlines of the lines' orders. -/
def slacks (puts : Vector (Option Order) 16) (t : Clock) (ls : List Line) : List Int :=
  ls.filterMap fun l => (deadlineOf puts l.handle).map fun d => timeTo d t

/-- U = 4095 − S, with S clamped to 0..4095 (R37). -/
def urgencyTerm (slack : Int) : Nat := 4095 - (min 4095 (max 0 slack)).toNat

/-- N = 64 × min(n, 8) (R38). -/
def lineTerm (n : Nat) : Nat := 64 * min n 8

/-- B is 1024 where one of the lines is EXPRESS (R38). -/
def expressTerm (ls : List Line) : Nat := if ls.any fun l => l.prio == .express then 1024 else 0

/-- The claim weight of T at bench time t, or no weight where T has no workable line (R36). -/
def claimWeight (lines : List Line) (puts : Vector (Option Order) 16) (t : Clock) (T : ToteNo) :
    Option Nat :=
  let ls := workableOf lines puts T
  if ls.isEmpty then none
  else some (((slacks puts t ls).min?.elim 0 urgencyTerm) + lineTerm ls.length + expressTerm ls)

/-- The smallest time to deadline among the orders of T's workable EXPRESS lines (R30). -/
def expressSlack (lines : List Line) (puts : Vector (Option Order) 16) (t : Clock) (T : ToteNo) :
    Option Int :=
  (slacks puts t ((workableOf lines puts T).filter fun l => l.prio == .express)).min?

/-! ### Cold time (R43 to R46) -/

/-- The cold budget of a class; AMBIENT has none (R6). -/
def budget (r : Record) : TempClass → Nat
  | .ambient => 0
  | .chilled => r.chilledBudget
  | .frozen => r.frozenBudget

/-- The alert margin of a class (R6, R14). -/
def alertMargin (r : Record) : TempClass → Nat
  | .ambient => 0
  | .chilled => r.chilledMargin
  | .frozen => r.frozenMargin

def ColdRef.isKnown : ColdRef → Bool
  | .known _ _ => true
  | .unknown _ => false

/-- The cold used now (R43, R45). -/
def coldUsed (r : Record) (cls : TempClass) (ref : ColdRef) (t : Clock) : Nat :=
  match ref with
  | .known used time => used + elapsed t time
  | .unknown time => budget r cls - alertMargin r cls + elapsed t time

/-- The remaining cold time of a CHILLED or FROZEN tote (R43, R45). -/
def coldRemaining (r : Record) (cls : TempClass) (ref : ColdRef) (t : Clock) : Int :=
  match ref with
  | .known used time => (budget r cls : Int) - ((used + elapsed t time : Nat) : Int)
  | .unknown time => (alertMargin r cls : Int) - (elapsed t time : Int)

/-- The cold standing, which an AMBIENT tote does not have (R44). -/
def standingOf (r : Record) (cls : TempClass) (ref : ColdRef) (t : Clock) : Option Standing :=
  if cls = .ambient then none
  else
    let rem := coldRemaining r cls ref t
    if rem ≤ 0 then some .breached
    else if rem ≤ (alertMargin r cls : Int) then some .alert
    else some .clear

/-- The cold used figure of a RELEASE (R46). -/
def releaseColdUsed (r : Record) (cls : TempClass) (ref : ColdRef) (t : Clock) : BitVec 16 :=
  if ref.isKnown || cls != .ambient then BitVec.ofNat 16 (min 65535 (coldUsed r cls ref t)) else 0

/-- The cold standing of a lane record; AMBIENT records and strays are not watched (R121). -/
def laneStanding (r : Record) (t : Clock) (rec : LaneRec) : Option Standing :=
  if rec.tote = 0 then none else standingOf r rec.cls rec.cold t

/-! ### Divert records (R104, R106) -/

/-- The cold reference of a divert record (R104). -/
def divertCold (d : DivertRec) : ColdRef := (d.entry.map EntryPart.cold).getD (.unknown d.takeTime)

/-- The class of a divert record: its entry part's where the reference is KNOWN, and otherwise from
the tote's lines (R104, R106, R160). -/
def divertClass (lines : List Line) (d : DivertRec) : TempClass :=
  match d.entry with
  | some p => if p.cold.isKnown then p.cls else classFromLines lines d.tote
  | none => classFromLines lines d.tote

/-- The laps of a divert record (R104). -/
def divertLaps (d : DivertRec) : Nat := (d.entry.map EntryPart.laps).getD 0

/-! ### The urgent test (R47) -/

def isUrgent (r : Record) (lines : List Line) (puts : Vector (Option Order) 16) (t : Clock)
    (rec : LaneRec) : Bool :=
  rec.tote != 0 &&
    ((match laneStanding r t rec with
      | some .alert => true
      | some .breached => true
      | _ => false) ||
     (match expressSlack lines puts t rec.tote with
      | some slack => decide (slack ≤ (r.urgentSlack : Int))
      | none => false))

/-- The urgent flag that R48 gives a lane record in this state. -/
def State.urgentNow (s : State) (rec : LaneRec) : Bool :=
  isUrgent s.conf s.demand.lines s.puts s.clock rec

/-! ### Interest Board (R76) -/

/-- The entry counts in the rival weight of T: its weight, where it does. -/
def rivalOf (stations : Vector StationRec 32) (T : ToteNo) (e : InterestEntry) : Option Nat :=
  if e.tote = T ∧ stations[e.station].heard = true ∧ stations[e.station].able = true then e.weight
  else none

/-- The rival weight Wr of T (R76). -/
def rivalWeight (b : Board) (T : ToteNo) : Nat :=
  (b.entries.filterMap (rivalOf b.stations T)).foldl max 0

/-! ### The lane -/

/-- The queue records: divert records in flight and queued records (R96). -/
def State.queueRecords (s : State) : Nat := s.divert.records.length + s.lane.queue.length

/-- T is in the own lane (R62). -/
def State.inOwnLane (s : State) (T : ToteNo) : Bool :=
  (s.divert.records.any fun d => d.tote == T) || (s.lane.queue.any fun q => q.tote == T) ||
    (s.lane.faceRec.any fun q => q.tote == T) || (s.lane.parkRec.any fun q => q.tote == T)

/-- The lane is empty (R123). -/
def State.laneEmpty (s : State) : Bool :=
  s.divert.records.isEmpty && s.lane.queue.isEmpty && s.lane.parkRec.isNone &&
    s.lane.face == .empty

def sensorOf (ss : Sensors) : Sensor → SensorRec
  | .entry => ss.entry
  | .head => ss.head
  | .face => ss.face
  | .park => ss.park
  | .exit => ss.exit

def State.isBlocked (s : State) (x : Sensor) : Bool := (sensorOf s.lane.sensors x).blocked

/-- The lane is clear (R123). -/
def State.laneClear (s : State) : Bool :=
  s.laneEmpty && (allSensors.all fun x => !s.isBlocked x) && s.lane.jam.isNone

/-- A record accounts for a blocked sensor (R125). In SWEEPING only the entry sensor is timed, and in
UNCONFIGURED none is. -/
def State.accounted (s : State) (x : Sensor) : Bool :=
  if s.mode = .unconfigured then true
  else
    match x with
    | .entry => false
    | .head =>
        s.mode == .sweeping || !s.lane.queue.isEmpty ||
          (s.lane.face == .arriving && s.lane.faceRec.any fun q => q.source == .queue)
    | .face => s.mode == .sweeping || s.lane.faceRec.isSome || s.lane.face == .parking
    | .park =>
        s.mode == .sweeping || s.lane.parkRec.isSome ||
          (s.lane.face == .arriving && s.lane.faceRec.any fun q => q.source == .park)
    | .exit => s.mode == .sweeping || s.lane.face == .leaving

/-- The drive outputs of a face state, all off while the lane is jammed (R111, R126, R127). -/
def drivesOf (l : Lane) : Drives :=
  if l.jam.isSome then .off
  else
    match l.face with
    | .arriving =>
        if l.faceRec.any fun q => q.source == .park then
          { advance := false, transfer := .towardFace, exit := false }
        else { advance := true, transfer := .off, exit := false }
    | .parking => { advance := false, transfer := .towardPark, exit := false }
    | .leaving => { advance := false, transfer := .off, exit := true }
    | .empty => .off
    | .presenting => .off
    | .releasing => .off

/-- The able condition as its three parts give it (R147). -/
def State.ableNow (s : State) : Bool :=
  s.mode == .active && s.lane.jam.isNone && decide (s.queueRecords < s.conf.c)

/-- The queue head's urgent flag is set. -/
def Lane.headUrgent (l : Lane) : Bool := l.queue.head?.any LaneRec.urgent

/-! ### Notices (R163) -/

/-- A source is eligible while it is pending and enabled. -/
def NoticeRec.eligible (n : NoticeRec) : Bool := n.pending && n.enable

/-- ATTN is asserted while an eligible source has a level above the floor. -/
def attnOf (sources : Vector NoticeRec 19) (floor : Nat) : Bool :=
  sources.toList.any fun n => n.eligible && decide (floor < n.level)

/-! ### Frames of the transmit queue -/

/-- The key of a frame in the transmit queue (R55). The part requests no class-0 frame (R49); the
fourth constructor only makes the function total. -/
inductive TxKey where
  | state
  | holdRelease (T : ToteNo)
  | wantDrop (T : ToteNo)
  | classZero (T : ToteNo)
  deriving DecidableEq, Repr

def frameKey (f : Frame) : TxKey :=
  match f.body with
  | .state _ => .state
  | .hold => .holdRelease f.tote
  | .release _ => .holdRelease f.tote
  | .want _ => .wantDrop f.tote
  | .drop => .wantDrop f.tote
  | .infeed _ => .classZero f.tote
  | .ret => .classZero f.tote

/-! ### The line read back (R51, R52) -/

/-- The level of the line, bit by bit, while two senders drive the character of the arbitration byte: a
driven 0 overrides a released 1, and the sender that released it stops driving at once (R51). -/
def lineLevel : List Bool → List Bool → List Bool
  | a :: as, b :: bs => if a = b then a :: lineLevel as bs else false :: (if a then bs else as)
  | _, _ => []

/-- The place of the first bit that was read back otherwise than it was meant. -/
def firstMismatch : List Bool → List Bool → Option Nat
  | m :: ms, r :: rs => if m = r then (firstMismatch ms rs).map (· + 1) else some 0
  | _, _ => none

/-- Arbitration is lost: of the arbitration byte's data bits, bits 1 to 8 of the first character, a
released 1 was read back as 0 (R51). -/
def lostArbitration (meant readBack : List Bool) : Bool :=
  match firstMismatch meant readBack with
  | some n => decide (1 ≤ n ∧ n ≤ 8) && (meant[n]?).getD false
  | none => false

/-- The outcome of an attempt from the bits meant and the bits read back (R52): LOST at the first
mismatch, SENT once every bit has been sent and matched; without either the attempt is not over. A
mismatch that R51 and R52 do not name (a 0 of the arbitration byte's character read as 1, its start or
stop bit) makes the attempt LOST too: DEDUCED, log 28. -/
def attemptOutcome (meant readBack : List Bool) : Option AttemptOutcome :=
  match firstMismatch meant readBack with
  | some _ => some .lost
  | none => if meant.length ≤ readBack.length then some .sent else none

/-- The bits that the transmitter puts on the line: all of them, or those up to the mismatched one, at
which it stops (R51, R52). -/
def bitsDriven (meant readBack : List Bool) : List Bool :=
  match firstMismatch meant readBack with
  | some n => meant.take (n + 1)
  | none => meant

end Sys2Proof.Machine
end

