-- ==== Sys2Proof/Machine/Ops.lean ====
section
/-! DEFINITION. The operations the commands share: raising a notice (R162), requesting a frame (R54 to
R57), replying (R156), want records (R29, R40), readiness (R34), the lights (R131, R132), the urgent
flags (R48), preemption and the park (R115, R116), release (R118), the fill (R112, R128), jams (R126),
the bench mode (R148 to R153), the expected arrival list (R79 to R85), the tracker lock (R90, R91) and
the Cold Monitor (R121, R122). -/

namespace Sys2Proof.Machine

/-! ### One field of the state replaced -/

def State.withLines (s : State) (ls : List Line) : State := { s with demand.lines := ls }

def State.withWants (s : State) (ws : List WantRec) : State := { s with demand.wants := ws }

def State.withTx (s : State) (q : List Frame) : State := { s with bus.queue := q }

def State.withLane (s : State) (l : Lane) : State := { s with lane := l }

def State.withModeCtl (s : State) (m : ModeCtl) : State := { s with modeCtl := m }

/-! ### Free values -/

/-- A list begun at its k-th place, wrapping. -/
def rotateBy {α : Type} (k : Nat) (l : List α) : List α :=
  l.drop (k % l.length) ++ l.take (k % l.length)

/-- The order in which causes of one millisecond are taken: free where there is more than one (log
10). -/
def State.freeOrder {α : Type} (s : State) (l : List α) : List α :=
  match l with
  | [] => []
  | [x] => [x]
  | x :: y :: rest => rotateBy (Config.freeOrder s.freeDraws) (x :: y :: rest)

/-- A free order of `l` was drawn. -/
def State.drawn {α : Type} (s : State) (l : List α) : State :=
  { s with freeDraws := s.freeDraws + (if l.length ≤ 1 then 0 else 1) }

/-! ### Notices (R162, R163) -/

/-- An event of a source: the flag is set, the event counted, the first detail kept (R162). -/
def bumpNotice (detail : BitVec 32) (n : NoticeRec) : NoticeRec :=
  if n.pending then { n with count := min 255 (n.count + 1) }
  else { n with pending := true, count := 1, detail := detail }

/-- ATTN worked out again (R163). -/
def workAttn (n : Notices) : Notices := { n with attn := attnOf n.sources n.floor }

/-- A source's record changed, and ATTN worked out again. -/
def State.changeNotice (s : State) (src : NoticeSource) (f : NoticeRec → NoticeRec) : State :=
  { s with notices :=
      workAttn { s.notices with sources := modifyVec src.index f s.notices.sources } }

/-- A block raises a source (R162). -/
def State.raise (s : State) (src : NoticeSource) (detail : BitVec 32) : State :=
  s.changeNotice src (bumpNotice detail)

/-- Flag, count and detail cleared; enable and level kept (R165). -/
def clearNoticeRec (n : NoticeRec) : NoticeRec :=
  { n with pending := false, count := 0, detail := 0 }

/-! ### Frame requests (R54 to R57) -/

/-- The class-3 frame whose key entered the queue last is taken out (R57). -/
def dropNewestClass3 (q : List Frame) : List Frame :=
  (q.reverse.eraseP fun f => f.body.lineClass == 3).reverse

/-- A requested frame meets the queue (R55, R57): the queue afterwards, and whether the new frame is
abandoned with FRAME_ABANDONED. -/
def enqueue (q : List Frame) (f : Frame) : List Frame × Bool :=
  if q.any fun g => frameKey g == frameKey f then
    (q.map fun g => if frameKey g = frameKey f then f else g, false)
  else if q.length < 16 then (q ++ [f], false)
  else if f.body.lineClass = 3 then (q, false)
  else if q.any fun g => g.body.lineClass == 3 then (dropNewestClass3 q ++ [f], false)
  else (q, true)

/-- A block requests a frame (R54): discarded unless the transmitter is ON. -/
def State.request (s : State) (T : ToteNo) (body : FrameBody) : State :=
  if s.bus.tx = .on then
    let f : Frame := { sender := s.bus.ownStation.getD 0, tote := T, body := body }
    let r := enqueue s.bus.queue f
    let s1 := s.withTx r.1
    if r.2 then s1.raise .frameAbandoned T else s1
  else s

/-- STATE with the able condition as the Mode Controller holds it (R54, R148). -/
def State.requestState (s : State) : State := s.request 0 (.state (boolCode s.modeCtl.able))

/-! ### The line (R51) -/

/-- The time of 12 bits passes without a frame on the line: where the receiver is on, the line is idle
(R51). -/
def Bus.gapOver (b : Bus) : Bus :=
  { b with line := if b.rxOn && b.line == .gap then .idle else b.line }

/-! ### Replies (R156, R157) -/

/-- A reply frame: code, status, fields, check. -/
def replyFrame (code : Byte) (status : Status) (fields : List Byte) : List Byte :=
  withCheckByte ([code, statusCode status] ++ fields)

/-- The command's reply is placed in the reply slot. -/
def State.reply (s : State) (code : Byte) (status : Status) (fields : List Byte := []) : State :=
  { s with link.reply := replyFrame code status fields }

/-- A command that UNCONFIGURED refuses with NOT_CONFIGURED (R157). -/
def State.whenConfigured (s : State) (code : Byte) (effect : State → State) : State :=
  if s.configured then effect s else s.reply code .notConfigured

/-! ### Lines, want records and readiness -/

/-- The line with this tag takes a new state (R19). -/
def State.setLineState (s : State) (tag : Tag) (st : LineState) : State :=
  s.withLines (s.demand.lines.map fun l => if l.tag = tag then { l with state := st } else l)

/-- The want record of T. -/
def State.wantOf (s : State) (T : ToteNo) : Option WantRec :=
  s.demand.wants.find? fun w => w.tote == T

/-- The claim weight of T now (R36, R39). -/
def State.weightOf (s : State) (T : ToteNo) : Option Nat :=
  claimWeight s.demand.lines s.puts s.clock T

/-- WANT(T, W) is requested, and W and the time are stored as the last announcement (R40). -/
def State.announce (s : State) (T : ToteNo) (W : Nat) : State :=
  (s.withWants (s.demand.wants.map fun w =>
      if w.tote = T then { w with weight := W, time := s.clock } else w)).request T
    (.want (BitVec.ofNat 16 W))

/-- The refresh period has passed since the record's last announcement (R41). -/
def State.refreshDue (s : State) (w : WantRec) : Bool :=
  decide (s.conf.refreshPeriod ≤ elapsed s.clock w.time)

/-- An announcement check of T's want record (R40, R42). -/
def State.checkWant (s : State) (T : ToteNo) : State :=
  match s.wantOf T, s.weightOf T with
  | some w, some W =>
      if 128 ≤ max W w.weight - min W w.weight ∨ s.refreshDue w = true then s.announce T W else s
  | _, _ => s

/-- T's want record is re-derived (R29): created with a WANT, removed with a DROP, or checked. -/
def State.deriveWant (s : State) (T : ToteNo) : State :=
  match s.wantOf T, s.weightOf T with
  | none, some W =>
      (s.withWants (s.demand.wants ++ [{ tote := T, weight := W, time := s.clock }])).request T
        (.want (BitVec.ofNat 16 W))
  | some _, none =>
      (s.withWants (s.demand.wants.filter fun w => w.tote != T)).request T .drop
  | some _, some _ => s.checkWant T
  | none, none => s

/-- Announcement checks of several totes, in the load order of each tote's first line (R42). -/
def State.checkWants (s : State) (p : ToteNo → Bool) : State :=
  ((toteOrder s.demand.lines).filter p).foldl State.checkWant s

/-- Want records of several totes re-derived, in the load order of each tote's first line (R29). -/
def State.deriveWants (s : State) (p : ToteNo → Bool) : State :=
  ((toteOrder s.demand.lines).filter p).foldl State.deriveWant s

/-- The ready flag of a placed handle is re-evaluated (R34). -/
def State.reready (s : State) (h : Handle) : State :=
  match positionOf s.puts h with
  | none => s
  | some k =>
    match s.puts[k] with
    | none => s
    | some o =>
      let now := orderReady s.demand.lines h
      let s1 := { s with puts := s.puts.set k (some { o with ready := now }) }
      if now && !o.ready then s1.raise .orderReady (h.setWidth 32) else s1

/-! ### The picker outputs (R131, R132) -/

/-- The line, made ACTIVE, is lit at its order's position (R131). -/
def State.light (s : State) (l : Line) : State :=
  let k := positionOf s.puts l.handle
  { s with picker :=
      { s.picker with active := k, toteLight := true, display := some (l.qty - l.puts),
                      putLight := k } }

/-- A line leaves ACTIVE: lights off, settle at the active position, no active position (R132,
R138). -/
def State.leaveActive (s : State) : State :=
  { s with picker :=
      { s.picker with
        settles := (match s.picker.active with
          | some k => s.picker.settles.set k (some s.conf.settle)
          | none => s.picker.settles)
        active := none, toteLight := false, display := none, putLight := none } }

/-! ### Lane records -/

/-- Every queued, face and park record changed alike. -/
def State.updRecs (s : State) (f : LaneRec → LaneRec) : State :=
  s.withLane { s.lane with queue := s.lane.queue.map f, faceRec := s.lane.faceRec.map f,
                           parkRec := s.lane.parkRec.map f }

/-- The lane record of T. -/
def State.laneRecOf (s : State) (T : ToteNo) : Option LaneRec :=
  (s.lane.queue ++ s.lane.faceRec.toList ++ s.lane.parkRec.toList).find? fun q => q.tote == T

/-- The record of T changed. -/
def State.updRec (s : State) (T : ToteNo) (f : LaneRec → LaneRec) : State :=
  s.updRecs fun q => if q.tote = T then f q else q

/-- A lane record as it is made: every mark clear (R109). -/
def newLaneRec (T : ToteNo) (cls : TempClass) (cold : ColdRef) (laps : Nat) : LaneRec where
  tote := T
  cls := cls
  cold := cold
  laps := laps
  urgent := false
  stage := .queued
  alertMark := false
  breachMark := false
  refusalMark := false
  stallMark := false
  source := .queue
  savedTag := none
  mergeWait := 0

/-- The record of a stray: tote number 0, class AMBIENT, laps 0, UNKNOWN reference stamped with the
bench time (R105; for the records the sweep makes, log 19). -/
def strayRec (t : Clock) : LaneRec := newLaneRec 0 .ambient (.unknown t) 0

/-! ### Preemption and the park (R115, R116) -/

/-- The face tote is parked (R116). -/
def State.parkFace (s : State) : State :=
  match s.lane.faceRec with
  | none => s
  | some q =>
    let a := activeLine s.demand.lines
    let s1 := match a with
      | some l => (s.setLineState l.tag .suspended).leaveActive
      | none => s
    s1.withLane
      { s1.lane with
        faceRec := none
        parkRec := some { q with stage := .park, savedTag := a.map Line.tag }
        face := .parking
        waits := { s1.lane.waits with park := some 0 } }

/-- The first four conditions of the preemption check (R115). -/
def State.preemptWanted (s : State) : Bool :=
  s.mode == .active && s.lane.jam.isNone && s.lane.headUrgent && s.lane.face == .presenting &&
    s.lane.faceRec.any fun q => !q.urgent

/-- The preemption check (R115): the face tote is parked, or PARK_REFUSED is raised once for the
head. -/
def State.preemptCheck (s : State) : State :=
  if s.preemptWanted then
    match s.lane.parkRec, s.lane.queue with
    | none, _ => s.parkFace
    | some _, q :: rest =>
        if q.refusalMark then s
        else
          (s.withLane { s.lane with queue := { q with refusalMark := true } :: rest }).raise
            .parkRefused q.tote
    | some _, [] => s
  else s

/-- The third moment of R115: an urgent record stands newly at the queue's head, and the check is made
if the ACTIVE line at the face has taken no put. -/
def State.headTurnedUrgent (s : State) : State :=
  if s.lane.face == .presenting && (activeLine s.demand.lines).any fun l => l.puts == 0 then
    s.preemptCheck
  else s

/-- The urgent flags of the records whose tote satisfies `p` are re-evaluated (R48), and a queue head
that becomes urgent makes its check (R115). Every flag stands before the check is made, so the check sees
the face record's new flag: DESIGN CHOICE, log 31. -/
def State.reurgent (s : State) (p : ToteNo → Bool) : State :=
  let s1 := s.updRecs fun q => if p q.tote then { q with urgent := s.urgentNow q } else q
  if s1.lane.headUrgent && !s.lane.headUrgent then s1.headTurnedUrgent else s1

/-! ### Release (R114, R118) -/

/-- RELEASING moves to LEAVING when the gap is present and the lane is not jammed (R118). -/
def State.tryLeave (s : State) : State :=
  if s.lane.face == .releasing && s.lane.gap && s.lane.jam.isNone then
    s.withLane { s.lane with face := .leaving, waits := { s.lane.waits with merge := some 0 } }
  else s

/-- The face enters RELEASING (R118). -/
def State.beginRelease (s : State) : State :=
  (s.withLane
    { s.lane with
      face := .releasing
      faceRec := s.lane.faceRec.map fun q =>
        { q with mergeWait := 0, stallMark := false } }).tryLeave

/-- The ACTIVE line returns to WAITING with its put count kept (R26, R140). -/
def State.returnActive (s : State) : State :=
  match activeLine s.demand.lines with
  | none => s
  | some l =>
    (((s.setLineState l.tag .waiting).leaveActive).deriveWant l.tote).reurgent (· == l.tote)

/-- The face leaves PRESENTING for RELEASING (R114). -/
def State.releasePresenting (s : State) : State := s.returnActive.beginRelease

/-! ### The line at the face (R23, R135) -/

/-- The Pick Controller asks for the line to work and makes it ACTIVE and lit; with none, the face goes
to RELEASING (R23, R114, R131). -/
def State.requestLine (s : State) : State :=
  match s.lane.faceRec with
  | none => s
  | some q =>
    match lineToWork s.demand.lines s.puts q.tote with
    | none => s.beginRelease
    | some l =>
      (((s.setLineState l.tag .active).light l).deriveWant l.tote).reurgent (· == l.tote)

/-- A line boundary from the end of step 1 on (R135): the urgent flags, readiness, then the mode test,
the preemption check and the next line. The line has its new state and its notice is raised. -/
def State.lineBoundary (s : State) (l : Line) : State :=
  let s1 := (s.reurgent (· == l.tote)).reready l.handle
  if s1.lane.face = .presenting then
    if s1.mode = .draining then s1.beginRelease
    else
      let s2 := s1.preemptCheck
      if s2.lane.face = .parking then s2 else s2.requestLine
  else s1

/-! ### The fill (R112, R128) -/

/-- A record becomes the face record and the face ARRIVING; the arrival wait starts and a fill has been
made (R112, R124). -/
def State.beginArriving (s : State) (q : LaneRec) (source : FaceSource) : State :=
  s.withLane
    { s.lane with
      face := .arriving
      faceRec := some { q with source := source }
      preempted := false
      waits := { s.lane.waits with arrival := some 0 } }

/-- Steps 3 and 4 of the fill: the queue head to the face, the wait for the head sensor, and in
SWEEPING the head case of R128. -/
def State.fillHead (s : State) : State :=
  match s.lane.queue with
  | q :: rest =>
    if s.isBlocked .head then
      (s.withLane
        { s.lane with queue := rest, waits := { s.lane.waits with head := none } }).beginArriving
        q .queue
    else
      s.withLane
        { s.lane with waits := { s.lane.waits with head := some (s.lane.waits.head.getD 0) } }
  | [] =>
    if s.mode == .sweeping && s.isBlocked .head then s.beginArriving (strayRec s.clock) .queue
    else s

/-- The fill (R112), with the sweep's face-or-exit case before it and its park and head cases inside it
(R128). -/
def State.fill (s : State) : State :=
  if s.lane.face != .empty || s.lane.jam.isSome then s
  else if s.mode == .sweeping && (s.isBlocked .face || s.isBlocked .exit) then
    (s.withLane
      { s.lane with
        faceRec := some { strayRec s.clock with stage := .face }
        preempted := false }).beginRelease
  else if s.lane.preempted then s.fillHead
  else
    match s.lane.parkRec with
    | some q => (s.withLane { s.lane with parkRec := none }).beginArriving q .park
    | none =>
      if s.mode == .sweeping && s.isBlocked .park then
        s.beginArriving { strayRec s.clock with stage := .park } .park
      else s.fillHead

/-! ### Jams (R126) -/

/-- The lane becomes jammed with this detail sensor; a jam in force is kept (R105, R126). -/
def State.jamLane (s : State) (x : Sensor) : State :=
  if s.lane.jam.isSome then s
  else
    (s.withLane { s.lane with jam := some x }).raise .laneJam (BitVec.ofNat 32 (sensorCode x))

/-! ### The bench mode (R63, R147 to R153) -/

/-- The transmitter follows the bench mode (R63). -/
def busOnMode (b : Bus) (m : BenchMode) : Bus :=
  match m with
  | .rest =>
      if b.tx = .on then
        { b with tx := if b.queue.isEmpty && b.slot.isNone then .listenOnly else .closing }
      else b
  | .unconfigured => b
  | .sweeping => { b with tx := .on }
  | .active => { b with tx := .on }
  | .draining => { b with tx := .on }

/-- The bench mode changes: MODE_CHANGED, the transmitter, able, and STATE unless the change is into
REST (R148). -/
def State.enterMode (s : State) (m : BenchMode) : State :=
  let s1 := (s.withModeCtl { s.modeCtl with mode := m }).raise .modeChanged
    (BitVec.ofNat 32 (modeCode m))
  let s2 := { s1 with bus := busOnMode s1.bus m }
  let s3 := s2.withModeCtl { s2.modeCtl with able := s2.ableNow }
  if m = .rest then s3 else s3.requestState

def SweepReturn.toMode : SweepReturn → BenchMode
  | .active => .active
  | .rest => .rest

/-- The lane-clear test that ends a sweep (R152). -/
def State.sweepTest (s : State) : State :=
  if s.mode == .sweeping && s.laneClear then s.enterMode s.modeCtl.sweepReturn.toMode else s

/-- The lane-empty test that ends a drain (R151). -/
def State.drainTest (s : State) : State :=
  if s.mode == .draining && s.laneEmpty then s.enterMode .rest else s

/-- SWEEPING is entered with this sweep return: the mode change, the fill and the lane-clear test
(R128, R152). -/
def State.enterSweeping (s : State) (ret : SweepReturn) : State :=
  (((s.withModeCtl { s.modeCtl with sweepReturn := ret }).enterMode .sweeping).fill).sweepTest

/-! ### The end of an event -/

/-- A sensor's time runs while the sensor is blocked and no record accounts for it (R125). -/
def State.timedSensor (s : State) (x : Sensor) : SensorRec :=
  let q := sensorOf s.lane.sensors x
  { q with time := if q.blocked && !s.accounted x then some (q.time.getD 0) else none }

/-- What follows every event that can touch the lane: the drive outputs (R111), the sensor times (R125)
and the able condition with its STATE (R147, R148). -/
def State.settleLane (s : State) : State :=
  let s1 := s.withLane
    { s.lane with
      drives := drivesOf s.lane
      sensors := { entry := s.timedSensor .entry, head := s.timedSensor .head,
                   face := s.timedSensor .face, park := s.timedSensor .park,
                   exit := s.timedSensor .exit } }
  if s1.ableNow = s1.modeCtl.able then s1
  else (s1.withModeCtl { s1.modeCtl with able := s1.ableNow }).requestState

/-! ### The expected arrival list (R78 to R85) -/

/-- The count has run more than the window past the expected count (R79, R83). -/
def isOverdue (r : Record) (current : Count) (e : EalEntry) : Bool :=
  decide (signed16 (current - e.expected) > (r.wWin : Int))

/-- An entry takes its place nearest first, behind entries of the same expected count (R78). -/
def insertEntry (current : Count) (e : EalEntry) : List EalEntry → List EalEntry
  | [] => [e]
  | x :: xs =>
    if aheadOf e.expected current < aheadOf x.expected current then e :: x :: xs
    else x :: insertEntry current e xs

/-- The entries in the order that R78 gives them at this count; entries of the same expected count keep
their order (log 27). -/
def standInOrder (current : Count) (es : List EalEntry) : List EalEntry :=
  es.foldl (fun acc e => insertEntry current e acc) []

/-- The prediction moved on by one whole lap (R79, step 1). -/
def nextLap (r : Record) (e : EalEntry) : EalEntry :=
  { e with expected := e.expected + BitVec.ofNat 16 r.loopLen, laps := addLap e.laps }

/-- The placing steps of R79, with the crowded arrival of R81. -/
def placeEntry (r : Record) (current : Count) (e0 : EalEntry) (tr : Tracker) : Tracker :=
  let e := if isOverdue r current e0 then nextLap r e0 else e0
  if isOverdue r current e then tr
  else if tr.eal.any fun x => x.tote == e.tote then
    { tr with eal := insertEntry current e (tr.eal.filter fun x => x.tote != e.tote) }
  else if tr.eal.length < 32 then { tr with eal := insertEntry current e tr.eal }
  else
    { tr with
      crowded := true
      eal := (match tr.eal.getLast? with
        | some far =>
            if aheadOf e.expected current < aheadOf far.expected current then
              insertEntry current e tr.eal.dropLast
            else tr.eal
        | none => tr.eal) }

/-- An entry is placed, unless its tote is in the own lane (R79). -/
def State.place (s : State) (e : EalEntry) : State :=
  if s.inOwnLane e.tote then s else { s with tracker := placeEntry s.conf s.count e s.tracker }

/-- T's entry is removed (R82). -/
def State.unexpect (s : State) (T : ToteNo) : State :=
  { s with tracker.eal := s.tracker.eal.filter fun x => x.tote != T }

/-- The entry an announcement predicts at the own reader (R80). -/
def predict (r : Record) (T : ToteNo) (a : Announcement) (t : Clock) : EalEntry where
  tote := T
  expected := a.count + BitVec.ofNat 16 (dist r.loopLen a.position.toNat r.pR)
  cls := (classOfCode a.cls).getD .ambient
  cold := .known a.coldUsed.toNat t
  laps := if r.pR < a.position.toNat then addLap a.laps.toNat else a.laps.toNat

/-- The entry of a tote re-added for its next pass (R84); `eventTime` is the bench time of the reader
event. -/
def reAddEntry (r : Record) (T : ToteNo) (readCount : Count) (eventTime : Clock)
    (part : Option EntryPart) : EalEntry :=
  let e := readCount + BitVec.ofNat 16 r.loopLen
  match part with
  | some p => { tote := T, expected := e, cls := p.cls, cold := p.cold, laps := addLap p.laps }
  | none => { tote := T, expected := e, cls := .ambient, cold := .unknown eventTime, laps := 0 }

/-- A RELEASE of T from this bench (R46, R54): its further fields. -/
def State.releaseFields (s : State) (cls : TempClass) (cold : ColdRef) (laps position : Nat)
    (c : Count) : Announcement where
  cls := classCode cls
  coldUsed := releaseColdUsed s.conf cls cold s.clock
  laps := BitVec.ofNat 8 laps
  position := BitVec.ofNat 16 position
  count := c

/-! ### The tracker lock (R90, R91, R92) -/

/-- An in-window match (R90, R91). -/
def lockMatch (r : Record) (tr : Tracker) : Tracker :=
  match tr.lock with
  | .seeking => { tr with lock := .confirming, run := 1 }
  | .confirming =>
      if r.lockRun ≤ tr.run + 1 then
        { tr with lock := .locked, run := r.lockRun, attempts := 0, misses := 0 }
      else { tr with run := tr.run + 1 }
  | .locked => { tr with misses := 0 }
  | .faulted => tr

/-- A failure in SEEKING or CONFIRMING (R90). -/
def lockAttemptFails (r : Record) (tr : Tracker) : Tracker × Option NoticeSource :=
  if r.attemptLimit ≤ tr.attempts + 1 then
    ({ tr with lock := .faulted, run := 0, attempts := r.attemptLimit }, some .trackFault)
  else ({ tr with lock := .seeking, run := 0, attempts := tr.attempts + 1 }, none)

/-- A failure, and the notice it raises if it does (R90, R91). -/
def lockFail (r : Record) (tr : Tracker) : Tracker × Option NoticeSource :=
  match tr.lock with
  | .seeking => lockAttemptFails r tr
  | .confirming => lockAttemptFails r tr
  | .locked =>
      if r.missLimit ≤ tr.misses + 1 then
        ({ tr with lock := .seeking, run := 0, attempts := 0, misses := 0 }, some .trackLost)
      else ({ tr with misses := tr.misses + 1 }, none)
  | .faulted => (tr, none)

/-- A far match or an overdue removal of tote T is handed to the lock (R90, R91). -/
def State.lockFailure (s : State) (T : ToteNo) : State :=
  let p := lockFail s.conf s.tracker
  let s1 := { s with tracker := p.1 }
  match p.2 with
  | some src => s1.raise src T
  | none => s1

/-! ### The Cold Monitor (R121, R122) -/

/-- COLD_ALERT of the record of T, once, for a KNOWN reference (R121). -/
def State.coldAlertWork (s : State) (T : ToteNo) : State :=
  match s.laneRecOf T with
  | some q =>
      if laneStanding s.conf s.clock q = some .alert ∧ q.alertMark = false ∧
          q.cold.isKnown = true then
        (s.updRec T fun q => { q with alertMark := true }).raise .coldAlert T
      else s
  | none => s

/-- The states that a breach makes HELD (R28). -/
def LineState.breachable : LineState → Bool
  | .waiting | .active | .suspended => true
  | .done | .short | .cancelled | .held => false

/-- A breach of the record of T (R28, R122, R141). The urgent flags are re-evaluated by the caller,
after every working (R121). -/
def State.breach (s : State) (T : ToteNo) : State :=
  let hit := s.demand.lines.filter fun l => l.tote == T && l.state.breachable
  let s1 := (s.updRec T fun q => { q with breachMark := true }).raise .coldBreach T
  let s2 := s1.withLines (s1.demand.lines.map fun l =>
    if l.tote == T && l.state.breachable then { l with state := .held } else l)
  let s3 := if hit.any fun l => l.state == .active then s2.leaveActive else s2
  let s4 := (hit.map Line.handle).foldl State.reready (s3.deriveWant T)
  if s4.lane.face == .presenting && s4.lane.faceRec.any fun q => q.tote == T then s4.beginRelease
  else s4

/-- The record of T is BREACHED and its breach mark clear (R121). -/
def State.breachDue (s : State) (T : ToteNo) : Bool :=
  (s.laneRecOf T).any fun q =>
    laneStanding s.conf s.clock q == some .breached && !q.breachMark

/-- COLD_BREACH of the record of T, once (R121, R122). -/
def State.coldBreachWork (s : State) (T : ToteNo) : State :=
  if s.breachDue T then s.breach T else s

/-- The Cold Monitor's working of one record (R121). -/
def State.coldWork (s : State) (T : ToteNo) : State := (s.coldAlertWork T).coldBreachWork T

end Sys2Proof.Machine
end

