-- ==== Sys2Proof/Machine/LaneEvents.lean ====
section
/-! DEFINITION. The lane sensors and the merge gap: entry (R104, R105, R153), head (R112, R124), face
(R113), park (R117), exit (R119), the sweep's sensors (R128), a sensor becoming clear (R152) and the
gap (R118). An event is taken as the change it names, whatever level was held (log 4). -/

namespace Sys2Proof.Machine

/-- A sensor's level changes; a time that was running stops when it becomes clear (R125). -/
def setLevel (ss : Sensors) (x : Sensor) (b : Bool) : Sensors :=
  let f := fun (q : SensorRec) => { q with blocked := b, time := if b then q.time else none }
  match x with
  | .entry => { ss with entry := f ss.entry }
  | .head => { ss with head := f ss.head }
  | .face => { ss with face := f ss.face }
  | .park => { ss with park := f ss.park }
  | .exit => { ss with exit := f ss.exit }

def State.sensorLevel (s : State) (x : Sensor) (b : Bool) : State :=
  s.withLane { s.lane with sensors := setLevel s.lane.sensors x b }

/-- A field event: outside UNCONFIGURED its effect and the end of the event, and in UNCONFIGURED the
level alone (R110). `s` holds the new level. -/
def State.fieldEvent (s : State) (effect : State → State) : State :=
  if s.configured then (effect s).settleLane else s

/-! ### Entry (R104, R105) -/

/-- The queued record that a completed divert record becomes (R104), its urgent flag as R48 gives. -/
def State.queuedRecord (s : State) (d : DivertRec) : LaneRec :=
  let q := newLaneRec d.tote (divertClass s.demand.lines d) (divertCold d) (divertLaps d)
  { q with urgent := s.urgentNow q }

/-- A record stands newly at the tail of the queue. -/
def State.pushRecord (s : State) (q : LaneRec) : State :=
  s.withLane { s.lane with queue := s.lane.queue ++ [q] }

/-- A new urgent record that is the queue's only one has become the queue head (R115). -/
def State.newHeadCheck (s : State) : State :=
  if s.lane.queue.length = 1 ∧ s.lane.headUrgent = true then s.headTurnedUrgent else s

/-- The oldest divert record is completed (R104): the record, HOLD, the Cold Monitor's working of it
(R121), the preemption check (R115) and the fill (R112). -/
def State.complete (s : State) (d : DivertRec) (rest : List DivertRec) : State :=
  let s1 : State := { s with divert := { s.divert with records := rest } }
  let s2 := (s1.pushRecord (s1.queuedRecord d)).request d.tote .hold
  (((s2.coldWork d.tote).newHeadCheck).fill)

/-- A stray entry (R105), which in REST starts a sweep (R153). -/
def State.strayEntry (s : State) : State :=
  if s.queueRecords < s.conf.c then
    let s1 := s.pushRecord (strayRec s.clock)
    if s.mode = .rest then s1.enterSweeping .rest else s1.fill
  else s.jamLane .entry

/-- The entry sensor becomes blocked (R104, R105). -/
def State.entryBlocks (s : State) : State :=
  (s.sensorLevel .entry true).fieldEvent fun s =>
    match s.divert.records with
    | d :: rest => s.complete d rest
    | [] => s.strayEntry

def execEntrySeen (s : State) : Host.Outcome State Fault Refusal := .next s.entryBlocks

/-! ### Head (R112, R124) -/

/-- The head sensor becomes blocked: a head wait ends, and the face is filled if it is EMPTY (R112,
R124). -/
def State.headBlocks (s : State) : State :=
  (s.sensorLevel .head true).fieldEvent fun s =>
    (s.withLane { s.lane with waits := { s.lane.waits with head := none } }).fill

def execHeadBlocked (s : State) : Host.Outcome State Fault Refusal := .next s.headBlocks

/-! ### Face (R113) -/

/-- The arriving tote is released without presenting (R113). -/
def State.releasesOnArrival (s : State) (q : LaneRec) : Bool :=
  q.tote == 0 || laneStanding s.conf s.clock q == some .breached || s.mode == .sweeping ||
    (s.mode == .draining && (suspendedOf s.demand.lines q.tote).isNone) ||
    (s.mode == .active && (suspendedOf s.demand.lines q.tote).isNone &&
      !hasWorkable s.demand.lines s.puts q.tote)

/-- FACE_ARRIVED while ARRIVING (R113). A saved tag ends with the arrival (R109). -/
def State.arrive (s : State) (q : LaneRec) : State :=
  let s1 := s.withLane
    { s.lane with
      faceRec := some { q with stage := .face, savedTag := none }
      waits := { s.lane.waits with arrival := none } }
  if s.releasesOnArrival q then s1.beginRelease
  else
    let s2 := s1.withLane { s1.lane with face := .presenting }
    match q.source with
    | .queue =>
        let s3 := s2.preemptCheck
        if s3.lane.face = .parking then s3 else s3.requestLine
    | .park => s2.requestLine

/-- The face sensor becomes blocked: the arrival (R113), or in SWEEPING a fill (R128). -/
def State.faceBlocks (s : State) : State :=
  (s.sensorLevel .face true).fieldEvent fun s =>
    match s.lane.face, s.lane.faceRec with
    | .arriving, some q => s.arrive q
    | _, _ => if s.mode = .sweeping then s.fill else s

def execFaceArrived (s : State) : Host.Outcome State Fault Refusal := .next s.faceBlocks

/-! ### Park (R117) -/

/-- PARK_ARRIVED while PARKING: the face becomes EMPTY and is filled (R112 step 1, R117). -/
def State.parked (s : State) : State :=
  (s.withLane
    { s.lane with
      face := .empty
      preempted := true
      waits := { s.lane.waits with park := none } }).fill

/-- The park sensor becomes blocked: the end of PARKING (R117), or in SWEEPING a fill (R128). -/
def State.parkBlocks (s : State) : State :=
  (s.sensorLevel .park true).fieldEvent fun s =>
    if s.lane.face = .parking then s.parked
    else if s.mode = .sweeping then s.fill
    else s

def execParkArrived (s : State) : Host.Outcome State Fault Refusal := .next s.parkBlocks

/-! ### Exit (R119, R128) -/

/-- A lane tote merges with its RELEASE and its own expected arrival entry (R85, R119); a stray merges
with neither. -/
def State.mergeOut (s : State) (q : LaneRec) : State :=
  if q.tote = 0 then s
  else
    let a := s.releaseFields q.cls q.cold q.laps s.conf.pM s.count
    (s.request q.tote (.release a)).place (predict s.conf q.tote a s.clock)

/-- MERGED while LEAVING (R119), then the fill (R112) and the tests of R151 and R152. -/
def State.leaves (s : State) (q : LaneRec) : State :=
  let s1 := s.withLane
    { s.lane with
      face := .empty
      faceRec := none
      waits := { s.lane.waits with merge := none } }
  (((s1.mergeOut q).fill).drainTest).sweepTest

/-- The exit sensor becomes clear (R119, R152). -/
def State.exitClears (s : State) : State :=
  (s.sensorLevel .exit false).fieldEvent fun s =>
    match s.lane.face, s.lane.faceRec with
    | .leaving, some q => s.leaves q
    | _, _ => s.sweepTest

def execMerged (s : State) : Host.Outcome State Fault Refusal := .next s.exitClears

/-- The exit sensor becomes blocked: in SWEEPING a fill (R128). -/
def State.exitBlocks (s : State) : State :=
  (s.sensorLevel .exit true).fieldEvent fun s => if s.mode = .sweeping then s.fill else s

/-! ### Any sensor (R128, R152) -/

/-- A lane sensor becomes blocked: the event of that sensor (R110, R128, log 6). -/
def execSensorBlocked (sensor : Sensor) (s : State) : Host.Outcome State Fault Refusal :=
  .next (match sensor with
    | .entry => s.entryBlocks
    | .head => s.headBlocks
    | .face => s.faceBlocks
    | .park => s.parkBlocks
    | .exit => s.exitBlocks)

/-- A lane sensor other than the exit becomes clear: the lane-clear test (R152). -/
def State.sensorClears (s : State) (x : Sensor) : State :=
  (s.sensorLevel x false).fieldEvent State.sweepTest

/-- A lane sensor becomes clear (R119, R152, log 6). -/
def execSensorClear (sensor : Sensor) (s : State) : Host.Outcome State Fault Refusal :=
  .next (match sensor with
    | .exit => s.exitClears
    | .entry => s.sensorClears .entry
    | .head => s.sensorClears .head
    | .face => s.sensorClears .face
    | .park => s.sensorClears .park)

/-! ### The merge gap (R118) -/

/-- The merge-gap input changes; with the gap present a RELEASING face in an unjammed lane moves to
LEAVING (R118, log 5). -/
def execMergeGap (present : Bool) (s : State) : Host.Outcome State Fault Refusal :=
  .next ((s.withLane { s.lane with gap := present }).fieldEvent State.tryLeave)

end Sys2Proof.Machine
end

