-- ==== Sys2Proof/Machine/LineOut.lean ====
section
/-! DEFINITION. The transmitter: a send attempt begun (R51, R53, R56) and ended (R52, R53, R63, R64). -/

namespace Sys2Proof.Machine

/-- The head of the transmit queue: the oldest frame of the lowest class that holds any (R56). -/
def queueHead (q : List Frame) : Option Frame :=
  match q.find? fun f => f.body.lineClass ≤ 1 with
  | some f => some f
  | none =>
    match q.find? fun f => f.body.lineClass == 2 with
    | some f => some f
    | none => q.head?

/-- The frame to send: the slot's, or else the head of the queue moved into the slot with attempt count
0 (R53). -/
def fillSlot (b : Bus) : Bus :=
  match b.slot with
  | some _ => b
  | none =>
    match queueHead b.queue with
    | none => b
    | some f => { b with slot := some { frame := f, attempts := 0 }, queue := b.queue.erase f }

/-- The transmitter may begin an attempt: ON or CLOSING, none in progress, the line idle (R51, R63). -/
def Bus.mayAttempt (b : Bus) : Bool :=
  (b.tx == .on || b.tx == .closing) && !b.attempting && b.line == .idle

/-- A send attempt begins at an idle line, if there is a frame to send, and puts the frame on the line
(R51, R53). While the line is busy the transmitter waits. -/
def beginAttempt (b : Bus) : Bus :=
  if b.mayAttempt then
    match (fillSlot b).slot with
    | some x =>
        { fillSlot b with
          attempting := true, line := .frame, meant := frameBits x.frame, driven := [] }
    | none => b
  else b

/-- SEND_ATTEMPT: the 12 bits of a gap pass, so that the line becomes idle, and the attempt begins there
or at a line already idle (R51, R53); a frame on the line keeps it busy (log 7). -/
def execSendAttempt (s : State) : Host.Outcome State Fault Refusal :=
  .next { s with bus := beginAttempt s.bus.gapOver }

/-- CLOSING ends when the last frame has left the slot with the queue empty (R63). -/
def closeIfDone (b : Bus) : Bus :=
  if b.tx = .closing ∧ b.queue = [] ∧ b.slot = none then { b with tx := .listenOnly } else b

/-- The slot is emptied. -/
def emptySlot (b : Bus) : Bus := closeIfDone { b with slot := none, slotDoomed := false }

/-- The transmitter is off the line. Its place there is taken by the winner's frame where arbitration was
lost; otherwise the line is busy until it has been quiet for 12 bits (R51, R52). -/
def Bus.offLine (b : Bus) (readBack : List Bool) : Bus :=
  { b with
    attempting := false
    line := if lostArbitration b.meant readBack then .frame else .gap
    meant := []
    driven := bitsDriven b.meant readBack }

/-- The slot after an attempt with this outcome (R53), and after RESTART whatever the outcome (R64). -/
def State.settleSlot (s : State) (x : TxSlot) (outcome : AttemptOutcome) : State :=
  let b := s.bus
  if b.slotDoomed then { s with bus := emptySlot b }
  else
    match outcome with
    | .sent => { s with bus := emptySlot b }
    | .lost =>
      if 16 ≤ x.attempts + 1 then
        ({ s with bus := emptySlot b } : State).raise .frameAbandoned x.frame.tote
      else if b.queue.any fun f => frameKey f == frameKey x.frame then
        { s with bus := emptySlot b }
      else { s with bus := { b with slot := some { x with attempts := x.attempts + 1 } } }

/-- The attempt in progress is read back (R52): it goes on while every bit so far has matched, and ends
LOST at a mismatch or SENT with the last bit. -/
def State.endAttempt (s : State) (x : TxSlot) (readBack : List Bool) : State :=
  match attemptOutcome s.bus.meant readBack with
  | none => s
  | some outcome =>
    ({ s with bus := s.bus.offLine readBack } : State).settleSlot x outcome

/-- ATTEMPT_END with the bits read back (R52, R53); with no attempt in progress there is none to end. -/
def execAttemptEnd (readBack : List Bool) (s : State) : Host.Outcome State Fault Refusal :=
  .next (match s.bus.slot with
    | some x => if s.bus.attempting then s.endAttempt x readBack else s
    | none => s)

end Sys2Proof.Machine
end

