-- ==== Sys2Proof/Machine/Desk.lean ====
section
/-! DEFINITION. The bench computer's other commands: RELEASE_FACE (R114), CLEAR_JAM (R127), the
notice commands (R164 to R166) and the reads (R158 to R161). -/

namespace Sys2Proof.Machine

/-! ### RELEASE_FACE and CLEAR_JAM -/

/-- RELEASE_FACE (R114). -/
def State.releaseFace (s : State) : State :=
  s.whenConfigured 8 fun s =>
    if s.lane.face = .presenting then s.releasePresenting.settleLane.reply 8 .accepted
    else s.reply 8 .wrongState

def execReleaseFace (s : State) : Host.Outcome State Fault Refusal := .next s.releaseFace

/-- An unfinished wait restarts from 0 (R127). -/
def restartWait (w : Option Nat) : Option Nat := w.map fun _ => 0

def restartWaits (w : Waits) : Waits where
  arrival := restartWait w.arrival
  park := restartWait w.park
  merge := restartWait w.merge
  head := restartWait w.head

/-- A running sensor time restarts from 0 (R127). -/
def restartSensor (q : SensorRec) : SensorRec := { q with time := restartWait q.time }

def restartSensors (ss : Sensors) : Sensors where
  entry := restartSensor ss.entry
  head := restartSensor ss.head
  face := restartSensor ss.face
  park := restartSensor ss.park
  exit := restartSensor ss.exit

/-- The jam ends (R127): waits and sensor times restart, the face is filled or leaves, and the
lane-clear test is made (R152). -/
def State.endJam (s : State) : State :=
  let s1 := s.withLane
    { s.lane with
      jam := none
      waits := restartWaits s.lane.waits
      sensors := restartSensors s.lane.sensors }
  ((s1.fill).tryLeave.sweepTest).settleLane

/-- CLEAR_JAM (R127). -/
def State.clearJam (s : State) : State :=
  s.whenConfigured 11 fun s =>
    (if s.lane.jam.isSome then s.endJam else s).reply 11 .accepted

def execClearJam (s : State) : Host.Outcome State Fault Refusal := .next s.clearJam

/-! ### Notice commands -/

/-- SET_NOTICE (R166). -/
def State.setNotice (s : State) (source enable level : Byte) : State :=
  s.whenConfigured 13 fun s =>
    match noticeOfNumber source with
    | none => s.reply 13 .badValue
    | some n =>
      if enable.toNat ≤ 1 ∧ level.toNat ≤ 7 then
        (s.changeNotice n fun q =>
          { q with enable := enable.toNat == 1, level := level.toNat }).reply 13 .accepted
      else s.reply 13 .badValue

def execSetNotice (source enable level : Byte) (s : State) : Host.Outcome State Fault Refusal :=
  .next (s.setNotice source enable level)

/-- SET_FLOOR (R166). -/
def State.setFloor (s : State) (floor : Byte) : State :=
  s.whenConfigured 14 fun s =>
    if floor.toNat ≤ 7 then
      ({ s with notices := workAttn { s.notices with floor := floor.toNat } } : State).reply 14
        .accepted
    else s.reply 14 .badValue

def execSetFloor (floor : Byte) (s : State) : Host.Outcome State Fault Refusal :=
  .next (s.setFloor floor)

/-- The record of a source. -/
def noticeRec (n : Notices) (src : NoticeSource) : NoticeRec := n.sources[src.index]

/-- The better of two sources for READ_NOTICE: the later one only with a higher level (R164). -/
def betterSource (n : Notices) (best : Option NoticeSource) (src : NoticeSource) :
    Option NoticeSource :=
  if (noticeRec n src).eligible then
    match best with
    | none => some src
    | some b => if (noticeRec n b).level < (noticeRec n src).level then some src else some b
  else best

/-- The eligible source with the highest level, the lowest number on a tie (R164). -/
def chosenSource (n : Notices) : Option NoticeSource := allSources.foldl (betterSource n) none

/-- READ_NOTICE's reply fields (R164). -/
def noticeFields (n : Notices) : List Byte :=
  match chosenSource n with
  | none => [0, 0, 0] ++ bytes32 0
  | some src =>
      [BitVec.ofNat 8 src.number, BitVec.ofNat 8 (noticeRec n src).level,
        BitVec.ofNat 8 (noticeRec n src).count] ++ bytes32 (noticeRec n src).detail

/-- READ_NOTICE (R164). -/
def State.readNotice (s : State) : State :=
  s.whenConfigured 15 fun s => s.reply 15 .accepted (noticeFields s.notices)

def execReadNotice (s : State) : Host.Outcome State Fault Refusal := .next s.readNotice

/-- CLEAR_NOTICE (R165). -/
def State.clearNotice (s : State) (source : Byte) : State :=
  s.whenConfigured 16 fun s =>
    match noticeOfNumber source with
    | none => s.reply 16 .badValue
    | some n => (s.changeNotice n clearNoticeRec).reply 16 .accepted

def execClearNotice (source : Byte) (s : State) : Host.Outcome State Fault Refusal :=
  .next (s.clearNotice source)

/-! ### Reads -/

/-- READ_STATUS's reply fields (R158). -/
def statusFields (s : State) : List Byte :=
  [BitVec.ofNat 8 (modeCode s.mode), BitVec.ofNat 8 (faceCode s.lane.face),
    BitVec.ofNat 8 s.queueRecords, boolCode s.lane.parkRec.isSome, boolCode s.modeCtl.able,
    BitVec.ofNat 8 (lockCode s.tracker.lock), boolCode s.tracker.loopStopped,
    (match s.lane.jam with | none => 0 | some x => BitVec.ofNat 8 (sensorCode x)),
    BitVec.ofNat 8 ((if s.board.crowded then 1 else 0) + (if s.tracker.crowded then 2 else 0))] ++
    bytes32 s.clock

/-- READ_STATUS, accepted in every mode: the fields, and both crowded flags cleared (R158). -/
def State.readStatus (s : State) : State :=
  ({ s with
      board := { s.board with crowded := false }
      tracker := { s.tracker with crowded := false } } : State).reply 17 .accepted (statusFields s)

def execReadStatus (s : State) : Host.Outcome State Fault Refusal := .next s.readStatus

/-- READ_LINE's reply fields (R159). -/
def lineFields (puts : Vector (Option Order) 16) (l : Line) : List Byte :=
  bytes16 l.tag ++ bytes32 l.tote ++ bytes16 l.handle ++
    [classCode l.cls, BitVec.ofNat 8 l.qty, BitVec.ofNat 8 l.puts, priorityCode l.prio,
      BitVec.ofNat 8 (lineStateCode l.state), boolCode (isPlaced puts l.handle)]

/-- READ_LINE (R159). -/
def State.readLine (s : State) (tag : Tag) : State :=
  s.whenConfigured 18 fun s =>
    match s.demand.lines.find? fun l => l.tag == tag with
    | none => s.reply 18 .unknownTag
    | some l => s.reply 18 .accepted (lineFields s.puts l)

def execReadLine (tag : Tag) (s : State) : Host.Outcome State Fault Refusal :=
  .next (s.readLine tag)

/-- A remaining cold time as a signed 32-bit value; free where it does not fit (R160, log 14). -/
def remainingField (x : Int) : BitVec 32 :=
  if -2147483648 ≤ x ∧ x ≤ 2147483647 then BitVec.ofInt 32 x else Config.freeRemaining x

/-- The cold kind and the remaining of a slot: 0 for AMBIENT records and strays (R160). -/
def coldFields (r : Record) (t : Clock) (T : ToteNo) (cls : TempClass) (cold : ColdRef) :
    List Byte :=
  if T = 0 ∨ cls = .ambient then [0] ++ bytes32 0
  else [if cold.isKnown then 1 else 2] ++ bytes32 (remainingField (coldRemaining r cls cold t))

/-- A divert record's slot (R160). -/
def divertSlot (s : State) (d : DivertRec) : List Byte :=
  [1] ++ bytes32 d.tote ++
    [classCode (divertClass s.demand.lines d), BitVec.ofNat 8 (divertLaps d), 0] ++
    coldFields s.conf s.clock d.tote (divertClass s.demand.lines d) (divertCold d) ++ bytes16 0

/-- The marks byte of a lane record (R160). -/
def marksByte (q : LaneRec) : Byte :=
  BitVec.ofNat 8 ((if q.urgent then 1 else 0) + (if q.alertMark then 2 else 0) +
    (if q.breachMark then 4 else 0) + (if q.refusalMark then 8 else 0))

def stageCode : Stage → Byte
  | .queued => 2
  | .face => 3
  | .park => 4

/-- A lane record's slot (R160). The saved tag is the park record's. -/
def laneSlot (s : State) (isPark : Bool) (q : LaneRec) : List Byte :=
  [stageCode q.stage] ++ bytes32 q.tote ++
    [classCode q.cls, BitVec.ofNat 8 q.laps, marksByte q] ++
    coldFields s.conf s.clock q.tote q.cls q.cold ++
    bytes16 (if isPark then q.savedTag.getD 0 else 0)

/-- An unused slot: stage 0 (R160). The manual does not give its other fourteen bytes; the model sends
zeros. DESIGN CHOICE, log 29. -/
def unusedSlot : List Byte := List.replicate 15 0

/-- The eight slots of READ_LANE (R160). -/
def laneSlots (s : State) : List (List Byte) :=
  ((s.divert.records.map (divertSlot s) ++ s.lane.queue.map (laneSlot s false) ++
    s.lane.faceRec.toList.map (laneSlot s false) ++ s.lane.parkRec.toList.map (laneSlot s true)) ++
    List.replicate 8 unusedSlot).take 8

/-- READ_LANE (R160). -/
def State.readLane (s : State) : State :=
  s.whenConfigured 19 fun s =>
    s.reply 19 .accepted ([BitVec.ofNat 8 (faceCode s.lane.face)] ++ (laneSlots s).flatten)

def execReadLane (s : State) : Host.Outcome State Fault Refusal := .next s.readLane

/-- READ_TRACK's reply fields (R94, R161). -/
def trackFields (tr : Tracker) : List Byte :=
  [BitVec.ofNat 8 (lockCode tr.lock), BitVec.ofNat 8 tr.run, BitVec.ofNat 8 tr.attempts,
    BitVec.ofNat 8 tr.misses] ++ bytes16 (BitVec.ofNat 16 tr.speed) ++
    bytes16 (BitVec.ofNat 16 tr.maxDev) ++ [BitVec.ofNat 8 tr.eal.length]

/-- READ_TRACK: the fields, and the maximum deviation cleared (R94, R161). -/
def State.readTrack (s : State) : State :=
  s.whenConfigured 20 fun s =>
    ({ s with tracker := { s.tracker with maxDev := 0 } } : State).reply 20 .accepted
      (trackFields s.tracker)

def execReadTrack (s : State) : Host.Outcome State Fault Refusal := .next s.readTrack

/-- READ_CONFIG (R15, R161). -/
def State.readConfig (s : State) : State :=
  s.whenConfigured 21 fun s =>
    s.reply 21 .accepted ((recordFields s.conf).flatMap fun n => bytes16 (BitVec.ofNat 16 n))

def execReadConfig (s : State) : Host.Outcome State Fault Refusal := .next s.readConfig

end Sys2Proof.Machine
end

