-- ==== Sys2Proof/Machine/Modes.lean ====
section
/-! DEFINITION. Power-on reset (R155), CONFIGURE (R12 to R15), RESTART (R154), SET_TIME (R10), REST and
WAKE (R149, R150), the LOGON key (R150) and RETRACK (R92). -/

namespace Sys2Proof.Machine

/-! ### Power-on reset -/

/-- A sensor with its level kept and no time running: levels are inputs (R110, log 15). -/
def levelOnly (q : SensorRec) : SensorRec := { q with time := none }

def levelsOnly (ss : Sensors) : Sensors where
  entry := levelOnly ss.entry
  head := levelOnly ss.head
  face := levelOnly ss.face
  park := levelOnly ss.park
  exit := levelOnly ss.exit

/-- A beam with its level kept, not stuck and with its times stopped (R145). R145 does not say what a
stopped time holds; the model holds 0. DESIGN CHOICE, log 15. -/
def beamLevelOnly (b : Beam) : Beam := { Beam.reset with blocked := b.blocked }

/-- The lane with no records, the input levels kept (R109, R129). -/
def laneCleared (l : Lane) : Lane :=
  { Lane.reset with sensors := levelsOnly l.sensors, gap := l.gap }

/-- The picker with nothing ACTIVE, settling or stuck, the beam levels kept (R145). -/
def pickerCleared (p : Picker) : Picker :=
  { Picker.reset with beams := mapVec beamLevelOnly p.beams }

/-- Power-on reset (R155): every block at its reset state; the levels of the inputs are what they are
(log 15), and the queue is not the part's. -/
def State.powerOn (s : State) : State :=
  { State.reset with
    lane := laneCleared s.lane
    picker := pickerCleared s.picker
    pending := s.pending }

def execPowerOnReset (s : State) : Host.Outcome State Fault Refusal := .next s.powerOn

/-! ### CONFIGURE -/

/-- What an accepted CONFIGURE stores before SWEEPING is entered (R12, R14, R64, R77, R145). The receiver,
just turned on, has yet to find the line quiet for 12 bits (R51). -/
def State.storeConfig (s : State) (f : ConfigFields) : State :=
  { s with
    cfg := some (recordOf f)
    bus :=
      { s.bus with ownStation := some (recordOf f).station, rxOn := true, line := .gap }
    board := { s.board with refreshCount := 0 }
    picker := { s.picker with beams := mapVec (fun b => { b with blockedMs := 0 }) s.picker.beams } }

/-- CONFIGURE (R12, R13). -/
def State.configure (s : State) (f : ConfigFields) : State :=
  if s.configured then s.reply 1 .wrongMode
  else if structuralOk f then
    (((s.storeConfig f).enterSweeping .active).settleLane).reply 1
      (if isClamped f then .acceptedClamped else .accepted)
  else s.reply 1 .badValue

def execConfigure (f : ConfigFields) (s : State) : Host.Outcome State Fault Refusal :=
  .next (s.configure f)

/-! ### RESTART -/

/-- Every pending flag, count and detail cleared; enables, levels and floor kept (R154, R155). -/
def State.clearNotices (s : State) : State :=
  { s with notices :=
      workAttn { s.notices with sources := mapVec clearNoticeRec s.notices.sources } }

/-- The transmit queue emptied, and the slot with it or at the end of the attempt in progress (R64). -/
def busRestarted (b : Bus) : Bus :=
  { b with
    queue := []
    slot := if b.attempting then b.slot else none
    slotDoomed := b.attempting }

/-- The working state cleared by RESTART in a configured mode (R154). -/
def State.clearWork (s : State) : State :=
  { s with
    clock := 0
    demand := .reset
    puts := putsReset
    bus := busRestarted s.bus
    board := .reset
    tracker := .reset
    divert := { s.divert with records := [] }
    lane := laneCleared s.lane
    picker := pickerCleared s.picker }

/-- RESTART (R154, R155). -/
def State.restart (s : State) : State :=
  if s.configured then
    (((s.clearWork.clearNotices).enterSweeping .active).settleLane).reply 3 .accepted
  else ({ s with clock := 0 } : State).clearNotices.reply 3 .accepted

def execRestart (s : State) : Host.Outcome State Fault Refusal := .next s.restart

/-! ### SET_TIME -/

/-- A reference time moved with the clock (R10). -/
def ColdRef.shift (d : Clock) : ColdRef → ColdRef
  | .known used time => .known used (time + d)
  | .unknown time => .unknown (time + d)

/-- The stored starts of intervals moved by the shift (R10; UNKNOWN references too, log 22). -/
def State.shiftTimes (s : State) (d : Clock) : State :=
  { s with
    demand.wants := s.demand.wants.map fun w => { w with time := w.time + d }
    tracker.eal := s.tracker.eal.map fun e => { e with cold := e.cold.shift d }
    divert.records := s.divert.records.map fun r =>
      { r with takeTime := r.takeTime + d,
               entry := r.entry.map fun p => { p with cold := p.cold.shift d } }
    lane.queue := s.lane.queue.map fun q => { q with cold := q.cold.shift d }
    lane.faceRec := s.lane.faceRec.map fun q => { q with cold := q.cold.shift d }
    lane.parkRec := s.lane.parkRec.map fun q => { q with cold := q.cold.shift d } }

/-- The clock set and the stored times shifted by Δ (R10). -/
def State.moveClock (s : State) (t : Clock) : State :=
  { s.shiftTimes (t - s.clock) with clock := t }

/-- SET_TIME (R10), then the urgent flags (R48) and the announcement checks (R42). -/
def State.setTime (s : State) (t : Clock) : State :=
  s.whenConfigured 2 fun s =>
    ((((s.moveClock t).reurgent fun _ => true).checkWants fun _ => true).settleLane).reply 2
      .accepted

def execSetTime (t : Clock) (s : State) : Host.Outcome State Fault Refusal := .next (s.setTime t)

/-! ### REST, WAKE, LOGON -/

/-- The effect of REST by mode (R149), with the test for an empty lane at the entry to DRAINING
(R151). -/
def State.goToRest (s : State) : State :=
  match s.mode with
  | .active => ((s.enterMode .draining).drainTest).settleLane
  | .sweeping => s.withModeCtl { s.modeCtl with sweepReturn := .rest }
  | .draining => s
  | .rest => s
  | .unconfigured => s

def State.restCommand (s : State) : State :=
  s.whenConfigured 9 fun s => s.goToRest.reply 9 .accepted

def execRest (s : State) : Host.Outcome State Fault Refusal := .next s.restCommand

/-- The effect of WAKE and of the LOGON key by mode (R150). -/
def State.wakeUp (s : State) : State :=
  match s.mode with
  | .rest => (s.enterMode .active).settleLane
  | .draining => (s.enterMode .active).settleLane
  | .sweeping => s.withModeCtl { s.modeCtl with sweepReturn := .active }
  | .active => s
  | .unconfigured => s

def State.wakeCommand (s : State) : State :=
  s.whenConfigured 10 fun s => s.wakeUp.reply 10 .accepted

def execWake (s : State) : Host.Outcome State Fault Refusal := .next s.wakeCommand

/-- The LOGON key acts as WAKE and gives no reply; in UNCONFIGURED it is discarded (R150). -/
def execLogonKey (s : State) : Host.Outcome State Fault Refusal := .next s.wakeUp

/-! ### RETRACK -/

/-- SEEKING with run, attempts and misses at 0 (R92). -/
def State.seekAgain (s : State) : State :=
  { s with tracker := { s.tracker with lock := .seeking, run := 0, attempts := 0, misses := 0 } }

def State.retrack (s : State) : State :=
  s.whenConfigured 12 fun s => s.seekAgain.reply 12 .accepted

def execRetrack (s : State) : Host.Outcome State Fault Refusal := .next s.retrack

end Sys2Proof.Machine
end

