-- ==== Sys2Proof/Machine/Orders.lean ====
section
/-! DEFINITION. The commands of the Demand Table and the Put Map: LOAD_LINE (R18, R20), CANCEL_LINE
(R21), PLACE_ORDER (R32, R33) and CLOSE_ORDER (R22). -/

namespace Sys2Proof.Machine

/-! ### LOAD_LINE -/

/-- The line a LOAD_LINE's fields spell, where each of them is valid (R18, check 1). -/
def lineOfFields (r : Record) (tag : Tag) (tote : ToteNo) (handle : Handle)
    (cls qty prio : Byte) : Option Line :=
  match classOfCode cls, priorityOfCode prio with
  | some c, some p =>
      if tag ≠ 0 ∧ isProduct r tote = true ∧ handle ≠ 0 ∧ 1 ≤ qty.toNat ∧ qty.toNat ≤ 99 then
        some { tag := tag, tote := tote, handle := handle, cls := c, qty := qty.toNat, puts := 0,
               prio := p, state := .waiting }
      else none
  | _, _ => none

/-- PUT_MISS is raised for the first line of an unplaced handle (R20). `s` is the state before the
line is held. -/
def State.putMiss (s : State) (h : Handle) : Bool :=
  !isPlaced s.puts h && !(s.demand.lines.any fun l => l.handle == h)

/-- An accepted line is held, and what follows it (R18, R29, R34, R48). -/
def State.addLine (s : State) (l : Line) : State :=
  let s1 := s.withLines (s.demand.lines ++ [l])
  let s2 := if s.putMiss l.handle then s1.raise .putMiss (l.handle.setWidth 32) else s1
  (((s2.deriveWant l.tote).reready l.handle).reurgent (· == l.tote)).settleLane

/-- LOAD_LINE (R18). -/
def State.loadLine (s : State) (tag : Tag) (tote : ToteNo) (handle : Handle)
    (cls qty prio : Byte) : State :=
  s.whenConfigured 4 fun s =>
    match lineOfFields s.conf tag tote handle cls qty prio with
    | none => s.reply 4 .badValue
    | some l =>
      if s.demand.lines.any fun m => m.tag == tag then s.reply 4 .duplicateTag
      else if 128 ≤ s.demand.lines.length then s.reply 4 .tableFull
      else (s.addLine l).reply 4 .accepted

def execLoadLine (tag : Tag) (tote : ToteNo) (handle : Handle) (cls qty prio : Byte) (s : State) :
    Host.Outcome State Fault Refusal :=
  .next (s.loadLine tag tote handle cls qty prio)

/-! ### CANCEL_LINE -/

/-- An open line becomes CANCELLED, and what follows by its former state (R21, R137). -/
def State.cancelOpen (s : State) (l : Line) : State :=
  let s1 := s.setLineState l.tag .cancelled
  match l.state with
  | .active => ((s1.leaveActive).lineBoundary l).settleLane
  | .waiting =>
      (((s1.deriveWant l.tote).reready l.handle).reurgent (· == l.tote)).settleLane
  | .suspended => ((s1.reready l.handle).reurgent (· == l.tote)).settleLane
  | .held => ((s1.reready l.handle).reurgent (· == l.tote)).settleLane
  | .done => s
  | .short => s
  | .cancelled => s

/-- CANCEL_LINE (R21). -/
def State.cancelLine (s : State) (tag : Tag) : State :=
  s.whenConfigured 5 fun s =>
    match s.demand.lines.find? fun l => l.tag == tag with
    | none => s.reply 5 .unknownTag
    | some l =>
      if l.state.isOpen then (s.cancelOpen l).reply 5 .accepted else s.reply 5 .wrongState

def execCancelLine (tag : Tag) (s : State) : Host.Outcome State Fault Refusal :=
  .next (s.cancelLine tag)

/-! ### PLACE_ORDER -/

/-- The lane records whose tote has a line of this handle are re-evaluated (R48). -/
def State.reurgentOrder (s : State) (h : Handle) : State :=
  s.reurgent fun T => s.demand.lines.any fun l => l.tote == T && l.handle == h

/-- A handle is placed at a FREE position (R32). -/
def State.newPlacement (s : State) (h : Handle) (k : PutIdx) (deadline : Clock) : State :=
  let s1 : State :=
    { s with puts := s.puts.set k (some { handle := h, deadline := deadline, ready := false }) }
  let s2 := s1.deriveWants fun T =>
    s.demand.lines.any fun l => l.tote == T && l.handle == h && l.state == .waiting
  ((s2.reready h).reurgentOrder h).settleLane

/-- The deadline of an order already at this position is replaced (R33, R42, R48). -/
def State.newDeadline (s : State) (h : Handle) (k : PutIdx) (o : Order) (deadline : Clock) :
    State :=
  let s1 : State := { s with puts := s.puts.set k (some { o with deadline := deadline }) }
  let s2 := s1.reurgentOrder h
  (s2.checkWants fun T =>
    s.demand.lines.any fun l => l.tote == T && l.handle == h && isWorkable s.puts l).settleLane

/-- PLACE_ORDER (R32, R33). -/
def State.placeOrder (s : State) (h : Handle) (position : Byte) (deadline : Clock) : State :=
  s.whenConfigured 6 fun s =>
    match putOfNumber position with
    | none => s.reply 6 .badValue
    | some k =>
      if h = 0 then s.reply 6 .badValue
      else if (positionOf s.puts h).any fun j => j != k then s.reply 6 .orderPlaced
      else
        match s.puts[k] with
        | some o =>
            if o.handle = h then (s.newDeadline h k o deadline).reply 6 .accepted
            else s.reply 6 .positionBusy
        | none => (s.newPlacement h k deadline).reply 6 .accepted

def execPlaceOrder (handle : Handle) (position : Byte) (deadline : Clock) (s : State) :
    Host.Outcome State Fault Refusal :=
  .next (s.placeOrder handle position deadline)

/-! ### CLOSE_ORDER -/

/-- Every line of the handle is removed; the others keep their order (R22). -/
def State.dropLines (s : State) (h : Handle) : State :=
  s.withLines (s.demand.lines.filter fun l => l.handle != h)

/-- CLOSE_ORDER (R22). -/
def State.closeOrder (s : State) (h : Handle) : State :=
  s.whenConfigured 7 fun s =>
    match positionOf s.puts h with
    | some k =>
        if s.demand.lines.any fun l => l.handle == h && l.state.isOpen then
          s.reply 7 .orderOpenLines
        else ({ s.dropLines h with puts := s.puts.set k none } : State).reply 7 .accepted
    | none =>
        if s.demand.lines.any fun l => l.handle == h then (s.dropLines h).reply 7 .accepted
        else s.reply 7 .unknownOrder

def execCloseOrder (handle : Handle) (s : State) : Host.Outcome State Fault Refusal :=
  .next (s.closeOrder handle)

end Sys2Proof.Machine
end

