-- ==== Sys2Proof/Machine/LinkPort.lean ====
section
/-! DEFINITION. The Local Link Port: transactions (R156), the frame checks and BAD_FRAME (R157). -/

namespace Sys2Proof.Machine

/-- A command of good frame is carried out (R157). -/
def State.runCommand (s : State) : LinkCommand → State
  | .configure f => s.configure f
  | .setTime t => s.setTime t
  | .restart => s.restart
  | .loadLine tag tote handle cls qty prio => s.loadLine tag tote handle cls qty prio
  | .cancelLine tag => s.cancelLine tag
  | .placeOrder handle position deadline => s.placeOrder handle position deadline
  | .closeOrder handle => s.closeOrder handle
  | .releaseFace => s.releaseFace
  | .rest => s.restCommand
  | .wake => s.wakeCommand
  | .clearJam => s.clearJam
  | .retrack => s.retrack
  | .setNotice source enable level => s.setNotice source enable level
  | .setFloor floor => s.setFloor floor
  | .readNotice => s.readNotice
  | .clearNotice source => s.clearNotice source
  | .readStatus => s.readStatus
  | .readLine tag => s.readLine tag
  | .readLane => s.readLane
  | .readTrack => s.readTrack
  | .readConfig => s.readConfig

/-- The rise of select (R156, R157): no command, a command carried out, or BAD_FRAME with the first
byte echoed. -/
def State.takeFrame (s : State) (bytes : List Byte) : State :=
  match bytes with
  | [] => s
  | b :: _ =>
    if b = 0 then s
    else
      match decodeCommand bytes with
      | some c => s.runCommand c
      | none => s.reply b .badFrame

/-- The reply's bits are shifted out, then those of zero bytes, one for each bit shifted in; the slot is
emptied (R156). -/
def State.shiftOut (s : State) (n : Nat) : State :=
  { s with link :=
      { reply := [], shiftedOut := (linkBits s.link.reply ++ List.replicate n false).take n } }

/-- TRANSACTION: the reply out, bit by bit, and the command of the bytes in (R156, log 17). -/
def execTransaction (bitsIn : List Bool) (s : State) : Host.Outcome State Fault Refusal :=
  .next ((s.shiftOut bitsIn.length).takeFrame (bytesOfLink bitsIn))

/-- BAD_FRAME: the rise of select with these bytes shifted in (R157, log 17). -/
def execBadFrame (bytes : List Byte) (s : State) : Host.Outcome State Fault Refusal :=
  .next (s.takeFrame bytes)

end Sys2Proof.Machine
end

