-- ==== Sys2Proof/Machine/Picking.lean ====
section
/-! DEFINITION. Picking at the face: beam breaks (R133, R134, R139, R142), beam clears (R143) and the
SHORT key (R136). -/

namespace Sys2Proof.Machine

/-- A beam's record changed. -/
def State.setBeam (s : State) (k : PutIdx) (f : Beam → Beam) : State :=
  { s with picker := { s.picker with beams := modifyVec k f s.picker.beams } }

/-- The line with this tag holds a new put count (R24). -/
def State.setPuts (s : State) (tag : Tag) (n : Nat) : State :=
  s.withLines (s.demand.lines.map fun l => if l.tag = tag then { l with puts := n } else l)

/-- A counted put of the ACTIVE line (R24, R134). -/
def State.countPut (s : State) (l : Line) : State :=
  let s1 := s.setPuts l.tag (l.puts + 1)
  if l.puts + 1 < l.qty then
    { s1 with picker := { s1.picker with display := some (l.qty - (l.puts + 1)) } }
  else
    ((((s1.setLineState l.tag .done).raise .lineDone (l.tag.setWidth 32)).leaveActive).lineBoundary
      l).settleLane

/-- The tests of R133 on a break at position k. -/
def State.judgeBreak (s : State) (k : PutIdx) : State :=
  if s.picker.beams[k].stuck then s
  else if s.picker.settles[k].isSome then s.raise .overPut (BitVec.ofNat 32 (putNumber k))
  else
    match activeLine s.demand.lines with
    | some l =>
        if s.picker.active = some k then s.countPut l
        else s.raise .wrongPut (BitVec.ofNat 32 (putNumber k))
    | none => s.raise .wrongPut (BitVec.ofNat 32 (putNumber k))

/-- The beam as the break leaves it: blocked, its blocked time from 0 unless it is stuck (R142,
R143). -/
def brokenBeam (b : Beam) : Beam :=
  if b.stuck then { b with blocked := true } else { b with blocked := true, blockedMs := 0 }

/-- A beam break (R133); in UNCONFIGURED the level alone. -/
def State.beamBreak (s : State) (k : PutIdx) : State :=
  if s.configured then (s.setBeam k brokenBeam).judgeBreak k
  else s.setBeam k fun b => { b with blocked := true }

def execBeamBreak (k : PutIdx) (s : State) : Host.Outcome State Fault Refusal :=
  .next (s.beamBreak k)

/-- The beam as a clear leaves it: a stuck beam's clear time starts from 0 (R142, R143). -/
def clearedBeam (b : Beam) : Beam :=
  if b.stuck then { b with blocked := false, clearMs := 0 } else { b with blocked := false }

/-- A beam clear (R142, R143); in UNCONFIGURED the level alone, no beam being stuck there. -/
def execBeamClear (k : PutIdx) (s : State) : Host.Outcome State Fault Refusal :=
  .next (s.setBeam k clearedBeam)

/-- The SHORT key (R25, R136). -/
def State.shortKey (s : State) : State :=
  match activeLine s.demand.lines with
  | none => s
  | some l =>
    ((((s.setLineState l.tag .short).raise .lineShort
      (BitVec.ofNat 32 (l.tag.toNat * 256 + l.puts))).leaveActive).lineBoundary l).settleLane

def execShortKey (s : State) : Host.Outcome State Fault Refusal :=
  .next (if s.configured then s.shortKey else s)

end Sys2Proof.Machine
end

