-- ==== Sys2Proof/Machine/LineIn.lean ====
section
/-! DEFINITION. The receive path (R58 to R62) and what each received frame does to the Station Table and
the Interest Board (R66, R69 to R72, R75) and to the expected arrival list (R80, R82). -/

namespace Sys2Proof.Machine

/-! ### Interest Board -/

def isEntry (s : StationNo) (T : ToteNo) (e : InterestEntry) : Bool := e.station == s && e.tote == T

/-- The entry a crowded WANT may replace, of two that are not holding: the lower weight, then the
greater age, then the lower station, then the lower tote (R75). -/
def weaker (a b : InterestEntry) : Bool :=
  let wa := a.weight.getD 0
  let wb := b.weight.getD 0
  if wa ≠ wb then decide (wa < wb)
  else if a.age ≠ b.age then decide (b.age < a.age)
  else if a.station ≠ b.station then decide (a.station < b.station)
  else decide (a.tote.toNat < b.tote.toNat)

/-- The weakest entry that is not holding (R75). -/
def weakest (es : List InterestEntry) : Option InterestEntry :=
  (es.filter fun e => !e.holding).foldl
    (fun best e =>
      match best with
      | none => some e
      | some b => if weaker e b then some e else some b) none

/-- WANT(T, W) from station s on the board (R69, R75). -/
def boardWant (b : Board) (s : StationNo) (T : ToteNo) (W : Nat) : Board :=
  let new : InterestEntry := { station := s, tote := T, weight := some W, holding := false, age := 0 }
  if b.entries.any (isEntry s T) then
    { b with entries := b.entries.map fun e =>
        if isEntry s T e then { e with weight := some W, age := 0 } else e }
  else if b.entries.length < 64 then { b with entries := b.entries ++ [new] }
  else
    { b with
      crowded := true
      entries := (match weakest b.entries with
        | some e =>
            if e.weight.getD 0 < W then
              (b.entries.filter fun x => !isEntry e.station e.tote x) ++ [new]
            else b.entries
        | none => b.entries) }

/-- DROP(T) from station s on the board (R70). -/
def boardDrop (b : Board) (s : StationNo) (T : ToteNo) : Board :=
  { b with entries :=
      (b.entries.filter fun e => !(isEntry s T e && !e.holding)).map fun e =>
        if isEntry s T e then { e with weight := none } else e }

/-- HOLD(T) from station s on the board (R71, R75). -/
def boardHold (b : Board) (s : StationNo) (T : ToteNo) : Board :=
  if b.entries.any (isEntry s T) then
    { b with entries := b.entries.map fun e =>
        if isEntry s T e then { e with holding := true, age := 0 } else e }
  else if b.entries.length < 64 then
    { b with entries :=
        b.entries ++ [{ station := s, tote := T, weight := none, holding := true, age := 0 }] }
  else { b with crowded := true }

/-- Holding cleared on the entries that `named` names, and those left without a weight removed (R72,
R73). -/
def clearHolding (b : Board) (named : InterestEntry → Bool) : Board :=
  { b with entries :=
      (b.entries.filter fun e => !(named e && e.weight.isNone)).map fun e =>
        if named e then { e with holding := false } else e }

/-- RELEASE(T) from station s on the board (R72). -/
def boardRelease (b : Board) (s : StationNo) (T : ToteNo) : Board := clearHolding b (isEntry s T)

/-- A sighting of T on the board (R73). -/
def boardSighting (b : Board) (T : ToteNo) : Board := clearHolding b fun e => e.tote == T

/-! ### Accepted frames (R61, R62) -/

/-- DUPLICATE_TOTE for an INFEED, RELEASE or HOLD that names a tote in the own lane (R62). -/
def State.noteDuplicate (s : State) (T : ToteNo) : State :=
  if s.inOwnLane T then s.raise .duplicateTote T else s

/-- STATE (R66). -/
def State.acceptState (s : State) (sender : StationNo) (able : Byte) : State :=
  { s with board :=
    { s.board with stations :=
        s.board.stations.set sender { heard := true, able := able == 1, age := 0 } } }

/-- WANT (R69). -/
def State.acceptWant (s : State) (sender : StationNo) (T : ToteNo) (W : BitVec 16) : State :=
  { s with board := boardWant s.board sender T W.toNat }

/-- DROP (R70). -/
def State.acceptDrop (s : State) (sender : StationNo) (T : ToteNo) : State :=
  { s with board := boardDrop s.board sender T }

/-- HOLD (R62, R71, R82). -/
def State.acceptHold (s : State) (sender : StationNo) (T : ToteNo) : State :=
  let s1 := s.noteDuplicate T
  ({ s1 with board := boardHold s1.board sender T } : State).unexpect T

/-- A frame's prediction is entered in the list, unless its tote is in the own lane (R62, R80). -/
def State.expect (s : State) (T : ToteNo) (a : Announcement) : State :=
  s.place (predict s.conf T a s.clock)

/-- RELEASE (R62, R72, R80). -/
def State.acceptRelease (s : State) (sender : StationNo) (T : ToteNo) (a : Announcement) : State :=
  let s1 := s.noteDuplicate T
  ({ s1 with board := boardRelease s1.board sender T } : State).expect T a

/-- INFEED (R62, R80). -/
def State.acceptInfeed (s : State) (T : ToteNo) (a : Announcement) : State :=
  (s.noteDuplicate T).expect T a

/-- RETURN (R82). -/
def State.acceptReturn (s : State) (T : ToteNo) : State := s.unexpect T

/-! ### The receive path -/

/-- The line becomes idle after a frame, and the receive path takes the frame at that moment (R51, R58);
an own frame on the line keeps it busy. -/
def Bus.idleAfterFrame (b : Bus) : Bus := { b with line := if b.attempting then b.line else .idle }

/-- A run of bits on the line is over (R51). A receiver that is off finds nothing (R63). -/
def State.frameOver (s : State) : State :=
  if s.bus.rxOn then { s with bus := s.bus.idleAfterFrame } else s

/-- A frame of good form: not taken while the receiver is off (R63), STATION_CLASH for the own number
(R59), discarded for its values (R60), and otherwise accepted. -/
def State.receiveWith (s : State) (f : Frame) (accept : State → State) : State :=
  if s.bus.rxOn then
    let s1 := s.frameOver
    if s.bus.ownStation = some f.sender then
      s1.raise .stationClash (f.body.kindCode.setWidth 32)
    else if frameValuesOk s.conf f then accept s1
    else s1
  else s

/-- A frame of good form of any kind (R59 to R62). -/
def State.receive (s : State) (f : Frame) : State :=
  match f.body with
  | .state able => s.receiveWith f fun s => s.acceptState f.sender able
  | .want w => s.receiveWith f fun s => s.acceptWant f.sender f.tote w
  | .drop => s.receiveWith f fun s => s.acceptDrop f.sender f.tote
  | .hold => s.receiveWith f fun s => s.acceptHold f.sender f.tote
  | .release a => s.receiveWith f fun s => s.acceptRelease f.sender f.tote a
  | .infeed a => s.receiveWith f fun s => s.acceptInfeed f.tote a
  | .ret => s.receiveWith f fun s => s.acceptReturn f.tote

/-- A run of bits on the line: discarded without notice where its form is bad (R50, R58), and otherwise
received (log 17). -/
def execFrameDiscarded (bits : List Bool) (s : State) : Host.Outcome State Fault Refusal :=
  .next (match decodeLine bits with
    | none => s.frameOver
    | some f => s.receive f)

def execStateFrame (sender : StationNo) (tote : ToteNo) (able : Byte) (s : State) :
    Host.Outcome State Fault Refusal :=
  .next (s.receiveWith ⟨sender, tote, .state able⟩ fun s => s.acceptState sender able)

def execWantFrame (sender : StationNo) (tote : ToteNo) (weight : BitVec 16) (s : State) :
    Host.Outcome State Fault Refusal :=
  .next (s.receiveWith ⟨sender, tote, .want weight⟩ fun s => s.acceptWant sender tote weight)

def execDropFrame (sender : StationNo) (tote : ToteNo) (s : State) :
    Host.Outcome State Fault Refusal :=
  .next (s.receiveWith ⟨sender, tote, .drop⟩ fun s => s.acceptDrop sender tote)

def execHoldFrame (sender : StationNo) (tote : ToteNo) (s : State) :
    Host.Outcome State Fault Refusal :=
  .next (s.receiveWith ⟨sender, tote, .hold⟩ fun s => s.acceptHold sender tote)

def execReleaseFrame (sender : StationNo) (tote : ToteNo) (a : Announcement) (s : State) :
    Host.Outcome State Fault Refusal :=
  .next (s.receiveWith ⟨sender, tote, .release a⟩ fun s => s.acceptRelease sender tote a)

def execInfeedFrame (sender : StationNo) (tote : ToteNo) (a : Announcement) (s : State) :
    Host.Outcome State Fault Refusal :=
  .next (s.receiveWith ⟨sender, tote, .infeed a⟩ fun s => s.acceptInfeed tote a)

def execReturnFrame (sender : StationNo) (tote : ToteNo) (s : State) :
    Host.Outcome State Fault Refusal :=
  .next (s.receiveWith ⟨sender, tote, .ret⟩ fun s => s.acceptReturn tote)

end Sys2Proof.Machine
end

