-- ==== Sys2Proof/Machine/Reader.lean ====
section
/-! DEFINITION. Reader events: the Loop Tracker settles the identity (R86 to R89), the Divert Unit
judges it (R97 to R102), and takes the tote (R103) or hands it back (R84). -/

namespace Sys2Proof.Machine

/-! ### Settling (R86 to R88) -/

/-- The absolute deviation of a reading from an entry's expected count. -/
def absDeviation (c : Count) (e : EalEntry) : Nat := (deviation c e.expected).natAbs

/-- The entry lies within the window of the count. -/
def inWindow (r : Record) (c : Count) (e : EalEntry) : Bool := decide (absDeviation c e ≤ r.wWin)

/-- What a consumed entry hands on (R89). -/
def EalEntry.part (e : EalEntry) : EntryPart := { cls := e.cls, cold := e.cold, laps := e.laps }

/-- T's entry in the list. -/
def ealEntryOf (tr : Tracker) (T : ToteNo) : Option EalEntry := tr.eal.find? fun e => e.tote == T

/-- A good read meets T's entry: the entry is consumed, its deviation offered, and the match or the
failure handed to the lock (R87, R94). -/
def State.matchRead (s : State) (e : EalEntry) : State :=
  let s1 : State :=
    { s.unexpect e.tote with tracker :=
        { (s.unexpect e.tote).tracker with
          maxDev := max s.tracker.maxDev (absDeviation s.count e) } }
  if inWindow s.conf s.count e then { s1 with tracker := lockMatch s1.conf s1.tracker }
  else s1.lockFailure e.tote

/-- The one entry that gives a failed read its identity by position (R88). -/
def positionEntry (r : Record) (c : Count) (tr : Tracker) : Option EalEntry :=
  match tr.lock, tr.eal.filter (inWindow r c) with
  | .locked, [e] => some e
  | _, _ => none

/-! ### Judging (R97 to R103) -/

/-- A reference re-stamped with the take time where it is UNKNOWN (R96). -/
def restamp (t : Clock) (p : EntryPart) : EntryPart :=
  { p with cold := if p.cold.isKnown then p.cold else .unknown t }

/-- The take (R103). -/
def State.take (s : State) (T : ToteNo) (part : Option EntryPart) : State :=
  { s with divert :=
      { records := s.divert.records ++
          [{ tote := T, readCount := s.count, takeTime := s.clock,
             entry := part.map (restamp s.clock) }]
        commands := s.divert.commands + 1 } }

/-- The take test (R101). The laps of an unmatched read are 0. -/
def takeTest (r : Record) (W Wr laps : Nat) : Bool :=
  decide (Wr ≤ W + r.g) || decide (r.lapLimit - 1 ≤ laps)

/-- The tote is taken: it passes every step of R97 to R101. -/
def State.takes (s : State) (T : ToteNo) (part : Option EntryPart) : Bool :=
  s.mode == .active && s.modeCtl.able &&
    (s.weightOf T).any fun W =>
      takeTest s.conf W (rivalWeight s.board T) ((part.map EntryPart.laps).getD 0)

/-- The judgement of a product identity (R98 to R102). -/
def State.judge (s : State) (T : ToteNo) (part : Option EntryPart) : State :=
  if s.inOwnLane T then s.raise .duplicateTote T
  else if s.takes T part then s.take T part
  else s.place (reAddEntry s.conf T s.count s.clock part)

/-- A settled product identity: the sighting (R73), then the judgement. -/
def State.sighted (s : State) (T : ToteNo) (part : Option EntryPart) : State :=
  (({ s with board := boardSighting s.board T } : State).judge T part).settleLane

/-! ### The reader event -/

/-- A good read of product tote T (R87). -/
def State.goodRead (s : State) (T : ToteNo) : State :=
  match ealEntryOf s.tracker T with
  | some e => (s.matchRead e).sighted T (some e.part)
  | none => s.sighted T none

/-- A failed read (R88). -/
def State.failedRead (s : State) : State :=
  match positionEntry s.conf s.count s.tracker with
  | some e => (s.unexpect e.tote).sighted e.tote (some e.part)
  | none => s

/-- A reader report (R86). -/
def State.readReport (s : State) (report : ReaderReport) : State :=
  if s.configured then
    match report with
    | .noRead => s.failedRead
    | .label n =>
      match toteKind s.conf n with
      | .product => s.goodRead n
      | .service => s
      | .nonCanonical => s.failedRead
      | .unknown => s.failedRead
  else s

def execReaderEvent (report : ReaderReport) (s : State) : Host.Outcome State Fault Refusal :=
  .next (s.readReport report)

end Sys2Proof.Machine
end

