-- ==== Sys2Proof/Machine/Ticks.lean ====
section
/-! DEFINITION. The encoder pulse (R2, R83, R93, R106), the one-second tick (R9) and the counted events
that a pulse or a tick brings about: each of these is a command of its own too, which takes effect
where the event is due (log 3). -/

namespace Sys2Proof.Machine

/-! ### Overdue entries (R83) -/

/-- The nearest entry, if it is overdue, is removed and handed to the lock as a miss (R83). -/
def State.overdueStep (s : State) : State :=
  match s.tracker.eal with
  | [] => s
  | e :: rest =>
    if isOverdue s.conf s.count e then
      ({ s with tracker := { s.tracker with eal := rest } } : State).lockFailure e.tote
    else s

/-- As many looks at the nearest entry as the list has entries (R83). -/
def State.overdueSteps : Nat → State → State
  | 0, s => s
  | n + 1, s => State.overdueSteps n s.overdueStep

/-- One overdue removal (R83). -/
def execOverdueRemoval (s : State) : Host.Outcome State Fault Refusal :=
  .next (if s.configured then s.overdueStep else s)

/-! ### Divert timeouts (R106) -/

/-- The oldest divert record times out (R106). -/
def State.timeOut (s : State) (d : DivertRec) (rest : List DivertRec) : State :=
  let s1 := s.raise .divertFail d.tote
  let s2 : State := { s1 with divert := { s1.divert with records := rest } }
  let s3 := s2.request d.tote (.release (s2.releaseFields (divertClass s2.demand.lines d)
    (divertCold d) (divertLaps d) s2.conf.pR d.readCount))
  s3.place (reAddEntry s3.conf d.tote d.readCount d.takeTime d.entry)

/-- The loop has carried the record's tote past its reach (R106). -/
def reachPassed (r : Record) (current : Count) (d : DivertRec) : Bool :=
  decide (signed16 (current - d.readCount) ≥ (r.divertReach : Int))

/-- The oldest divert record, if its reach is passed, times out (R106). -/
def State.divertStep (s : State) : State :=
  match s.divert.records with
  | [] => s
  | d :: rest => if reachPassed s.conf s.count d then s.timeOut d rest else s

/-- As many looks at the oldest record as there are records (R106). -/
def State.divertSteps : Nat → State → State
  | 0, s => s
  | n + 1, s => State.divertSteps n s.divertStep

/-- One divert timeout with what the freed queue record brings (R106, R147, R151). -/
def execDivertTimeout (s : State) : Host.Outcome State Fault Refusal :=
  .next (if s.configured then (s.divertStep.drainTest).settleLane else s)

/-! ### The encoder pulse -/

/-- The count and the speed window advance (R2, R93); the expected arrivals stand in the order of the
new count (R78, log 27). -/
def State.advanceCount (s : State) : State :=
  { s with
    count := s.count + 1
    tracker :=
      { s.tracker with
        windowCount := min 65535 (s.tracker.windowCount + 1)
        eal := standInOrder (s.count + 1) s.tracker.eal } }

/-- An encoder pulse: the count, then the overdue removals, then the divert timeouts (R2, R83,
R106). -/
def State.pulse (s : State) : State :=
  let s1 := s.advanceCount
  if s1.configured then
    let s2 := State.overdueSteps s1.tracker.eal.length s1
    ((State.divertSteps s2.divert.records.length s2).drainTest).settleLane
  else s1

def execEncoderPulse (s : State) : Host.Outcome State Fault Refusal := .next s.pulse

/-! ### Ages (R67, R74) -/

/-- A station record whose age has reached STALE (R67). -/
def staleStation (r : Record) (q : StationRec) : StationRec :=
  if q.heard && decide (r.stale ≤ q.age) then { heard := false, able := false, age := r.stale }
  else q

/-- A heard station record one second older (R67). -/
def ageStation (r : Record) (q : StationRec) : StationRec :=
  if q.heard then staleStation r { q with age := q.age + 1 } else q

def State.ageStations (s : State) : State :=
  { s with board := { s.board with stations := mapVec (ageStation s.conf) s.board.stations } }

/-- STATION_STALE (R67). -/
def execStationStale (station : StationNo) (s : State) : Host.Outcome State Fault Refusal :=
  .next { s with board :=
    { s.board with stations := modifyVec station (staleStation s.conf) s.board.stations } }

/-- The entry's age has not reached STALE (R74). -/
def isFresh (r : Record) (e : InterestEntry) : Bool := decide (e.age < r.stale)

/-- Every interest entry one second older, and those that reach STALE removed (R74). -/
def State.ageEntries (s : State) : State :=
  { s with board :=
    { s.board with entries :=
        (s.board.entries.map fun e => { e with age := e.age + 1 }).filter (isFresh s.conf) } }

/-- ENTRY_STALE (R74). -/
def execEntryStale (station : StationNo) (tote : ToteNo) (s : State) :
    Host.Outcome State Fault Refusal :=
  .next { s with board :=
    { s.board with entries :=
        s.board.entries.filter fun e =>
          !(e.station == station && e.tote == tote) || isFresh s.conf e } }

/-! ### The merge wait (R118) -/

/-- MERGE_STALL where the count has reached MERGE_WAIT, once for a release (R118). -/
def State.stallWork (s : State) : State :=
  match s.lane.faceRec with
  | none => s
  | some q =>
    if s.lane.face == .releasing && decide (s.conf.mergeWait ≤ q.mergeWait) && !q.stallMark then
      (s.withLane { s.lane with faceRec := some { q with stallMark := true } }).raise .mergeStall
        q.tote
    else s

def execMergeStall (s : State) : Host.Outcome State Fault Refusal := .next s.stallWork

/-- The merge wait count of a RELEASING face, which pauses while the loop is stopped (R118). -/
def State.countMergeWait (s : State) : State :=
  if s.lane.face == .releasing && !s.tracker.loopStopped then
    s.withLane
      { s.lane with faceRec := s.lane.faceRec.map fun q =>
          { q with mergeWait := min s.conf.mergeWait (q.mergeWait + 1) } }
  else s

/-! ### The Cold Monitor (R121, R122) -/

/-- The totes of the lane records in the order of R121: queued, face, park (log 9). -/
def laneTotes (l : Lane) : List ToteNo :=
  (l.queue ++ l.faceRec.toList ++ l.parkRec.toList).map LaneRec.tote

/-- The Cold Monitor's working of every lane record (R121). -/
def State.coldTick (s : State) : State := (laneTotes s.lane).foldl State.coldWork s

/-- COLD_ALERT of one lane record (R121). -/
def execColdAlert (tote : ToteNo) (s : State) : Host.Outcome State Fault Refusal :=
  .next (s.coldAlertWork tote)

/-- COLD_BREACH of one lane record, the urgent flags of its tote after it (R122, R48). -/
def execColdBreach (tote : ToteNo) (s : State) : Host.Outcome State Fault Refusal :=
  .next (if s.breachDue tote then ((s.breach tote).reurgent (· == tote)).settleLane else s)

/-! ### Refreshes (R41, R77) -/

/-- The totes of the hold refresh: face, park, then the queue from its head, strays left out
(R77). -/
def holdTotes (l : Lane) : List ToteNo :=
  ((l.faceRec.toList ++ l.parkRec.toList ++ l.queue).map LaneRec.tote).filter fun T => T != 0

/-- A state and hold refresh (R77). -/
def State.refresh (s : State) : State :=
  (holdTotes s.lane).foldl (fun s T => s.request T .hold)
    ({ s with board := { s.board with refreshCount := 0 } } : State).requestState

/-- The refresh is made where the own refresh count has reached the refresh period (R77). -/
def State.refreshWork (s : State) : State :=
  if s.configured && decide (s.conf.refreshPeriod ≤ s.board.refreshCount) then s.refresh else s

def execStateAndHoldRefresh (s : State) : Host.Outcome State Fault Refusal := .next s.refreshWork

/-- The own refresh count one second on (R77). -/
def State.countRefresh (s : State) : State :=
  ({ s with board :=
      { s.board with refreshCount := s.board.refreshCount + 1 } } : State).refreshWork

/-- WANT_REFRESH: the announcement of a want record whose refresh period has passed (R40, R41). -/
def execWantRefresh (tote : ToteNo) (s : State) : Host.Outcome State Fault Refusal :=
  .next (match s.wantOf tote, s.weightOf tote with
    | some w, some W => if s.refreshDue w then s.announce tote W else s
    | _, _ => s)

/-! ### The one-second tick -/

/-- The end of a speed window (R93). -/
def windowEnd (tr : Tracker) : Tracker :=
  { tr with speed := tr.windowCount, loopStopped := tr.windowCount == 0, windowCount := 0 }

/-- The clock and the speed window, which run in every mode (R9, R93). -/
def State.advanceClock (s : State) : State :=
  { s with clock := s.clock + 1, tracker := windowEnd s.tracker }

/-- A one-second tick. R118 sets the merge wait behind the window's end, and R121 the Cold Monitor
before the urgent flags; the rest of the order is log 8. -/
def State.tick (s : State) : State :=
  let s1 := s.advanceClock
  if s1.configured then
    let s2 := (s1.ageStations.ageEntries).countMergeWait.stallWork
    let s3 := (s2.coldTick).reurgent fun _ => true
    ((s3.checkWants fun _ => true).countRefresh).settleLane
  else s1

def execOneSecondTick (s : State) : Host.Outcome State Fault Refusal := .next s.tick

end Sys2Proof.Machine
end

