-- ==== Sys2Proof/Machine/Timers.lean ====
section
/-! DEFINITION. The millisecond timers: settles (R138), blocked and clear times of the beams (R142,
R143), the waits of R124 and the sensor times of R125. One millisecond is one step on an empty queue
(log 1); the five commands of this file let the time pass that their timer still needs (log 2). -/

namespace Sys2Proof.Machine

/-! ### One millisecond -/

/-- A settle one millisecond on; it ends when its time left reaches 0 (R138). -/
def settleMs : Option Nat → Option Nat
  | none => none
  | some left => if left ≤ 1 then none else some (left - 1)

/-- The beam's blocked time reaches 3000 ms with this millisecond (R142). -/
def turnsStuck (b : Beam) : Bool := b.blocked && !b.stuck && decide (3000 ≤ b.blockedMs + 1)

/-- A beam one millisecond on (R142, R143). -/
def beamMs (b : Beam) : Beam :=
  if b.blocked && !b.stuck then
    if 3000 ≤ b.blockedMs + 1 then { b with stuck := true, blockedMs := 3000, clearMs := 0 }
    else { b with blockedMs := b.blockedMs + 1 }
  else if !b.blocked && b.stuck then
    if 3000 ≤ b.clearMs + 1 then { b with stuck := false, clearMs := 3000 }
    else { b with clearMs := b.clearMs + 1 }
  else b

/-- The positions whose beams become stuck with this millisecond. -/
def newlyStuck (p : Picker) : List PutIdx := allPuts.filter fun k => turnsStuck p.beams[k]

/-- The picking timers one millisecond on, with BEAM_STUCK for each beam that becomes stuck (R138,
R142, R143); of several in one millisecond the first is free (log 10). -/
def State.pickingMs (s : State) : State :=
  let stuck := newlyStuck s.picker
  let s1 : State :=
    { s.drawn stuck with picker :=
        { s.picker with
          beams := mapVec beamMs s.picker.beams
          settles := mapVec settleMs s.picker.settles } }
  (s.freeOrder stuck).foldl
    (fun s k => s.raise .beamStuck (BitVec.ofNat 32 (putNumber k))) s1

/-- A running time one millisecond on. -/
def runMs (t : Option Nat) : Option Nat := t.map (· + 1)

def waitsMs (w : Waits) : Waits where
  arrival := runMs w.arrival
  park := runMs w.park
  merge := runMs w.merge
  head := runMs w.head

def sensorMs (q : SensorRec) : SensorRec := { q with time := runMs q.time }

def sensorsMs (ss : Sensors) : Sensors where
  entry := sensorMs ss.entry
  head := sensorMs ss.head
  face := sensorMs ss.face
  park := sensorMs ss.park
  exit := sensorMs ss.exit

def waitOf (w : Waits) : Wait → Option Nat
  | .arrival => w.arrival
  | .park => w.park
  | .merge => w.merge
  | .head => w.head

/-- A time has reached MOVE_TIME. -/
def reached (moveTime : Nat) (t : Option Nat) : Bool := t.any fun x => decide (moveTime ≤ x)

/-- The detail sensors of the waits and sensor times that have reached MOVE_TIME (R124, R125). -/
def jamCauses (moveTime : Nat) (l : Lane) : List Sensor :=
  ((allWaits.filter fun w => reached moveTime (waitOf l.waits w)).map waitSensor) ++
    allSensors.filter fun x => reached moveTime (sensorOf l.sensors x).time

/-- The lane's waits and sensor times one millisecond on, and the jam that the first to reach MOVE_TIME
makes (R124, R125); they stand still while the lane is jammed (R126), and of several causes in one
millisecond the one taken is free (log 10). -/
def State.laneMs (s : State) : State :=
  if s.lane.jam.isSome then s
  else
    let s1 := s.withLane
      { s.lane with waits := waitsMs s.lane.waits, sensors := sensorsMs s.lane.sensors }
    let causes := jamCauses s.conf.moveTime s1.lane
    match s1.freeOrder causes with
    | [] => s1
    | x :: _ => (s1.drawn causes).jamLane x

/-- The bench line one millisecond on: at 1 Mbit/s that is the time of 1000 bits (R50, R51). -/
def State.lineMs (s : State) : State := { s with bus := s.bus.gapOver }

/-- One millisecond passes. In UNCONFIGURED no millisecond timer runs (R130, R110), and the receiver is
off (R63). -/
def State.passMs (s : State) : State :=
  if s.configured then ((s.lineMs.pickingMs).laneMs).settleLane else s

/-- Several milliseconds pass. -/
def State.passAll : Nat → State → State
  | 0, s => s
  | n + 1, s => State.passAll n s.passMs

/-! ### The commands of the timers -/

/-- The milliseconds until a count reaches its limit: at least the one in which it does. -/
def msLeft (limit t : Nat) : Nat := max 1 (limit - t)

/-- The milliseconds until a wait or a sensor time reaches MOVE_TIME; none where it stands still. -/
def State.moveMsLeft (s : State) (t : Option Nat) : Nat :=
  if s.configured && s.lane.jam.isNone then t.elim 0 (msLeft s.conf.moveTime) else 0

/-- LANE_JAM: the wait runs to MOVE_TIME (R124, R126). -/
def execLaneJam (wait : Wait) (s : State) : Host.Outcome State Fault Refusal :=
  .next (State.passAll (s.moveMsLeft (waitOf s.lane.waits wait)) s)

/-- UNACCOUNTED_SENSOR: the sensor's time runs to MOVE_TIME (R125, R126). -/
def execUnaccountedSensor (sensor : Sensor) (s : State) : Host.Outcome State Fault Refusal :=
  .next (State.passAll (s.moveMsLeft (sensorOf s.lane.sensors sensor).time) s)

/-- SETTLE_END: the settle's time left runs to 0 (R138). -/
def execSettleEnd (k : PutIdx) (s : State) : Host.Outcome State Fault Refusal :=
  .next (State.passAll (s.picker.settles[k].elim 0 (max 1)) s)

/-- BEAM_STUCK: the blocked time runs to 3000 ms (R142). -/
def execBeamStuck (k : PutIdx) (s : State) : Host.Outcome State Fault Refusal :=
  .next (State.passAll
    (if s.picker.beams[k].blocked && !s.picker.beams[k].stuck then
      msLeft 3000 s.picker.beams[k].blockedMs else 0) s)

/-- BEAM_RECOVERED: the clear time runs to 3000 ms (R143). -/
def execBeamRecovered (k : PutIdx) (s : State) : Host.Outcome State Fault Refusal :=
  .next (State.passAll
    (if !s.picker.beams[k].blocked && s.picker.beams[k].stuck then
      msLeft 3000 s.picker.beams[k].clearMs else 0) s)

end Sys2Proof.Machine
end

