-- ==== Sys2Proof/Machine/Dispatch.lean ====
section
/-! DEFINITION. The dispatch: one arm for each command of the opcode table, in the table's order. -/

namespace Sys2Proof.Machine

def exec (i : Instr) (s : State) : Host.Outcome State Fault Refusal :=
  match i with
  | .powerOnReset => Sys2Proof.Machine.execPowerOnReset s
  | .transaction bitsIn => Sys2Proof.Machine.execTransaction bitsIn s
  | .badFrame bytes => Sys2Proof.Machine.execBadFrame bytes s
  | .configure f => Sys2Proof.Machine.execConfigure f s
  | .setTime t => Sys2Proof.Machine.execSetTime t s
  | .restart => Sys2Proof.Machine.execRestart s
  | .loadLine tag tote handle cls qty prio => Sys2Proof.Machine.execLoadLine tag tote handle cls qty prio s
  | .cancelLine tag => Sys2Proof.Machine.execCancelLine tag s
  | .placeOrder handle position deadline => Sys2Proof.Machine.execPlaceOrder handle position deadline s
  | .closeOrder handle => Sys2Proof.Machine.execCloseOrder handle s
  | .releaseFace => Sys2Proof.Machine.execReleaseFace s
  | .rest => Sys2Proof.Machine.execRest s
  | .wake => Sys2Proof.Machine.execWake s
  | .clearJam => Sys2Proof.Machine.execClearJam s
  | .retrack => Sys2Proof.Machine.execRetrack s
  | .setNotice source enable level => Sys2Proof.Machine.execSetNotice source enable level s
  | .setFloor floor => Sys2Proof.Machine.execSetFloor floor s
  | .readNotice => Sys2Proof.Machine.execReadNotice s
  | .clearNotice source => Sys2Proof.Machine.execClearNotice source s
  | .readStatus => Sys2Proof.Machine.execReadStatus s
  | .readLine tag => Sys2Proof.Machine.execReadLine tag s
  | .readLane => Sys2Proof.Machine.execReadLane s
  | .readTrack => Sys2Proof.Machine.execReadTrack s
  | .readConfig => Sys2Proof.Machine.execReadConfig s
  | .encoderPulse => Sys2Proof.Machine.execEncoderPulse s
  | .overdueRemoval => Sys2Proof.Machine.execOverdueRemoval s
  | .divertTimeout => Sys2Proof.Machine.execDivertTimeout s
  | .oneSecondTick => Sys2Proof.Machine.execOneSecondTick s
  | .stationStale station => Sys2Proof.Machine.execStationStale station s
  | .entryStale station tote => Sys2Proof.Machine.execEntryStale station tote s
  | .stateAndHoldRefresh => Sys2Proof.Machine.execStateAndHoldRefresh s
  | .wantRefresh tote => Sys2Proof.Machine.execWantRefresh tote s
  | .coldAlert tote => Sys2Proof.Machine.execColdAlert tote s
  | .coldBreach tote => Sys2Proof.Machine.execColdBreach tote s
  | .mergeStall => Sys2Proof.Machine.execMergeStall s
  | .laneJam wait => Sys2Proof.Machine.execLaneJam wait s
  | .unaccountedSensor sensor => Sys2Proof.Machine.execUnaccountedSensor sensor s
  | .settleEnd k => Sys2Proof.Machine.execSettleEnd k s
  | .beamStuck k => Sys2Proof.Machine.execBeamStuck k s
  | .beamRecovered k => Sys2Proof.Machine.execBeamRecovered k s
  | .frameDiscarded bits => Sys2Proof.Machine.execFrameDiscarded bits s
  | .stateFrame sender tote able => Sys2Proof.Machine.execStateFrame sender tote able s
  | .wantFrame sender tote weight => Sys2Proof.Machine.execWantFrame sender tote weight s
  | .dropFrame sender tote => Sys2Proof.Machine.execDropFrame sender tote s
  | .holdFrame sender tote => Sys2Proof.Machine.execHoldFrame sender tote s
  | .releaseFrame sender tote a => Sys2Proof.Machine.execReleaseFrame sender tote a s
  | .infeedFrame sender tote a => Sys2Proof.Machine.execInfeedFrame sender tote a s
  | .returnFrame sender tote => Sys2Proof.Machine.execReturnFrame sender tote s
  | .sendAttempt => Sys2Proof.Machine.execSendAttempt s
  | .attemptEnd readBack => Sys2Proof.Machine.execAttemptEnd readBack s
  | .readerEvent report => Sys2Proof.Machine.execReaderEvent report s
  | .entrySeen => Sys2Proof.Machine.execEntrySeen s
  | .headBlocked => Sys2Proof.Machine.execHeadBlocked s
  | .faceArrived => Sys2Proof.Machine.execFaceArrived s
  | .parkArrived => Sys2Proof.Machine.execParkArrived s
  | .merged => Sys2Proof.Machine.execMerged s
  | .mergeGap present => Sys2Proof.Machine.execMergeGap present s
  | .sensorBlocked sensor => Sys2Proof.Machine.execSensorBlocked sensor s
  | .sensorClear sensor => Sys2Proof.Machine.execSensorClear sensor s
  | .beamBreak k => Sys2Proof.Machine.execBeamBreak k s
  | .beamClear k => Sys2Proof.Machine.execBeamClear k s
  | .shortKey => Sys2Proof.Machine.execShortKey s
  | .logonKey => Sys2Proof.Machine.execLogonKey s

end Sys2Proof.Machine
end

