-- ==== Sys2Proof/Safety.lean ====
section
/-! DEFINITION. The terms that claims about the part are made in: which blocks a command may touch, which
command row a link command is, and the laws of the manual that every step keeps. -/

namespace Sys2Proof.Machine

/-! ### Frames -/

/-- The parts of the state, one for each field. -/
inductive Block where
  | cfg | count | clock | demand | puts | bus | board | tracker | divert | lane | picker | modeCtl
  | link | notices | freeDraws | pending
  deriving DecidableEq, Repr

/-- Every part of the state outside `bs` is in `t` as it is in `s`. -/
def SameExcept (bs : List Block) (s t : State) : Prop :=
  (Block.cfg ∈ bs ∨ t.cfg = s.cfg) ∧
  (Block.count ∈ bs ∨ t.count = s.count) ∧
  (Block.clock ∈ bs ∨ t.clock = s.clock) ∧
  (Block.demand ∈ bs ∨ t.demand = s.demand) ∧
  (Block.puts ∈ bs ∨ t.puts = s.puts) ∧
  (Block.bus ∈ bs ∨ t.bus = s.bus) ∧
  (Block.board ∈ bs ∨ t.board = s.board) ∧
  (Block.tracker ∈ bs ∨ t.tracker = s.tracker) ∧
  (Block.divert ∈ bs ∨ t.divert = s.divert) ∧
  (Block.lane ∈ bs ∨ t.lane = s.lane) ∧
  (Block.picker ∈ bs ∨ t.picker = s.picker) ∧
  (Block.modeCtl ∈ bs ∨ t.modeCtl = s.modeCtl) ∧
  (Block.link ∈ bs ∨ t.link = s.link) ∧
  (Block.notices ∈ bs ∨ t.notices = s.notices) ∧
  (Block.freeDraws ∈ bs ∨ t.freeDraws = s.freeDraws) ∧
  (Block.pending ∈ bs ∨ t.pending = s.pending)

/-- The parts that an event of the lane may touch: the lane itself, able, its STATE, and the notices. -/
def settleBlocks : List Block := [.lane, .modeCtl, .bus, .notices]

/-- The parts of the state that a command may touch. The queue is in none of them. -/
def commandBlocks : Instr → List Block
  | .powerOnReset =>
      [.cfg, .count, .clock, .demand, .puts, .bus, .board, .tracker, .divert, .lane, .picker,
        .modeCtl, .link, .notices, .freeDraws]
  | .transaction _ | .badFrame _ =>
      [.cfg, .clock, .demand, .puts, .bus, .board, .tracker, .divert, .lane, .picker, .modeCtl,
        .link, .notices]
  | .configure _ => [.cfg, .board, .picker, .link] ++ settleBlocks
  | .setTime _ => [.clock, .demand, .tracker, .divert, .picker, .link] ++ settleBlocks
  | .restart =>
      [.clock, .demand, .puts, .board, .tracker, .divert, .picker, .link] ++ settleBlocks
  | .loadLine _ _ _ _ _ _ | .cancelLine _ | .placeOrder _ _ _ =>
      [.demand, .puts, .picker, .link] ++ settleBlocks
  | .closeOrder _ => [.demand, .puts, .link]
  | .releaseFace => [.demand, .picker, .link] ++ settleBlocks
  | .rest | .wake | .clearJam => .link :: settleBlocks
  | .retrack => [.tracker, .link]
  | .setNotice _ _ _ | .setFloor _ | .clearNotice _ => [.notices, .link]
  | .readNotice | .readLine _ | .readLane | .readConfig => [.link]
  | .readStatus => [.board, .tracker, .link]
  | .readTrack => [.tracker, .link]
  | .encoderPulse => [.count, .tracker, .divert] ++ settleBlocks
  | .overdueRemoval => [.tracker, .notices]
  | .divertTimeout => [.tracker, .divert] ++ settleBlocks
  | .oneSecondTick => [.clock, .tracker, .board, .demand, .picker, .puts] ++ settleBlocks
  | .stationStale _ | .entryStale _ _ => [.board]
  | .stateAndHoldRefresh => [.board, .bus, .notices]
  | .wantRefresh _ => [.demand, .bus, .notices]
  | .coldAlert _ | .mergeStall => [.lane, .notices]
  | .coldBreach _ => [.demand, .picker, .puts] ++ settleBlocks
  | .laneJam _ | .unaccountedSensor _ | .settleEnd _ | .beamStuck _ | .beamRecovered _ =>
      [.picker, .freeDraws] ++ settleBlocks
  | .frameDiscarded _ | .holdFrame _ _ | .releaseFrame _ _ _ => [.board, .tracker, .bus, .notices]
  | .stateFrame _ _ _ | .wantFrame _ _ _ | .dropFrame _ _ => [.board, .bus, .notices]
  | .infeedFrame _ _ _ | .returnFrame _ _ => [.tracker, .bus, .notices]
  | .sendAttempt => [.bus]
  | .attemptEnd _ => [.bus, .notices]
  | .readerEvent _ => [.board, .tracker, .divert] ++ settleBlocks
  | .entrySeen => [.divert, .demand, .picker, .puts] ++ settleBlocks
  | .headBlocked | .parkArrived | .mergeGap _ | .logonKey => settleBlocks
  | .faceArrived => [.demand, .picker] ++ settleBlocks
  | .merged => .tracker :: settleBlocks
  | .sensorBlocked _ => [.divert, .demand, .picker, .puts] ++ settleBlocks
  | .sensorClear _ => .tracker :: settleBlocks
  | .beamBreak _ | .shortKey => [.demand, .picker, .puts] ++ settleBlocks
  | .beamClear _ => [.picker]

/-! ### Link commands as rows of the opcode table -/

/-- The row of the opcode table that a link command is. -/
def commandRow : LinkCommand → Instr
  | .configure f => .configure f
  | .setTime t => .setTime t
  | .restart => .restart
  | .loadLine tag tote handle cls qty prio => .loadLine tag tote handle cls qty prio
  | .cancelLine tag => .cancelLine tag
  | .placeOrder handle position deadline => .placeOrder handle position deadline
  | .closeOrder handle => .closeOrder handle
  | .releaseFace => .releaseFace
  | .rest => .rest
  | .wake => .wake
  | .clearJam => .clearJam
  | .retrack => .retrack
  | .setNotice source enable level => .setNotice source enable level
  | .setFloor floor => .setFloor floor
  | .readNotice => .readNotice
  | .clearNotice source => .clearNotice source
  | .readStatus => .readStatus
  | .readLine tag => .readLine tag
  | .readLane => .readLane
  | .readTrack => .readTrack
  | .readConfig => .readConfig

/-- The row of the opcode table that a received bench line frame is. -/
def frameRow (f : Frame) : Instr :=
  match f.body with
  | .infeed a => .infeedFrame f.sender f.tote a
  | .release a => .releaseFrame f.sender f.tote a
  | .ret => .returnFrame f.sender f.tote
  | .want w => .wantFrame f.sender f.tote w
  | .drop => .dropFrame f.sender f.tote
  | .hold => .holdFrame f.sender f.tote
  | .state able => .stateFrame f.sender f.tote able

/-- The three commands that UNCONFIGURED carries out (R157). -/
def LinkCommand.runsUnconfigured : LinkCommand → Bool
  | .configure _ => true
  | .restart => true
  | .readStatus => true
  | .setTime _ | .loadLine _ _ _ _ _ _ | .cancelLine _ | .placeOrder _ _ _ | .closeOrder _
  | .releaseFace | .rest | .wake | .clearJam | .retrack | .setNotice _ _ _ | .setFloor _
  | .readNotice | .clearNotice _ | .readLine _ | .readLane | .readTrack | .readConfig => false

/-! ### What a statement says of a configuration, of lines and of notices -/

/-- R12's checks of the four structural fields. -/
def StructuralValid (f : ConfigFields) : Prop :=
  f.station.toNat ≤ 31 ∧ 64 ≤ f.loopLen.toNat ∧ f.loopLen.toNat ≤ 32767 ∧
  f.pR.toNat < f.loopLen.toNat ∧ f.pM.toNat < f.loopLen.toNat ∧ f.pM.toNat ≠ f.pR.toNat

/-- A row of the tuning table: the value sent, the range, the default, whether 65535 stands for 0, and the
value held (R13). -/
structure TuningRow where
  sent : BitVec 16
  low : Nat
  high : Nat
  dflt : Nat
  zero : Bool
  held : Nat
  deriving DecidableEq, Repr

/-- The tuning table but for W_win, with what the record `r` holds. -/
def tuningTable (f : ConfigFields) (r : Record) : List TuningRow :=
  [⟨f.c, 2, 6, 4, false, r.c⟩, ⟨f.divertReach, 10, 1000, 200, false, r.divertReach⟩,
    ⟨f.w, 16, 32, 24, false, r.w⟩, ⟨f.lapLimit, 1, 15, 4, false, r.lapLimit⟩,
    ⟨f.chilledBudget, 60, 7200, 1800, false, r.chilledBudget⟩,
    ⟨f.frozenBudget, 60, 3600, 900, false, r.frozenBudget⟩,
    ⟨f.alert, 0, 1800, 300, true, r.alert⟩, ⟨f.stale, 6, 60, 20, false, r.stale⟩,
    ⟨f.g, 0, 2047, 256, true, r.g⟩, ⟨f.urgentSlack, 0, 4095, 600, true, r.urgentSlack⟩,
    ⟨f.lockRun, 2, 15, 4, false, r.lockRun⟩,
    ⟨f.attemptLimit, 1, 255, 20, false, r.attemptLimit⟩,
    ⟨f.missLimit, 1, 15, 3, false, r.missLimit⟩,
    ⟨f.moveTime, 500, 10000, 4000, false, r.moveTime⟩,
    ⟨f.mergeWait, 5, 120, 30, false, r.mergeWait⟩, ⟨f.settle, 200, 3000, 800, false, r.settle⟩]

/-- The length in bytes and the line class of a kind code's frame (R49, R50). -/
def kindForm (k : Nat) : Option (Nat × Nat) :=
  match k with
  | 1 => some (16, 0)
  | 2 => some (16, 1)
  | 3 => some (8, 0)
  | 4 => some (10, 3)
  | 5 => some (8, 3)
  | 6 => some (8, 1)
  | 7 => some (9, 2)
  | _ => none

/-- Every lane sensor is clear. -/
def AllClear (s : State) : Prop := ∀ x : Sensor, s.isBlocked x = false

/-- The state with this reply in the reply slot and everything else as it was (R156). -/
def State.answered (s : State) (bytes : List Byte) : State :=
  { s with link := { s.link with reply := bytes } }

/-- The state once the line is idle after a frame, with nothing else changed: the receiver is on, and no own
frame is on the line (R51, R58, R63). -/
def State.lineIdled (s : State) : State :=
  { s with bus :=
    { s.bus with
      line := if s.bus.rxOn = true ∧ s.bus.attempting = false then .idle else s.bus.line } }

/-- The lines with everything that they hold but their states. -/
def lineFacts (ls : List Line) : List Line := ls.map fun l => { l with state := .waiting }

/-- R30: the coldest class among T's lines that are WAITING, ACTIVE, SUSPENDED or HELD, and AMBIENT where it
has none. -/
def ClassFromLines (s : State) (T : ToteNo) (c : TempClass) : Prop :=
  let counts (l : Line) : Prop := l ∈ s.demand.lines ∧ l.tote = T ∧
    (l.state = .waiting ∨ l.state = .active ∨ l.state = .suspended ∨ l.state = .held)
  (c = .frozen ↔ ∃ l, counts l ∧ l.cls = .frozen) ∧
  (c = .ambient ↔ ∀ l, counts l → l.cls = .ambient)

/-- R104, R106, R160: the class of a divert record, its entry part's where that is KNOWN and otherwise the
class from the tote's lines. -/
def ClassOfDivert (s : State) (d : DivertRec) (c : TempClass) : Prop :=
  (∀ p, d.entry = some p → p.cold.isKnown = true → c = p.cls) ∧
  ((∀ p, d.entry = some p → p.cold.isKnown = false) → ClassFromLines s d.tote c)

/-- The cold kind and the remaining of a READ_LANE slot (R160): both 0 for AMBIENT records and strays, and
otherwise the remaining time where it fits a signed 32-bit value (log 14). -/
def ColdBytes (s : State) (T : ToteNo) (cls : TempClass) (cold : ColdRef) (bs : List Byte) : Prop :=
  (T = 0 ∨ cls = .ambient → bs = [0, 0, 0, 0, 0]) ∧
  (T ≠ 0 → cls ≠ .ambient →
    ∃ rem : BitVec 32, bs = (match cold with | .known _ _ => 1 | .unknown _ => 2) :: bytes32 rem ∧
      (-2147483648 ≤ coldRemaining s.conf cls cold s.clock →
        coldRemaining s.conf cls cold s.clock ≤ 2147483647 →
        rem.toInt = coldRemaining s.conf cls cold s.clock))

/-- Between `s` and `t` the source `n`, and no other, took one event with this detail (R162). -/
def RaisedOnce (n : NoticeSource) (detail : BitVec 32) (s t : State) : Prop :=
  (∀ j : Fin 19, j ≠ n.index → t.notices.sources[j] = s.notices.sources[j]) ∧
  t.notices.floor = s.notices.floor ∧
  t.notices.attn = attnOf t.notices.sources t.notices.floor ∧
  (s.notices.sources[n.index].pending = false →
    t.notices.sources[n.index] =
      { s.notices.sources[n.index] with pending := true, count := 1, detail := detail }) ∧
  (s.notices.sources[n.index].pending = true →
    t.notices.sources[n.index] =
      { s.notices.sources[n.index] with count := min 255 (s.notices.sources[n.index].count + 1) })

/-- Between `s` and `t` the source `n` took one event with this detail, whatever the other sources took
(R162). -/
def SourceRaised (n : NoticeSource) (detail : BitVec 32) (s t : State) : Prop :=
  t.notices.sources[n.index] =
    if s.notices.sources[n.index].pending = true then
      { s.notices.sources[n.index] with count := min 255 (s.notices.sources[n.index].count + 1) }
    else { s.notices.sources[n.index] with pending := true, count := 1, detail := detail }

/-- The source `n` is as it was. -/
def SourceKept (n : NoticeSource) (s t : State) : Prop :=
  t.notices.sources[n.index] = s.notices.sources[n.index]

/-- Between `s` and `t` the source `n` took one event for each of these details, in this order (R162). -/
def RaisedFor (n : NoticeSource) (details : List (BitVec 32)) (s t : State) : Prop :=
  t.notices.sources[n.index] =
    match details with
    | [] => s.notices.sources[n.index]
    | d :: _ =>
      if s.notices.sources[n.index].pending = true then
        { s.notices.sources[n.index] with
          count := min 255 (s.notices.sources[n.index].count + details.length) }
      else
        { s.notices.sources[n.index] with
          pending := true, count := min 255 details.length, detail := d }

/-- Every line of the handle is closed (R17), that with this tag apart. -/
def OthersClosed (s : State) (h : Handle) (tag : Tag) : Prop :=
  ∀ m ∈ s.demand.lines, m.handle = h → m.tag ≠ tag →
    m.state = .done ∨ m.state = .short ∨ m.state = .cancelled

/-- R34: the order at position `k` is re-evaluated and found ready exactly where `now` says; ORDER_READY is
raised with its handle where the flag goes from clear to set, and not otherwise. -/
def ReadyFollows (k : PutIdx) (o : Order) (now : Prop) (s t : State) : Prop :=
  (∃ ready : Bool, (ready = true ↔ now) ∧
    t.puts = s.puts.set k (some { o with ready := ready })) ∧
  (now → o.ready = false → SourceRaised .orderReady (o.handle.setWidth 32) s t) ∧
  (¬ now ∨ o.ready = true → SourceKept .orderReady s t)

/-- The tote numbers of the own lane (R62). -/
def ownTotes (s : State) : List ToteNo :=
  s.divert.records.map DivertRec.tote ++ s.lane.queue.map LaneRec.tote ++
    s.lane.faceRec.toList.map LaneRec.tote ++ s.lane.parkRec.toList.map LaneRec.tote

/-- The lane records: queued, at the face, in the park (R109). -/
def laneRecords (s : State) : List LaneRec :=
  s.lane.queue ++ s.lane.faceRec.toList ++ s.lane.parkRec.toList

/-- R47, with the lines, orders and bench time of `s`: the record is of a stock tote whose cold time is in
its alert margin or past it, or which has a workable EXPRESS line near its deadline. -/
def UrgentIn (s : State) (q : LaneRec) : Prop :=
  q.tote ≠ 0 ∧
    (q.cls ≠ .ambient ∧
        coldRemaining s.conf q.cls q.cold s.clock ≤ (alertMargin s.conf q.cls : Int) ∨
      ∃ l ∈ s.demand.lines, l.tote = q.tote ∧ l.state = .waiting ∧ l.prio = .express ∧
        ∃ u, deadlineOf s.puts l.handle = some u ∧ timeTo u s.clock ≤ (s.conf.urgentSlack : Int))

/-- The transmit queue has room for a frame of every line and of every tote of the own lane, and STATE. -/
def HasRoom (s : State) : Prop :=
  s.bus.queue.length + s.demand.lines.length + (ownTotes s).length < 16

/-- R40, R41, R42: the want record `w`, its time on `t`'s clock, has had its announcement check. It is
announced at the weight of `t`, where that lies 128 or more from the weight announced last or the refresh
period has passed, and otherwise left as it is. -/
def Checked (w : WantRec) (s t : State) : Prop :=
  ∃ W, t.weightOf w.tote = some W ∧
    (128 ≤ |(W : Int) - (w.weight : Int)| ∨ s.conf.refreshPeriod ≤ elapsed t.clock w.time →
      { w with weight := W, time := t.clock } ∈ t.demand.wants ∧
      (s.bus.tx = .on → HasRoom s →
        { sender := s.bus.ownStation.getD 0, tote := w.tote, body := .want (BitVec.ofNat 16 W) } ∈
          t.bus.queue)) ∧
    (|(W : Int) - (w.weight : Int)| < 128 → elapsed t.clock w.time < s.conf.refreshPeriod →
      w ∈ t.demand.wants ∧
      ∀ f ∈ t.bus.queue, f.tote = w.tote → (∃ v, f.body = .want v) → f ∈ s.bus.queue)

/-- R90, R91: the lock of `s` took one failure, named by this tote. -/
def LockFailed (T : ToteNo) (s t : State) : Prop :=
  (s.tracker.lock = .locked → s.tracker.misses + 1 < s.conf.missLimit →
    t.tracker.lock = .locked ∧ t.tracker.misses = s.tracker.misses + 1 ∧
    t.tracker.run = s.tracker.run ∧ SourceKept .trackLost s t) ∧
  (s.tracker.lock = .locked → s.conf.missLimit ≤ s.tracker.misses + 1 →
    t.tracker.lock = .seeking ∧ t.tracker.run = 0 ∧ t.tracker.attempts = 0 ∧
    t.tracker.misses = 0 ∧ SourceRaised .trackLost T s t) ∧
  (s.tracker.lock = .seeking ∨ s.tracker.lock = .confirming →
    s.tracker.attempts + 1 < s.conf.attemptLimit →
    t.tracker.lock = .seeking ∧ t.tracker.run = 0 ∧
    t.tracker.attempts = s.tracker.attempts + 1 ∧ SourceKept .trackFault s t) ∧
  (s.tracker.lock = .seeking ∨ s.tracker.lock = .confirming →
    s.conf.attemptLimit ≤ s.tracker.attempts + 1 →
    t.tracker.lock = .faulted ∧ t.tracker.run = 0 ∧ t.tracker.attempts = s.conf.attemptLimit ∧
    SourceRaised .trackFault T s t) ∧
  (s.tracker.lock = .faulted → t.tracker.lock = .faulted ∧ SourceKept .trackFault s t)

/-- R30, R46, R106: RELEASE of a timed-out divert record is queued in `t`, with its class, cold used and
laps, from the reader's position at its read count. -/
def TimeoutReleased (d : DivertRec) (s t : State) : Prop :=
  ∃ a c, { sender := s.bus.ownStation.getD 0, tote := d.tote, body := .release a } ∈ t.bus.queue ∧
    ClassOfDivert s d c ∧ a.cls = classCode c ∧
    (∀ used time, d.entry.map EntryPart.cold = some (.known used time) →
      a.coldUsed.toNat = min 65535 (used + elapsed s.clock time)) ∧
    (∀ time, (d.entry.map EntryPart.cold).getD (.unknown d.takeTime) = .unknown time →
      a.coldUsed.toNat = (if c = .ambient then 0 else
        min 65535 (budget s.conf c - alertMargin s.conf c + elapsed s.clock time))) ∧
    a.laps = BitVec.ofNat 8 ((d.entry.map EntryPart.laps).getD 0) ∧
    a.position = BitVec.ofNat 16 s.conf.pR ∧ a.count = d.readCount

/-- R84, R106: the expected arrival of a timed-out divert record, one lap after its read count. That the
entry of a record without an entry part is stamped with the take time is log 19. -/
def timeoutEntry (s : State) (d : DivertRec) : EalEntry :=
  let expected := d.readCount + BitVec.ofNat 16 s.conf.loopLen
  match d.entry with
  | some p =>
    { tote := d.tote, expected, cls := p.cls, cold := p.cold, laps := min 255 (p.laps + 1) }
  | none => { tote := d.tote, expected, cls := .ambient, cold := .unknown d.takeTime, laps := 0 }

/-- R112: the EMPTY face is filled, the queue being these records. After a park the queue head comes, and
otherwise the parked tote before the queue; a queue head comes where the head sensor is blocked, and is
waited for where it is clear. The stage that an ARRIVING record keeps is log 11, and the head wait that
goes on is log 23. -/
def Filled (queue : List LaneRec) (s t : State) : Prop :=
  (∀ p, s.lane.parkRec = some p → s.lane.preempted = false →
    t.lane.face = .arriving ∧ t.lane.faceRec = some { p with source := .park } ∧
    t.lane.parkRec = none ∧ t.lane.queue = queue ∧ t.lane.waits.arrival = some 0 ∧
    t.lane.drives = { advance := false, transfer := .towardFace, exit := false }) ∧
  (∀ q rest, queue = q :: rest → s.lane.preempted = true ∨ s.lane.parkRec = none →
    t.lane.parkRec = s.lane.parkRec ∧
    (s.isBlocked .head = true →
      t.lane.face = .arriving ∧ t.lane.faceRec = some { q with source := .queue } ∧
      t.lane.queue = rest ∧ t.lane.waits.arrival = some 0 ∧ t.lane.waits.head = none ∧
      t.lane.drives = { advance := true, transfer := .off, exit := false }) ∧
    (s.isBlocked .head = false →
      t.lane.face = .empty ∧ t.lane.queue = queue ∧
      t.lane.waits.head = some (s.lane.waits.head.getD 0) ∧ t.lane.drives = .off))

/-- R128: in SWEEPING the EMPTY face of an unjammed lane is filled, `u` holding the sensor levels and the
records from before the fill. The face-or-exit case comes first, then the park case inside the resume of
R112, then the queue of R112, and the head case where no record is queued. -/
def SweepFilled (u t : State) : Prop :=
  let stray (source : FaceSource) : Prop := ∃ q ∈ t.lane.faceRec, q.tote = 0 ∧ q.source = source
  let records : Prop := t.lane.queue = u.lane.queue ∧ t.lane.parkRec = u.lane.parkRec
  (u.isBlocked .face = true ∨ u.isBlocked .exit = true →
    t.lane.face = (if u.lane.gap = true then .leaving else .releasing) ∧ stray .queue ∧ records ∧
    t.lane.drives = { advance := false, transfer := .off, exit := u.lane.gap }) ∧
  (u.isBlocked .face = false → u.isBlocked .exit = false →
    (u.lane.parkRec = none → u.isBlocked .park = true →
      t.lane.face = .arriving ∧ stray .park ∧ records ∧ t.lane.waits.arrival = some 0 ∧
      t.lane.drives = { advance := false, transfer := .towardFace, exit := false }) ∧
    (u.lane.parkRec ≠ none ∨ u.isBlocked .park = false → Filled u.lane.queue u t) ∧
    (u.lane.parkRec = none → u.isBlocked .park = false → u.lane.queue = [] →
      records ∧
      (u.isBlocked .head = true →
        t.lane.face = .arriving ∧ stray .queue ∧ t.lane.waits.arrival = some 0 ∧
        t.lane.drives = { advance := true, transfer := .off, exit := false }) ∧
      (u.isBlocked .head = false → t.lane.face = .empty ∧ t.lane.drives = .off)))

/-- R23: the line that the Demand Table answers for the tote: its SUSPENDED line, and otherwise its first
workable line in load order. -/
def Answered (s : State) (T : ToteNo) : Option Line :=
  (s.demand.lines.find? fun m => decide (m.state = .suspended ∧ m.tote = T)).or
    (s.demand.lines.find? fun m => decide (m.tote = T) && isWorkable s.puts m)

/-- R131: no line is ACTIVE, and the picker outputs are off. -/
def PickerDark (t : State) : Prop :=
  t.picker.active = none ∧ t.picker.putLight = none ∧ t.picker.toteLight = false ∧
    t.picker.display = none ∧ ∀ m ∈ t.demand.lines, m.state ≠ .active

/-- R115: the first four conditions of the preemption check, the face record `q` PRESENTING. -/
def HeadPreempts (s : State) (q : LaneRec) : Prop :=
  s.mode = .active ∧ s.lane.jam = none ∧ (∃ h ∈ s.lane.queue.head?, h.urgent = true) ∧
    ¬ UrgentIn s q

/-- R114, R118: the presented record `q` of `s` has gone to RELEASING, or on to LEAVING with the gap present
and no jam. -/
def ReleasedFrom (q : LaneRec) (s t : State) : Prop :=
  PickerDark t ∧
  t.lane.face = (if s.lane.gap = true ∧ s.lane.jam = none then .leaving else .releasing) ∧
  t.lane.drives =
    { advance := false, transfer := .off, exit := s.lane.gap && s.lane.jam.isNone } ∧
  ∃ p ∈ t.lane.faceRec, p = { q with urgent := p.urgent, mergeWait := 0, stallMark := false } ∧
    (p.urgent = true ↔ UrgentIn t q)

/-- R116 at a line boundary: the presented record `q` has become the park record, with no saved tag. -/
def ParkedAtBoundary (q : LaneRec) (t : State) : Prop :=
  PickerDark t ∧ t.lane.face = .parking ∧ t.lane.faceRec = none ∧
  t.lane.parkRec = some { q with stage := .park, savedTag := none, urgent := false } ∧
  t.lane.waits.park = some 0 ∧
  t.lane.drives = { advance := false, transfer := .towardPark, exit := false }

/-- R115 with the park occupied: PARK_REFUSED is raised for the queue head, once by its mark. -/
def ParkRefused (s t : State) : Prop :=
  ∀ h ∈ s.lane.queue.head?,
    t.lane.queue = { h with refusalMark := true } :: s.lane.queue.tail ∧
    (h.refusalMark = false → SourceRaised .parkRefused h.tote s t) ∧
    (h.refusalMark = true → SourceKept .parkRefused s t)

/-- R23, R131: the face stays PRESENTING with `q`, and the line `m` is made ACTIVE and lit. -/
def WorkedNext (q : LaneRec) (m : Line) (s t : State) : Prop :=
  t.lane.face = .presenting ∧ t.lane.drives = .off ∧ { m with state := .active } ∈ t.demand.lines ∧
  t.picker.active = positionOf s.puts m.handle ∧ t.picker.putLight = positionOf s.puts m.handle ∧
  t.picker.toteLight = true ∧ t.picker.display = some (m.qty - m.puts) ∧
  ∃ p ∈ t.lane.faceRec, p = { q with urgent := p.urgent } ∧ (p.urgent = true ↔ UrgentIn t q)

/-- R135, steps 3 to 5: what follows the end of the ACTIVE line `l` of `s` with its tote PRESENTING. In
DRAINING the face goes to RELEASING (R114). In ACTIVE the preemption check is made (R115): the tote is parked
or refused the park. A tote that is not parked has its next line made ACTIVE, and without one goes to
RELEASING (R23, R114). No other line changes but the one made ACTIVE. -/
def BoundaryFollows (l : Line) (s t : State) : Prop :=
  ∀ q ∈ s.lane.faceRec,
    (∀ n ∈ s.demand.lines, n.tag ≠ l.tag →
      n ∈ t.demand.lines ∨ { n with state := .active } ∈ t.demand.lines ∧ Answered s l.tote = some n) ∧
    (HeadPreempts s q → s.lane.parkRec = none → ParkedAtBoundary q t) ∧
    (HeadPreempts s q → s.lane.parkRec ≠ none → ParkRefused s t) ∧
    (¬ HeadPreempts s q ∨ s.lane.parkRec = none →
      t.lane.queue = s.lane.queue ∧ SourceKept .parkRefused s t) ∧
    (¬ HeadPreempts s q ∨ s.lane.parkRec ≠ none →
      t.lane.parkRec = s.lane.parkRec ∧
      (s.mode = .draining ∨ Answered s l.tote = none → ReleasedFrom q s t) ∧
      (s.mode = .active → ∀ m ∈ Answered s l.tote, WorkedNext q m s t))

/-! ### Laws that every step keeps -/

/-- R54, R55: at most 16 frames in the transmit queue, at most one for each key. -/
def TxQueueLaw (s : State) : Prop :=
  s.bus.queue.length ≤ 16 ∧ (s.bus.queue.map frameKey).Nodup

/-- R63: the transmitter's states and the receiver by mode, and nothing left to send in LISTEN_ONLY. -/
def TransmitterLaw (s : State) : Prop :=
  (s.mode = .unconfigured ↔ s.bus.tx = .off) ∧
  (s.mode = .rest ↔ (s.bus.tx = .closing ∨ s.bus.tx = .listenOnly)) ∧
  (s.bus.tx = .listenOnly → s.bus.queue = [] ∧ s.bus.slot = none) ∧
  (s.bus.rxOn = false ↔ s.mode = .unconfigured)

/-- R51 to R53, R63, R64: an attempt in progress has its frame in the slot, means the frame's bits, keeps
the line busy, and is made in ON or CLOSING; without one no bits are meant and no slot waits to be
emptied by RESTART; a slot frame has been lost fewer than 16 times; and a receiver that is off has found no
idle line. -/
def AttemptLaw (s : State) : Prop :=
  (s.bus.attempting = true →
    (∃ x, s.bus.slot = some x ∧ s.bus.meant = frameBits x.frame) ∧ s.bus.line = .frame ∧
      (s.bus.tx = .on ∨ s.bus.tx = .closing)) ∧
  (s.bus.attempting = false → s.bus.meant = [] ∧ s.bus.slotDoomed = false) ∧
  (∀ x, s.bus.slot = some x → x.attempts < 16) ∧
  (s.bus.rxOn = false → s.bus.line = .gap)

/-- R16, R18, R24: at most 128 lines, no two with one tag, every quantity 1..99, no put count beyond
its quantity, and a line whose put count equals its quantity is DONE. -/
def LinesLaw (s : State) : Prop :=
  s.demand.lines.length ≤ 128 ∧ (s.demand.lines.map Line.tag).Nodup ∧
  ∀ l ∈ s.demand.lines, 1 ≤ l.qty ∧ l.qty ≤ 99 ∧ l.puts ≤ l.qty ∧ (l.puts = l.qty → l.state = .done)

/-- R29: one want record for each tote with a workable line, and none for any other tote. -/
def WantsLaw (s : State) : Prop :=
  (s.demand.wants.map WantRec.tote).Nodup ∧
  ∀ T, (∃ w ∈ s.demand.wants, w.tote = T) ↔ hasWorkable s.demand.lines s.puts T = true

/-- R31: each handle is placed at at most one position. -/
def PutMapLaw (s : State) : Prop :=
  ∀ (j k : PutIdx) (o p : Order), s.puts[j] = some o → s.puts[k] = some p → o.handle = p.handle →
    j = k

/-- R34: the ready flag of each order is set exactly while its handle has a line and none of them is
open. -/
def ReadyLaw (s : State) : Prop :=
  ∀ (k : PutIdx) (o : Order), s.puts[k] = some o → o.ready = orderReady s.demand.lines o.handle

/-- R68: at most 64 interest entries, one for each pair, each with a weight or holding. -/
def BoardLaw (s : State) : Prop :=
  s.board.entries.length ≤ 64 ∧
  (s.board.entries.map fun e => (e.station, e.tote)).Nodup ∧
  ∀ e ∈ s.board.entries, e.weight.isSome = true ∨ e.holding = true

/-- R78, R79: at most 32 expected arrivals, one for each tote, nearest first, none overdue; the list is
empty in UNCONFIGURED, and the window is one a configuration can hold (R13). -/
def EalLaw (s : State) : Prop :=
  s.tracker.eal.length ≤ 32 ∧
  (s.tracker.eal.map EalEntry.tote).Nodup ∧
  s.tracker.eal.Pairwise (fun a b => aheadOf a.expected s.count ≤ aheadOf b.expected s.count) ∧
  (∀ e ∈ s.tracker.eal, isOverdue s.conf s.count e = false) ∧
  (s.mode = .unconfigured → s.tracker.eal = []) ∧
  s.conf.wWin ≤ 255

/-- R78, R98: no tote number stands twice in the own lane, strays apart, and no tote of the own lane is
expected. -/
def OwnLaneLaw (s : State) : Prop :=
  ((ownTotes s).filter fun T => T != 0).Nodup ∧
  (∀ d ∈ s.divert.records, d.tote ≠ 0) ∧
  ∀ e ∈ s.tracker.eal, e.tote ≠ 0 ∧ s.inOwnLane e.tote = false

/-- R111, R146: the face record exists in every face state except EMPTY and PARKING; in REST, and in
UNCONFIGURED, the lane is empty. -/
def LaneLaw (s : State) : Prop :=
  (s.lane.faceRec.isSome = true ↔ (s.lane.face ≠ .empty ∧ s.lane.face ≠ .parking)) ∧
  ((s.mode = .rest ∨ s.mode = .unconfigured) → s.laneEmpty = true)

/-- R96, R147: the able condition is as its three parts give it, queue records never number more than
C, and in UNCONFIGURED there are none. -/
def AbleLaw (s : State) : Prop :=
  s.modeCtl.able = s.ableNow ∧ (s.mode ≠ .unconfigured → s.queueRecords ≤ s.conf.c) ∧
  (s.mode = .unconfigured → s.queueRecords = 0)

/-- R111, R125: the drive outputs are those of the face state, and a sensor's time runs exactly while
the sensor is blocked and not accounted for. -/
def OutputsLaw (s : State) : Prop :=
  s.lane.drives = drivesOf s.lane ∧
  ∀ x : Sensor, (sensorOf s.lane.sensors x).time.isSome = (s.isBlocked x && !s.accounted x)

/-- R19, R130, R131: a line is ACTIVE exactly while the face is PRESENTING, it is the only one and it
is a line of the face tote; ACTIVE and SUSPENDED lines are placed; and the picker outputs are those of
the ACTIVE line, or off. -/
def PresentLaw (s : State) : Prop :=
  (s.lane.face = .presenting ↔ ∃ l ∈ s.demand.lines, l.state = .active) ∧
  (∀ l ∈ s.demand.lines, l.state = .active →
    ∃ q, s.lane.faceRec = some q ∧ q.tote = l.tote) ∧
  (∀ l ∈ s.demand.lines, ∀ m ∈ s.demand.lines, l.state = .active → m.state = .active → l = m) ∧
  (∀ l ∈ s.demand.lines, l.state = .active ∨ l.state = .suspended →
    isPlaced s.puts l.handle = true) ∧
  (∀ l ∈ s.demand.lines, l.state = .active →
    s.picker.active = positionOf s.puts l.handle ∧ s.picker.putLight = s.picker.active ∧
    s.picker.toteLight = true ∧ s.picker.display = some (l.qty - l.puts)) ∧
  (s.lane.face ≠ .presenting → s.picker.active = none ∧ s.picker.putLight = none ∧
    s.picker.toteLight = false ∧ s.picker.display = none)

/-- R162, R163: ATTN is as the sources and the floor give it, counts lie in 0..255 and are 0 with the
detail where the flag is clear, and levels and floor lie in 0..7. -/
def NoticesLaw (s : State) : Prop :=
  s.notices.attn = attnOf s.notices.sources s.notices.floor ∧ s.notices.floor ≤ 7 ∧
  ∀ i : Fin 19, s.notices.sources[i].count ≤ 255 ∧ s.notices.sources[i].level ≤ 7 ∧
    (s.notices.sources[i].pending = false →
      s.notices.sources[i].count = 0 ∧ s.notices.sources[i].detail = 0)

/-- R90 to R92: the lock's counters by its state, once the part is configured. -/
def LockLaw (s : State) : Prop :=
  (s.mode = .unconfigured → s.tracker.lock = .seeking ∧ s.tracker.run = 0 ∧ s.tracker.attempts = 0 ∧
    s.tracker.misses = 0) ∧
  (s.mode ≠ .unconfigured → 2 ≤ s.conf.lockRun ∧ 1 ≤ s.conf.attemptLimit ∧ 1 ≤ s.conf.missLimit ∧
    (match s.tracker.lock with
      | .seeking => s.tracker.run = 0 ∧ s.tracker.attempts < s.conf.attemptLimit
      | .confirming =>
          1 ≤ s.tracker.run ∧ s.tracker.run < s.conf.lockRun ∧
            s.tracker.attempts < s.conf.attemptLimit
      | .locked =>
          s.tracker.run = s.conf.lockRun ∧ s.tracker.attempts = 0 ∧
            s.tracker.misses < s.conf.missLimit
      | .faulted => s.tracker.run = 0 ∧ s.tracker.attempts = s.conf.attemptLimit))

end Sys2Proof.Machine
end

