-- ==== Sys2Proof/Certificates/Slice0/Obligations.lean ====
section
/-! DEFINITION. The statements for the provers. The spec's sections stand in the docstrings by their rule
numbers; OBLIGATIONS.json says which of them a statement formalises whole. -/

open Sys2Proof Sys2Proof.Machine

/-! ### The machine -/

/-- One step takes the command at the front of the queue (log 1). -/
def Obligations.StepTakesFront : Prop :=
  ∀ (c : Instr) (rest : List Instr) (s : State), s.pending = c :: rest →
    step s = exec c { s with pending := rest }

/-- No command stops the part: each has a next state in every state, the queue is left alone, and only the
parts that the command's rules name are touched. -/
def Obligations.EveryCommandKeepsToItsParts : Prop :=
  ∀ (c : Instr) (s : State), Block.pending ∉ commandBlocks c ∧
    ∃ t, exec c s = .next t ∧ SameExcept (commandBlocks c) s t

/-- A step on an empty queue is one millisecond (log 1): nothing in UNCONFIGURED; elsewhere the settles
(R138), the beam times (R142, R143) and, while the lane is not jammed and no time reaches MOVE_TIME, the
waits and sensor times (R124 to R126); a line without a frame on it becomes idle (R51). -/
def Obligations.IdleStepIsOneMillisecond : Prop :=
  ∀ s : State, s.pending = [] →
    (s.mode = .unconfigured → step s = .next s) ∧
    (s.mode ≠ .unconfigured →
      ∃ t, step s = .next t ∧
        SameExcept ([.picker, .freeDraws] ++ settleBlocks) s t ∧
        (∀ k : PutIdx,
          (s.picker.settles[k] = none → t.picker.settles[k] = none) ∧
          (∀ n, s.picker.settles[k] = some n →
            t.picker.settles[k] = if n ≤ 1 then none else some (n - 1))) ∧
        (∀ k : PutIdx,
          (s.picker.beams[k].blocked = s.picker.beams[k].stuck →
            t.picker.beams[k] = s.picker.beams[k]) ∧
          (s.picker.beams[k].blocked = true → s.picker.beams[k].stuck = false →
            t.picker.beams[k] =
              if s.picker.beams[k].blockedMs + 1 < 3000 then
                { s.picker.beams[k] with blockedMs := s.picker.beams[k].blockedMs + 1 }
              else { s.picker.beams[k] with stuck := true, blockedMs := 3000, clearMs := 0 }) ∧
          (s.picker.beams[k].blocked = false → s.picker.beams[k].stuck = true →
            t.picker.beams[k] =
              if s.picker.beams[k].clearMs + 1 < 3000 then
                { s.picker.beams[k] with clearMs := s.picker.beams[k].clearMs + 1 }
              else { s.picker.beams[k] with stuck := false, clearMs := 3000 })) ∧
        t.picker.active = s.picker.active ∧ t.picker.display = s.picker.display ∧
        t.picker.toteLight = s.picker.toteLight ∧ t.picker.putLight = s.picker.putLight ∧
        (s.lane.jam.isSome = true → t.lane.waits = s.lane.waits ∧ t.lane.jam = s.lane.jam) ∧
        (s.lane.jam = none →
          (∀ w n, waitOf s.lane.waits w = some n → n + 1 < s.conf.moveTime) →
          (∀ x n, (sensorOf s.lane.sensors x).time = some n → n + 1 < s.conf.moveTime) →
          t.lane.jam = none ∧
          (∀ w, waitOf t.lane.waits w = (waitOf s.lane.waits w).map (· + 1)) ∧
          (OutputsLaw s → ∀ x, (sensorOf t.lane.sensors x).time =
            (sensorOf s.lane.sensors x).time.map (· + 1))) ∧
        (s.lane.jam = none →
          ((∃ w, waitOf s.lane.waits w = some (s.conf.moveTime - 1)) ∨
            ∃ x, (sensorOf s.lane.sensors x).time = some (s.conf.moveTime - 1)) →
          t.lane.jam.isSome = true ∧
          t.notices.sources[NoticeSource.laneJam.index].pending = true) ∧
        t.bus.line =
          (if s.bus.rxOn = true ∧ s.bus.line = .gap then .idle else s.bus.line))

/-! ### The encodings -/

/-- Every command of the local link decodes from its own frame, whose bytes sum to 0 (R156, R157). -/
def Obligations.CommandFrameRoundTrip : Prop :=
  ∀ c : LinkCommand,
    decodeCommand (encodeCommand c) = some c ∧ byteSum (encodeCommand c) = 0 ∧
    (encodeCommand c).length = c.fieldBytes.length + 3

/-- Every bench line frame decodes from its own bytes, which number what R50 gives for its kind, and begin
with line class × 32 + sender. On the line each byte is ten bits: a start bit, the data bits with the most
significant first, and a stop bit (R50; that they are 0 and 1 is log 28, that the part sends them without
quiet bits between them log 30); and the frame decodes from its bits. -/
def Obligations.BenchLineFrameRoundTrip : Prop :=
  (∀ bytes : List Byte,
    bytesOfLine (lineBits bytes) = some bytes ∧ (lineBits bytes).length = 10 * bytes.length ∧
    ∀ (n : Nat) (b : Byte), bytes[n]? = some b →
      (lineBits bytes)[10 * n]? = some false ∧ (lineBits bytes)[10 * n + 9]? = some true ∧
      ∀ i, i < 8 → (lineBits bytes)[10 * n + 1 + i]? = some (b.getMsbD i)) ∧
  ∀ f : Frame,
    decodeLine (frameBits f) = some f ∧ decodeFrame (encodeFrame f) = some f ∧
    ((encodeFrame f).head?.map BitVec.toNat = some (f.body.lineClass * 32 + f.sender.val)) ∧
    (encodeFrame f).length =
      (match f.body with
        | .infeed _ => 16
        | .release _ => 16
        | .want _ => 10
        | .state _ => 9
        | .ret => 8
        | .drop => 8
        | .hold => 8)

/-! ### The local link -/

/-- Bytes are exchanged over the local link eight bits at a time, the most significant first. A transaction
shifts the waiting reply out, followed by zero bytes, and empties the reply slot; with no byte or a first
byte of 0 it carries no command, with a command frame it runs the command on the emptied slot, and a frame
that fails the checks is the BAD_FRAME row's (R156, R157; the bits are the command's operand, log 17). Bits
after the last whole byte are ignored by the model's choice, log 32. -/
def Obligations.Transaction : Prop :=
  (∀ bytes : List Byte, (linkBits bytes).length = 8 * bytes.length ∧
    ∀ (n : Nat) (b : Byte), bytes[n]? = some b →
      ∀ i, i < 8 → (linkBits bytes)[8 * n + i]? = some (b.getMsbD i)) ∧
  ∀ (bytes : List Byte) (cut bits : List Bool) (s : State), cut.length < 8 →
    bits = linkBits bytes ++ cut →
    (bytes = [] ∨ bytes.head? = some 0 →
      ∃ t, exec (.transaction bits) s = .next t ∧ SameExcept [.link] s t ∧ t.link.reply = [] ∧
        t.link.shiftedOut.length = bits.length ∧
        ∀ i, i < bits.length →
          t.link.shiftedOut[i]? = some (((linkBits s.link.reply)[i]?).getD false)) ∧
    let shifted : State :=
      { s with link :=
          { reply := []
            shiftedOut :=
              (linkBits s.link.reply ++ List.replicate bits.length false).take bits.length } }
    (∀ c : LinkCommand, bytes = encodeCommand c →
      exec (.transaction bits) s = exec (commandRow c) shifted) ∧
    (∀ b rest, bytes = b :: rest → b ≠ 0 → decodeCommand bytes = none →
      exec (.transaction bits) s = exec (.badFrame bytes) shifted)

/-- A frame with an unknown code, a wrong length byte, a wrong number of bytes or a wrong sum is answered
BAD_FRAME, its first byte echoed, and changes nothing else (R157). -/
def Obligations.BadFrameIsAnswered : Prop :=
  ∀ (b : Byte) (rest : List Byte) (s : State), b ≠ 0 →
    (21 < b.toNat ∨ byteSum (b :: rest) ≠ 0 ∨ rest = [] ∨
      (∃ len : Byte, rest.head? = some len ∧
        (rest.length ≠ len.toNat + 2 ∨
          ∀ c : LinkCommand, c.code = b → c.fieldBytes.length ≠ len.toNat))) →
    exec (.badFrame (b :: rest)) s =
      .next (s.answered [b, 13, -(b + 13)])

/-- In UNCONFIGURED every command but CONFIGURE, READ_STATUS and RESTART is answered NOT_CONFIGURED and
changes nothing (R157), and the reader, the lane and the picker change nothing but the levels they report
(R86, R105, R110, R133, R150). The rows that name a change of one sensor are that change (log 6). -/
def Obligations.Unconfigured : Prop :=
  ∀ s : State, s.mode = .unconfigured →
    (∀ c : LinkCommand, c.code ≠ 1 → c.code ≠ 17 → c.code ≠ 3 →
      exec (commandRow c) s = .next (s.answered [c.code, 2, -(c.code + 2)])) ∧
    (∀ r, exec (.readerEvent r) s = .next s) ∧
    exec .shortKey s = .next s ∧ exec .logonKey s = .next s ∧
    (∀ x, ∃ t, exec (.sensorBlocked x) s = .next t ∧
      t = { s with lane := { s.lane with sensors := t.lane.sensors } } ∧
      sensorOf t.lane.sensors x = { sensorOf s.lane.sensors x with blocked := true } ∧
      ∀ y, y ≠ x → sensorOf t.lane.sensors y = sensorOf s.lane.sensors y) ∧
    (∀ x, ∃ t, exec (.sensorClear x) s = .next t ∧
      t = { s with lane := { s.lane with sensors := t.lane.sensors } } ∧
      sensorOf t.lane.sensors x = { blocked := false, time := none } ∧
      ∀ y, y ≠ x → sensorOf t.lane.sensors y = sensorOf s.lane.sensors y) ∧
    exec .entrySeen s = exec (.sensorBlocked .entry) s ∧
    exec .headBlocked s = exec (.sensorBlocked .head) s ∧
    exec .faceArrived s = exec (.sensorBlocked .face) s ∧
    exec .parkArrived s = exec (.sensorBlocked .park) s ∧
    exec .merged s = exec (.sensorClear .exit) s ∧
    (∀ g, exec (.mergeGap g) s = .next { s with lane := { s.lane with gap := g } }) ∧
    (∀ k : PutIdx, ∃ t, exec (.beamBreak k) s = .next t ∧
      t = { s with picker := { s.picker with beams := t.picker.beams } } ∧
      t.picker.beams[k] = { s.picker.beams[k] with blocked := true } ∧
      ∀ j : PutIdx, j ≠ k → t.picker.beams[j] = s.picker.beams[j])


/-! ### Power-on, configuration, restart and the clocks -/

/-- POWER_ON_RESET leaves the reset state, but for the levels of the sensor, gap and beam inputs and the
waiting commands, which are not the part's (R110, R130, R155; log 15); and that state holds what the rules
give, block by block (that a stopped beam time holds 0 is the model's choice, log 15): R9, R2, R16, R31,
R64, R65, R68, R92, R93, R94, R109, R111, R145, R146, R156, R162, R163. -/
def Obligations.PowerOnReset : Prop :=
  (∀ s : State, ∃ t, exec .powerOnReset s = .next t ∧
    t = { State.reset with
          lane := { State.reset.lane with sensors := t.lane.sensors, gap := s.lane.gap }
          picker := { State.reset.picker with beams := t.picker.beams }
          pending := s.pending } ∧
    (∀ x : Sensor, sensorOf t.lane.sensors x = { blocked := s.isBlocked x, time := none }) ∧
    (∀ k : PutIdx, t.picker.beams[k] =
      { blocked := s.picker.beams[k].blocked, stuck := false, blockedMs := 0, clearMs := 0 })) ∧
  State.reset.cfg = none ∧ State.reset.count = 0 ∧ State.reset.clock = 0 ∧
  State.reset.demand.lines = [] ∧ State.reset.demand.wants = [] ∧
  (∀ k : PutIdx, State.reset.puts[k] = none) ∧
  State.reset.bus.ownStation = none ∧ State.reset.bus.rxOn = false ∧ State.reset.bus.tx = .off ∧
  State.reset.bus.queue = [] ∧ State.reset.bus.slot = none ∧
  (∀ i : StationNo, State.reset.board.stations[i] = { heard := false, able := false, age := 0 }) ∧
  State.reset.board.entries = [] ∧ State.reset.board.crowded = false ∧
  State.reset.tracker.eal = [] ∧ State.reset.tracker.crowded = false ∧
  State.reset.tracker.lock = .seeking ∧ State.reset.tracker.run = 0 ∧
  State.reset.tracker.attempts = 0 ∧ State.reset.tracker.misses = 0 ∧
  State.reset.tracker.windowCount = 0 ∧ State.reset.tracker.speed = 0 ∧
  State.reset.tracker.loopStopped = true ∧ State.reset.tracker.maxDev = 0 ∧
  State.reset.divert.records = [] ∧ State.reset.lane.queue = [] ∧
  State.reset.lane.face = .empty ∧ State.reset.lane.faceRec = none ∧
  State.reset.lane.parkRec = none ∧ State.reset.lane.jam = none ∧
  State.reset.lane.drives = { advance := false, transfer := .off, exit := false } ∧
  State.reset.picker.active = none ∧ State.reset.picker.toteLight = false ∧
  State.reset.picker.display = none ∧ State.reset.picker.putLight = none ∧
  (∀ k : PutIdx, State.reset.picker.settles[k] = none ∧
    State.reset.picker.beams[k].stuck = false) ∧
  State.reset.modeCtl = { mode := .unconfigured, sweepReturn := .active, able := false } ∧
  State.reset.link.reply = [] ∧ State.reset.notices.floor = 0 ∧
  State.reset.notices.attn = false ∧
  (State.reset.notices.sources.toList.map fun n =>
      (n.pending, n.count, n.detail, n.enable, n.level)) =
    ([7, 7, 6, 5, 5, 5, 5, 4, 4, 3, 3, 3, 2, 2, 2, 2, 1, 1, 1].map fun level =>
      (false, 0, 0, true, level))

/-- R13 and R14: what the record of an accepted CONFIGURE holds for each field sent, and when a field counts
as clamped. -/
def Obligations.ConfigurationHeld : Prop :=
  ∀ f : ConfigFields, StructuralValid f →
    let r := recordOf f
    let win := if f.wWin = 0 then 40 else max 1 (min 255 f.wWin.toNat)
    r.station.val = f.station.toNat ∧ r.loopLen = f.loopLen.toNat ∧ r.pR = f.pR.toNat ∧
    r.pM = f.pM.toNat ∧ r.wWin = min win (f.loopLen.toNat / 8) ∧ 1 ≤ r.wWin ∧ r.wWin ≤ 255 ∧
    (∀ e ∈ tuningTable f r, e.low ≤ e.held ∧ e.held ≤ e.high ∧
      e.held =
        if e.sent = 0 then e.dflt
        else if e.zero = true ∧ e.sent = 65535#16 then 0
        else max e.low (min e.high e.sent.toNat)) ∧
    (isClamped f = false ↔
      (f.wWin = 0 ∨ f.wWin.toNat = win) ∧ win ≤ f.loopLen.toNat / 8 ∧
      ∀ e ∈ tuningTable f r,
        e.sent = 0 ∨ (e.zero = true ∧ e.sent = 65535#16) ∨ e.sent.toNat = e.held) ∧
    r.chilledMargin = min r.alert (r.chilledBudget - 1) ∧
    r.frozenMargin = min r.alert (r.frozenBudget - 1) ∧ r.refreshPeriod = r.stale / 2 ∧
    r.productTop = 2 ^ (r.w - 1) - 1 ∧ r.serviceBottom = 2 ^ 32 - 2 ^ (r.w - 1)

/-- CONFIGURE is answered WRONG_MODE in a configured mode and BAD_VALUE where a structural field fails R12's
check, and changes nothing then. An accepted CONFIGURE stores the record, turns the receiver and the
transmitter on and enters SWEEPING; the line is not idle before it has been quiet for 12 bits (R51); where
every lane sensor is clear the mode goes on to ACTIVE, and the bench is able, and otherwise the sweep fills
the face with what the sensors find (R12, R63, R64, R77, R128, R148, R152). The premises are what
UNCONFIGURED leaves (R64, R109, R127). -/
def Obligations.Configure : Prop :=
  (∀ (f : ConfigFields) (s : State), s.mode ≠ .unconfigured →
    exec (.configure f) s = .next (s.answered [1, 3, 252])) ∧
  (∀ (f : ConfigFields) (s : State), s.mode = .unconfigured → ¬ StructuralValid f →
    exec (.configure f) s = .next (s.answered [1, 12, 243])) ∧
  ∀ (f : ConfigFields) (s : State), s.mode = .unconfigured → StructuralValid f →
    s.bus.queue = [] → s.bus.slot = none → s.lane.jam = none → s.laneEmpty = true →
    s.notices.sources[NoticeSource.modeChanged.index].pending = false →
    ∃ t, exec (.configure f) s = .next t ∧ SameExcept (commandBlocks (.configure f)) s t ∧
      t.cfg = some (recordOf f) ∧ t.bus.ownStation = some (recordOf f).station ∧
      t.bus.rxOn = true ∧ t.bus.tx = .on ∧ t.bus.slot = none ∧
      t.bus.line = .gap ∧
      t.board = { s.board with refreshCount := 0 } ∧
      t.modeCtl.sweepReturn = .active ∧
      t.link.reply = (if isClamped f = true then [1, 1, 254] else [1, 0, 255]) ∧
      (∀ k : PutIdx, t.picker.beams[k] = { s.picker.beams[k] with blockedMs := 0 }) ∧
      (AllClear s →
        t.mode = .active ∧ t.modeCtl.able = true ∧
        t.bus.queue = [{ sender := (recordOf f).station, tote := 0, body := .state 1 }] ∧
        t.notices.sources[NoticeSource.modeChanged.index] =
          { s.notices.sources[NoticeSource.modeChanged.index] with
            pending := true, count := 2, detail := 1 }) ∧
      (¬ AllClear s →
        (s.lane.preempted = false → SweepFilled s t) ∧
        t.mode = .sweeping ∧ t.modeCtl.able = false ∧
        t.bus.queue = [{ sender := (recordOf f).station, tote := 0, body := .state 0 }] ∧
        t.notices.sources[NoticeSource.modeChanged.index] =
          { s.notices.sources[NoticeSource.modeChanged.index] with
            pending := true, count := 1, detail := 1 })

/-- RESTART in a configured mode keeps the configuration, the own station number and the count and clears
the working state; MODE_CHANGED is the one notice pending and STATE the one frame queued after it, and the
mode is SWEEPING, its face filled with what the sensors find (R128), or ACTIVE where the lane is already
clear (R154, R152, R64, R148). That a RESTART taken in SWEEPING raises MODE_CHANGED like any other is the
model's reading, log 12. An attempt in progress goes on, its frame in the slot marked to be emptied at its
end (R64, log 21). In UNCONFIGURED it sets the clock to 0 and clears the notices' flags, counts and details
(R155). -/
def Obligations.Restart : Prop :=
  (∀ s : State, s.mode = .unconfigured →
    ∃ t, exec .restart s = .next t ∧ SameExcept [.clock, .notices, .link] s t ∧ t.clock = 0 ∧
      t.link = { s.link with reply := [3, 0, 253] } ∧ t.notices.attn = false ∧
      t.notices.floor = s.notices.floor ∧
      ∀ j : Fin 19, t.notices.sources[j] =
        { s.notices.sources[j] with pending := false, count := 0, detail := 0 }) ∧
  ∀ s : State, s.mode ≠ .unconfigured → 0 < s.conf.c →
    ∃ t, exec .restart s = .next t ∧ SameExcept (commandBlocks .restart) s t ∧ t.clock = 0 ∧
      t.demand.lines = [] ∧ t.demand.wants = [] ∧ (∀ k : PutIdx, t.puts[k] = none) ∧
      (∀ i : StationNo, t.board.stations[i] = { heard := false, able := false, age := 0 }) ∧
      t.board.entries = [] ∧ t.board.crowded = false ∧ t.board.refreshCount = 0 ∧
      t.tracker.eal = [] ∧ t.tracker.crowded = false ∧ t.tracker.lock = .seeking ∧
      t.tracker.run = 0 ∧ t.tracker.attempts = 0 ∧ t.tracker.misses = 0 ∧ t.tracker.speed = 0 ∧
      t.tracker.windowCount = 0 ∧ t.tracker.loopStopped = true ∧ t.tracker.maxDev = 0 ∧
      t.divert.records = [] ∧ t.lane.queue = [] ∧ t.lane.parkRec = none ∧ t.lane.jam = none ∧
      t.picker.active = none ∧ t.picker.toteLight = false ∧ t.picker.display = none ∧
      t.picker.putLight = none ∧
      (∀ k : PutIdx, t.picker.settles[k] = none ∧ t.picker.beams[k] =
        { blocked := s.picker.beams[k].blocked, stuck := false, blockedMs := 0, clearMs := 0 }) ∧
      t.bus.ownStation = s.bus.ownStation ∧ t.bus.rxOn = s.bus.rxOn ∧ t.bus.tx = .on ∧
      t.bus.line = s.bus.line ∧ t.bus.attempting = s.bus.attempting ∧
      t.bus.meant = s.bus.meant ∧
      (s.bus.attempting = false → t.bus.slot = none ∧ t.bus.slotDoomed = false) ∧
      (s.bus.attempting = true → t.bus.slot = s.bus.slot ∧ t.bus.slotDoomed = true) ∧
      t.modeCtl.sweepReturn = .active ∧ t.link = { s.link with reply := [3, 0, 253] } ∧
      t.notices.floor = s.notices.floor ∧
      (∀ j : Fin 19, j ≠ NoticeSource.modeChanged.index →
        t.notices.sources[j] =
          { s.notices.sources[j] with pending := false, count := 0, detail := 0 }) ∧
      t.notices.sources[NoticeSource.modeChanged.index] =
        { s.notices.sources[NoticeSource.modeChanged.index] with
          pending := true, count := (if t.mode = .active then 2 else 1), detail := 1 } ∧
      t.bus.queue =
        [{ sender := s.bus.ownStation.getD 0, tote := 0,
           body := .state (if t.mode = .active then 1 else 0) }] ∧
      (AllClear s → t.mode = .active ∧ t.lane.face = .empty ∧ t.lane.faceRec = none) ∧
      (¬ AllClear s → t.mode = .sweeping ∧
        SweepFilled
          { s with lane := { State.reset.lane with sensors := s.lane.sensors, gap := s.lane.gap } } t)

/-- SET_TIME sets the clock and moves the stored starts of intervals with it, so that every interval is as
long as before; deadlines stand (R10; UNKNOWN references move too, log 22). Every want record is checked at
the new clock, and a weight that differs by 128 or more from the one announced last is announced (R40, R42).
Every lane record's urgent flag follows R47 at the new clock (R48). -/
def Obligations.SetTimeKeepsIntervals : Prop :=
  ∀ (T : Clock) (s : State), s.mode ≠ .unconfigured →
    (∀ x : Clock, elapsed T (x + (T - s.clock)) = elapsed s.clock x) ∧
    ∃ t, exec (.setTime T) s = .next t ∧ SameExcept (commandBlocks (.setTime T)) s t ∧
      t.clock = T ∧ t.link = { s.link with reply := [2, 0, 254] } ∧
      t.tracker =
        { s.tracker with
          eal := s.tracker.eal.map fun e => { e with cold := e.cold.shift (T - s.clock) } } ∧
      (t.divert.records.map fun d => (d.tote, d.readCount, d.takeTime, d.entry)) =
        (s.divert.records.map fun d =>
          (d.tote, d.readCount, d.takeTime + (T - s.clock),
            d.entry.map fun p => { p with cold := p.cold.shift (T - s.clock) })) ∧
      (t.lane.queue.map fun q => (q.tote, q.cold)) =
        (s.lane.queue.map fun q => (q.tote, q.cold.shift (T - s.clock))) ∧
      ((t.lane.faceRec.toList ++ t.lane.parkRec.toList).map fun q => (q.tote, q.cold)) =
        ((s.lane.faceRec.toList ++ s.lane.parkRec.toList).map fun q =>
          (q.tote, q.cold.shift (T - s.clock))) ∧
      lineFacts t.demand.lines = lineFacts s.demand.lines ∧
      t.demand.wants.map WantRec.tote = s.demand.wants.map WantRec.tote ∧
      (∀ w ∈ t.demand.wants, w.time = T ∨
        ∃ v ∈ s.demand.wants, w = { v with time := v.time + (T - s.clock) }) ∧
      (WantsLaw s → ∀ w ∈ s.demand.wants,
        Checked { w with time := w.time + (T - s.clock) } s t) ∧
      ∀ q ∈ laneRecords s, ∃ p ∈ laneRecords t, p.tote = q.tote ∧
        p.cold = q.cold.shift (T - s.clock) ∧
        (p.urgent = true ↔
          UrgentIn { s with clock := T } { q with cold := q.cold.shift (T - s.clock) })

/-- A one-second tick moves the clock in every mode and ends the speed window (R9, R93); in a configured
mode it ages the heard stations (R67) and the interest entries (R74) and the own refresh count (R77), and
the merge wait count of a RELEASING tote, which pauses while the loop is stopped and raises MERGE_STALL once
at MERGE_WAIT (R118). A lane record that reaches ALERT or BREACHED at the new clock has its mark set and its
notice raised, in the order of log 9; a breach holds the tote's open lines, removes its want record with
DROP and releases it from the face (R28, R121, R122). Every urgent flag then follows R47 (R48), and a queue
head that becomes urgent parks a presented tote that is not urgent and has taken no put (R115, R116; by the
flags as they stand after the tick, log 31). Every want record left is checked, and announced after a change
of 128 or more or after the refresh period (R40 to R42; the order of the jobs is log 8). -/
def Obligations.TickCountsTheSecond : Prop :=
  ∀ s : State,
    ∃ t, exec .oneSecondTick s = .next t ∧ SameExcept (commandBlocks .oneSecondTick) s t ∧
      t.clock = s.clock + 1 ∧
      t.tracker =
        { s.tracker with
          speed := s.tracker.windowCount
          loopStopped := s.tracker.windowCount == 0
          windowCount := 0 } ∧
      (s.mode = .unconfigured → SameExcept [.clock, .tracker] s t) ∧
      (s.mode ≠ .unconfigured →
        (∀ i : StationNo,
          t.board.stations[i] =
            if s.board.stations[i].heard = false then s.board.stations[i]
            else if s.conf.stale ≤ s.board.stations[i].age + 1 then
              { heard := false, able := false, age := s.conf.stale }
            else { s.board.stations[i] with age := s.board.stations[i].age + 1 }) ∧
        t.board.entries =
          (s.board.entries.map fun e => { e with age := e.age + 1 }).filter
            (fun e => decide (e.age < s.conf.stale)) ∧
        t.board.crowded = s.board.crowded ∧
        t.board.refreshCount =
          (if s.conf.refreshPeriod ≤ s.board.refreshCount + 1 then 0
            else s.board.refreshCount + 1) ∧
        lineFacts t.demand.lines = lineFacts s.demand.lines ∧
        ∀ q, s.lane.face = .releasing → s.lane.faceRec = some q →
          ∃ p, t.lane.faceRec = some p ∧ p.tote = q.tote ∧
            p.mergeWait = (if s.tracker.windowCount = 0 then q.mergeWait
              else min s.conf.mergeWait (q.mergeWait + 1)) ∧
            p.stallMark = (q.stallMark || decide (s.conf.mergeWait ≤ p.mergeWait)) ∧
            (p.stallMark = true → q.stallMark = false →
              t.notices.sources[NoticeSource.mergeStall.index].pending = true)) ∧
      (s.mode ≠ .unconfigured → OwnLaneLaw s → LinesLaw s → WantsLaw s →
        let rem (q : LaneRec) := coldRemaining s.conf q.cls q.cold (s.clock + 1)
        let watched (q : LaneRec) : Prop := q.tote ≠ 0 ∧ q.cls ≠ .ambient
        let alerts (q : LaneRec) : Bool := decide (watched q ∧ 0 < rem q ∧
          rem q ≤ (alertMargin s.conf q.cls : Int) ∧ q.alertMark = false ∧ q.cold.isKnown = true)
        let breaches (q : LaneRec) : Bool := decide (watched q ∧ rem q ≤ 0 ∧ q.breachMark = false)
        let urgent (q : LaneRec) : Prop := UrgentIn { s with clock := s.clock + 1 } q
        (∀ q ∈ laneRecords s, ∃ p ∈ laneRecords t, p.tote = q.tote ∧ p.cls = q.cls ∧
          p.cold = q.cold ∧ p.laps = q.laps ∧ p.alertMark = (q.alertMark || alerts q) ∧
          p.breachMark = (q.breachMark || breaches q) ∧ (p.urgent = true ↔ urgent q)) ∧
        RaisedFor .coldAlert (((laneRecords s).filter alerts).map LaneRec.tote) s t ∧
        RaisedFor .coldBreach (((laneRecords s).filter breaches).map LaneRec.tote) s t ∧
        (∀ q ∈ laneRecords s, breaches q = true →
          (∀ l ∈ s.demand.lines, l.tote = q.tote →
            (l.state = .waiting ∨ l.state = .active ∨ l.state = .suspended) →
            { l with state := .held } ∈ t.demand.lines) ∧
          (∀ w ∈ s.demand.wants, w.tote = q.tote → s.bus.tx = .on → HasRoom s →
            { sender := s.bus.ownStation.getD 0, tote := q.tote, body := .drop } ∈
              t.bus.queue) ∧
          (∀ w ∈ t.demand.wants, w.tote ≠ q.tote) ∧
          (PresentLaw s → s.lane.face = .presenting → (∃ p ∈ s.lane.faceRec, p.tote = q.tote) →
            (t.lane.face = .releasing ∨ t.lane.face = .leaving) ∧ t.picker.active = none ∧
            t.picker.toteLight = false ∧ t.picker.display = none ∧ t.picker.putLight = none)) ∧
        (∀ q h rest l, PresentLaw s → s.mode = .active → s.lane.jam = none →
          s.lane.face = .presenting → s.lane.faceRec = some q → s.lane.parkRec = none →
          s.lane.queue = h :: rest → h.urgent = false → urgent h → ¬ urgent q →
          l ∈ s.demand.lines → l.state = .active →
          (l.puts = 0 →
            t.lane.face = .parking ∧ t.lane.faceRec = none ∧
            t.lane.parkRec.map LaneRec.tote = some q.tote ∧ t.lane.waits.park = some 0 ∧
            { l with state := .suspended } ∈ t.demand.lines ∧ t.picker.active = none) ∧
          (l.puts ≠ 0 →
            t.lane.face = .presenting ∧ l ∈ t.demand.lines ∧ t.picker = s.picker)) ∧
        (∀ w ∈ t.demand.wants, ∃ v ∈ s.demand.wants, v.tote = w.tote) ∧
        ∀ w ∈ s.demand.wants, (∀ q ∈ laneRecords s, q.tote = w.tote → breaches q = false) →
          Checked w s t)

/-- An encoder pulse moves the count in every mode and adds to the window (R2, R93). In a configured mode an
expected arrival that becomes overdue at the new count is removed and is one failure for the lock, with
TRACK_LOST or TRACK_FAULT at its limit, and with none overdue the lock stands (R83, R90, R91; the order at
the new count is log 27). The divert records that the loop has carried past their reach are removed, oldest
first, and each raises DIVERT_FAIL, has RELEASE requested and is expected one lap after its read (R84, R106;
the stamp of its entry is log 19). Able follows the queue records, and in DRAINING a lane that is then empty
goes to REST (R147, R151). -/
def Obligations.PulseMovesTheCount : Prop :=
  ∀ s : State,
    ∃ t, exec .encoderPulse s = .next t ∧ SameExcept (commandBlocks .encoderPulse) s t ∧
      t.count = s.count + 1 ∧ t.tracker.windowCount = min 65535 (s.tracker.windowCount + 1) ∧
      t.tracker.speed = s.tracker.speed ∧ t.tracker.loopStopped = s.tracker.loopStopped ∧
      t.tracker.maxDev = s.tracker.maxDev ∧
      (s.mode = .unconfigured → SameExcept [.count, .tracker] s t) ∧
      (s.mode ≠ .unconfigured →
        t.divert.records =
          s.divert.records.dropWhile fun d =>
            decide (signed16 (s.count + 1 - d.readCount) ≥ (s.conf.divertReach : Int))) ∧
      (s.mode ≠ .unconfigured →
        (∀ e ∈ s.tracker.eal,
          (s.conf.wWin : Int) < signed16 (s.count + 1 - e.expected) →
          (s.tracker.eal.map EalEntry.tote).Nodup →
          (∀ f ∈ s.tracker.eal, f ≠ e →
            -(s.conf.wWin : Int) ≤ signed16 (f.expected - (s.count + 1))) →
          LockFailed e.tote s t ∧
          ((∀ d ∈ s.divert.records.head?,
              signed16 (s.count + 1 - d.readCount) < (s.conf.divertReach : Int)) →
            ∀ i, i ∈ t.tracker.eal ↔ i ∈ s.tracker.eal ∧ i ≠ e)) ∧
        ((∀ f ∈ s.tracker.eal,
            -(s.conf.wWin : Int) ≤ signed16 (f.expected - (s.count + 1))) →
          t.tracker.lock = s.tracker.lock ∧ t.tracker.run = s.tracker.run ∧
          t.tracker.attempts = s.tracker.attempts ∧ t.tracker.misses = s.tracker.misses ∧
          SourceKept .trackLost s t ∧ SourceKept .trackFault s t ∧
          ∀ i ∈ s.tracker.eal, s.tracker.eal.length + s.divert.records.length ≤ 32 →
            OwnLaneLaw s → i ∈ t.tracker.eal)) ∧
      (s.mode ≠ .unconfigured → OwnLaneLaw s →
        let timedOut := s.divert.records.takeWhile fun d =>
          decide (signed16 (s.count + 1 - d.readCount) ≥ (s.conf.divertReach : Int))
        RaisedFor .divertFail (timedOut.map DivertRec.tote) s t ∧
        (∀ d ∈ timedOut,
          (s.bus.tx = .on → s.bus.queue.length + s.divert.records.length < 16 →
            TimeoutReleased d s t) ∧
          (s.tracker.eal.length + s.divert.records.length ≤ 32 →
            signed16 (s.count + 1 - (d.readCount + BitVec.ofNat 16 s.conf.loopLen)) ≤
              (s.conf.wWin : Int) →
            timeoutEntry s d ∈ t.tracker.eal)) ∧
        (timedOut ≠ [] → OutputsLaw s → AbleLaw s →
          t.modeCtl.able = decide (t.mode = .active ∧ s.lane.jam = none ∧
            t.divert.records.length + s.lane.queue.length < s.conf.c) ∧
          (s.mode ≠ .draining ∨ t.divert.records ≠ [] ∨ s.lane.queue ≠ [] ∨
              s.lane.parkRec ≠ none ∨ s.lane.face ≠ .empty →
            t.mode = s.mode ∧ SourceKept .modeChanged s t) ∧
          (s.mode = .draining → t.divert.records = [] → s.lane.queue = [] →
            s.lane.parkRec = none → s.lane.face = .empty →
            t.mode = .rest ∧ SourceRaised .modeChanged 4 s t)))

/-! ### Notices -/

/-- SET_NOTICE and SET_FLOOR (R166) and CLEAR_NOTICE (R165), with ATTN as R163 gives it. -/
def Obligations.NoticeSettingsAndClear : Prop :=
  ∀ s : State, s.mode ≠ .unconfigured →
    (∀ (i : Fin 19) (enable level : Byte), enable.toNat ≤ 1 → level.toNat ≤ 7 →
      ∃ t, exec (.setNotice (BitVec.ofNat 8 (i.val + 1)) enable level) s = .next t ∧
        SameExcept [.notices, .link] s t ∧ t.link = { s.link with reply := [13, 0, 243] } ∧
        t.notices.sources[i] =
          { s.notices.sources[i] with enable := decide (enable = 1), level := level.toNat } ∧
        (∀ j : Fin 19, j ≠ i → t.notices.sources[j] = s.notices.sources[j]) ∧
        t.notices.floor = s.notices.floor ∧
        (t.notices.attn = true ↔ ∃ j : Fin 19, t.notices.sources[j].pending = true ∧
          t.notices.sources[j].enable = true ∧
          t.notices.floor < t.notices.sources[j].level)) ∧
    (∀ source enable level : Byte,
      source.toNat = 0 ∨ 19 < source.toNat ∨ 1 < enable.toNat ∨ 7 < level.toNat →
      exec (.setNotice source enable level) s =
        .next (s.answered [13, 12, 231])) ∧
    (∀ floor : Byte, floor.toNat ≤ 7 →
      ∃ t, exec (.setFloor floor) s = .next t ∧ SameExcept [.notices, .link] s t ∧
        t.link = { s.link with reply := [14, 0, 242] } ∧
        t.notices.sources = s.notices.sources ∧ t.notices.floor = floor.toNat ∧
        (t.notices.attn = true ↔ ∃ j : Fin 19, t.notices.sources[j].pending = true ∧
          t.notices.sources[j].enable = true ∧
          floor.toNat < t.notices.sources[j].level)) ∧
    (∀ floor : Byte, 7 < floor.toNat →
      exec (.setFloor floor) s =
        .next (s.answered [14, 12, 230])) ∧
    (∀ i : Fin 19,
      ∃ t, exec (.clearNotice (BitVec.ofNat 8 (i.val + 1))) s = .next t ∧
        SameExcept [.notices, .link] s t ∧ t.link = { s.link with reply := [16, 0, 240] } ∧
        t.notices.sources[i] =
          { s.notices.sources[i] with pending := false, count := 0, detail := 0 } ∧
        (∀ j : Fin 19, j ≠ i → t.notices.sources[j] = s.notices.sources[j]) ∧
        t.notices.floor = s.notices.floor ∧
        (t.notices.attn = true ↔ ∃ j : Fin 19, t.notices.sources[j].pending = true ∧
          t.notices.sources[j].enable = true ∧
          t.notices.floor < t.notices.sources[j].level)) ∧
    (∀ source : Byte, source.toNat = 0 ∨ 19 < source.toNat →
      exec (.clearNotice source) s =
        .next (s.answered [16, 12, 228]))

/-- READ_NOTICE answers the eligible source of the highest level, the lowest number on a tie, whatever the
floor, and zeros where none is eligible; it changes nothing else (R164). -/
def Obligations.ReadNoticeChoosesTheHighest : Prop :=
  ∀ s : State, s.mode ≠ .unconfigured →
    (∀ i : Fin 19,
      s.notices.sources[i].pending = true → s.notices.sources[i].enable = true →
      (∀ j : Fin 19, s.notices.sources[j].pending = true → s.notices.sources[j].enable = true →
        s.notices.sources[j].level < s.notices.sources[i].level ∨
          s.notices.sources[j].level = s.notices.sources[i].level ∧ i ≤ j) →
      exec .readNotice s =
        .next (s.answered (withCheckByte
          (([(15 : Byte), 0, BitVec.ofNat 8 (i.val + 1), BitVec.ofNat 8 s.notices.sources[i].level,
            BitVec.ofNat 8 s.notices.sources[i].count] : List Byte) ++
              bytes32 s.notices.sources[i].detail)))) ∧
    ((∀ j : Fin 19, s.notices.sources[j].pending = false ∨ s.notices.sources[j].enable = false) →
      exec .readNotice s =
        .next (s.answered [15, 0, 0, 0, 0, 0, 0, 0, 0, 241]))

/-! ### Reads -/

/-- READ_LANE changes nothing but the reply: 124 bytes with the face state, a slot of fifteen bytes for each
record, in the order divert, queue, face, park, and unused slots after them (R160). A face record's stage
stays that of its source until it arrives (log 11), and the fourteen bytes after the stage of an unused slot
are zeros by the model's choice (log 29). -/
def Obligations.ReadLaneSlots : Prop :=
  ∀ s : State, s.mode ≠ .unconfigured → (ownTotes s).length ≤ 8 →
    ∃ slots : List (List Byte), slots.length = 8 ∧
      exec .readLane s =
        .next (s.answered (withCheckByte
          (([19, 0,
            (match s.lane.face with
              | .empty => 0 | .arriving => 1 | .presenting => 2 | .parking => 3
              | .releasing => 4 | .leaving => 5)] : List Byte) ++ slots.flatten))) ∧
      (∀ slot ∈ slots, slot.length = 15) ∧
      (∀ (i : Nat) (d : DivertRec), s.divert.records[i]? = some d →
        ∃ c bs, ClassOfDivert s d c ∧
          ColdBytes s d.tote c ((d.entry.map EntryPart.cold).getD (.unknown d.takeTime)) bs ∧
          slots[i]? = some (([1] : List Byte) ++ bytes32 d.tote ++
            ([classCode c, BitVec.ofNat 8 ((d.entry.map EntryPart.laps).getD 0), 0] : List Byte) ++
            bs ++ [0, 0])) ∧
      (∀ (i : Nat) (q : LaneRec),
        (s.lane.queue ++ s.lane.faceRec.toList ++ s.lane.parkRec.toList)[i]? = some q →
        ∃ bs, ColdBytes s q.tote q.cls q.cold bs ∧
          slots[s.divert.records.length + i]? =
            some (([match q.stage with | .queued => 2 | .face => 3 | .park => 4] : List Byte) ++
              bytes32 q.tote ++
              ([classCode q.cls, BitVec.ofNat 8 q.laps,
                BitVec.ofNat 8 ((if q.urgent = true then 1 else 0) +
                  (if q.alertMark = true then 2 else 0) + (if q.breachMark = true then 4 else 0) +
                  (if q.refusalMark = true then 8 else 0))] : List Byte) ++ bs ++
              (if s.lane.queue.length + s.lane.faceRec.toList.length ≤ i then
                bytes16 (q.savedTag.getD 0) else [0, 0]))) ∧
      (∀ i, (ownTotes s).length ≤ i → i < 8 → slots[i]? = some (List.replicate 15 0))

/-- READ_STATUS in every mode: its thirteen bytes, and both crowded flags cleared (R158). READ_LINE, all of
R159. READ_TRACK answers the tracker's figures and clears the maximum deviation; READ_CONFIG answers the 21
fields of the record and changes nothing (R94, R161). -/
def Obligations.ReadStatusLineTrackAndConfig : Prop :=
  (∀ s : State,
    ∃ t, exec .readStatus s = .next t ∧ SameExcept [.board, .tracker, .link] s t ∧
      t.board = { s.board with crowded := false } ∧
      t.tracker = { s.tracker with crowded := false } ∧
      t.link = { s.link with reply := (withCheckByte
        (([17, 0,
          (match s.mode with
            | .unconfigured => 0 | .sweeping => 1 | .active => 2 | .draining => 3 | .rest => 4),
          (match s.lane.face with
            | .empty => 0 | .arriving => 1 | .presenting => 2 | .parking => 3
            | .releasing => 4 | .leaving => 5),
          BitVec.ofNat 8 (s.divert.records.length + s.lane.queue.length),
          (if s.lane.parkRec.isSome = true then 1 else 0),
          (if s.modeCtl.able = true then 1 else 0),
          (match s.tracker.lock with
            | .seeking => 0 | .confirming => 1 | .locked => 2 | .faulted => 3),
          (if s.tracker.loopStopped = true then 1 else 0),
          (match s.lane.jam with
            | none => 0 | some .entry => 1 | some .head => 2 | some .face => 3
            | some .park => 4 | some .exit => 5),
          (match s.board.crowded, s.tracker.crowded with
            | false, false => 0 | true, false => 1 | false, true => 2 | true, true => 3)] : List Byte) ++
          bytes32 s.clock)) }) ∧
  (∀ (s : State) (tag : Tag), s.mode ≠ .unconfigured →
    ((∀ l ∈ s.demand.lines, l.tag ≠ tag) →
      exec (.readLine tag) s =
        .next (s.answered [18, 7, 231])) ∧
    (∀ l, s.demand.lines.find? (fun l => l.tag == tag) = some l →
      exec (.readLine tag) s =
        .next (s.answered (withCheckByte
          (([18, 0] : List Byte) ++ bytes16 l.tag ++ bytes32 l.tote ++ bytes16 l.handle ++
            ([(match l.cls with | .ambient => 0 | .chilled => 1 | .frozen => 2),
              BitVec.ofNat 8 l.qty, BitVec.ofNat 8 l.puts,
              (match l.prio with | .normal => 0 | .express => 1),
              (match l.state with
                | .waiting => 1 | .active => 2 | .suspended => 3 | .done => 4 | .short => 5
                | .cancelled => 6 | .held => 7),
              (if (∃ k : PutIdx, ∃ o, s.puts[k] = some o ∧ o.handle = l.handle) then 1 else 0)] : List Byte)))))) ∧
  ∀ s : State, s.mode ≠ .unconfigured →
    (∃ t, exec .readTrack s = .next t ∧ SameExcept [.tracker, .link] s t ∧
      t.tracker = { s.tracker with maxDev := 0 } ∧
      t.link = { s.link with reply := (withCheckByte
        (([20, 0,
          (match s.tracker.lock with
            | .seeking => 0 | .confirming => 1 | .locked => 2 | .faulted => 3),
          BitVec.ofNat 8 s.tracker.run, BitVec.ofNat 8 s.tracker.attempts,
          BitVec.ofNat 8 s.tracker.misses] : List Byte) ++
          bytes16 (BitVec.ofNat 16 s.tracker.speed) ++
          bytes16 (BitVec.ofNat 16 s.tracker.maxDev) ++
          [BitVec.ofNat 8 s.tracker.eal.length])) }) ∧
    (∀ r : Record, s.cfg = some r →
      ∃ words : List (BitVec 16), words.length = 21 ∧
        words.map BitVec.toNat =
          ([r.station.val, r.loopLen, r.pR, r.pM, r.c, r.wWin, r.divertReach, r.w, r.lapLimit,
            r.chilledBudget, r.frozenBudget, r.alert, r.stale, r.g, r.urgentSlack, r.lockRun,
            r.attemptLimit, r.missLimit, r.moveTime, r.mergeWait, r.settle].map (· % 65536)) ∧
        exec .readConfig s =
          .next (s.answered (withCheckByte ([21, 0] ++ words.flatMap bytes16))))

/-! ### Lines and orders -/

/-- The claim weight of a tote with n workable lines, the least time to a deadline among whose orders is S,
is (4095 − S, S held to 0..4095) + 64 × min(n, 8) + 1024 where a line is EXPRESS, and lies in 64..5631; with
no workable line there is none (R36 to R38). -/
def Obligations.ClaimWeight : Prop :=
  ∀ (s : State) (T : ToteNo) (ls : List Line),
    ls = s.demand.lines.filter (fun l =>
      decide (l.tote = T ∧ l.state = .waiting ∧
        ∃ k : PutIdx, (s.puts[k]).any (fun o => decide (o.handle = l.handle)) = true)) →
    (ls = [] → s.weightOf T = none) ∧
    (ls ≠ [] → ∃ W, s.weightOf T = some W ∧ 64 ≤ W ∧ W ≤ 5631) ∧
    (∀ S : Int,
      (∃ l ∈ ls, ∃ d, deadlineOf s.puts l.handle = some d ∧ timeTo d s.clock = S) →
      (∀ l ∈ ls, ∀ d, deadlineOf s.puts l.handle = some d → S ≤ timeTo d s.clock) →
      s.weightOf T = some
        (4095 - (max 0 (min 4095 S)).toNat + 64 * min ls.length 8 +
          (if ∃ l ∈ ls, l.prio = .express then 1024 else 0)))

/-- LOAD_LINE's refusals in R18's order, which change nothing. An accepted LOAD_LINE puts a WAITING line
with put count 0 after the others (R18), raises PUT_MISS for the first line of an unplaced handle and
nothing else for an unplaced one (R20), clears the ready flag of a placed order (R34), and creates the want
record of a tote that had no workable line, with WANT requested at its weight (R29, R40). The want record of
a tote that had one is checked, and announced after a change of 128 or more (R40, R42). -/
def Obligations.LoadLine : Prop :=
  (∀ (tag : Tag) (tote : ToteNo) (handle : Handle) (cls qty prio : Byte) (s : State),
    s.mode ≠ .unconfigured →
    let bad := tag = 0 ∨ isProduct s.conf tote = false ∨ handle = 0 ∨ 2 < cls.toNat ∨
      qty.toNat = 0 ∨ 99 < qty.toNat ∨ 1 < prio.toNat
    (bad → exec (.loadLine tag tote handle cls qty prio) s =
      .next (s.answered [4, 12, 240])) ∧
    (¬ bad → (∃ l ∈ s.demand.lines, l.tag = tag) →
      exec (.loadLine tag tote handle cls qty prio) s =
        .next (s.answered [4, 6, 246])) ∧
    (¬ bad → (∀ l ∈ s.demand.lines, l.tag ≠ tag) → 128 ≤ s.demand.lines.length →
      exec (.loadLine tag tote handle cls qty prio) s =
        .next (s.answered [4, 5, 247]))) ∧
  ∀ (tag : Tag) (tote : ToteNo) (handle : Handle) (cls : TempClass) (qty : Nat) (prio : Priority)
    (s : State),
    s.mode ≠ .unconfigured → tag ≠ 0 → isProduct s.conf tote = true → handle ≠ 0 →
    1 ≤ qty → qty ≤ 99 → (∀ l ∈ s.demand.lines, l.tag ≠ tag) → s.demand.lines.length < 128 →
    ∃ t, exec (.loadLine tag tote handle (classCode cls) (BitVec.ofNat 8 qty)
          (priorityCode prio)) s = .next t ∧
      SameExcept (commandBlocks (.loadLine tag tote handle 0 0 0)) s t ∧
      t.link = { s.link with reply := [4, 0, 252] } ∧
      lineFacts t.demand.lines = lineFacts s.demand.lines ++
        [{ tag := tag, tote := tote, handle := handle, cls := cls, qty := qty, puts := 0,
           prio := prio, state := .waiting }] ∧
      (s.inOwnLane tote = false →
        t.demand.lines = s.demand.lines ++
          [{ tag := tag, tote := tote, handle := handle, cls := cls, qty := qty, puts := 0,
             prio := prio, state := .waiting }] ∧
        t.lane.queue = s.lane.queue ∧ t.lane.faceRec = s.lane.faceRec ∧
        t.lane.parkRec = s.lane.parkRec ∧ t.picker = s.picker) ∧
      (isPlaced s.puts handle = false → s.inOwnLane tote = false → OutputsLaw s → AbleLaw s →
        WantsLaw s → hasWorkable s.demand.lines s.puts tote = false →
        t.puts = s.puts ∧ t.demand.wants = s.demand.wants ∧ t.bus = s.bus ∧ t.lane = s.lane ∧
        ((∀ l ∈ s.demand.lines, l.handle ≠ handle) →
          RaisedOnce .putMiss (handle.setWidth 32) s t) ∧
        ((∃ l ∈ s.demand.lines, l.handle = handle) → t.notices = s.notices)) ∧
      (∀ k o, positionOf s.puts handle = some k → s.puts[k] = some o →
        t.puts = s.puts.set k (some { o with ready := false })) ∧
      (∀ W, WantsLaw s → isPlaced s.puts handle = true →
        hasWorkable s.demand.lines s.puts tote = false → s.inOwnLane tote = false →
        t.weightOf tote = some W →
        t.demand.wants =
          s.demand.wants ++ [{ tote := tote, weight := W, time := s.clock }] ∧
        (s.bus.tx = .on → s.bus.queue.length < 15 →
          { sender := s.bus.ownStation.getD 0, tote := tote, body := .want (BitVec.ofNat 16 W) } ∈
            t.bus.queue)) ∧
      (WantsLaw s → ∀ w ∈ s.demand.wants, w.tote = tote → Checked w s t)

/-- CANCEL_LINE: UNKNOWN_TAG, WRONG_STATE, and otherwise the line becomes CANCELLED with its put count kept,
and the position of an ACTIVE line settles, the line boundary following: the release, the park or its
refusal, or the next line (R21, R132, R135, R137). With the tote's last workable line its want record goes
and DROP is requested (R29). The order of a placed handle is re-evaluated, and ORDER_READY is raised where
it becomes ready; with an unplaced handle no order changes (R21, R34). -/
def Obligations.CancelLine : Prop :=
  ∀ (tag : Tag) (s : State), s.mode ≠ .unconfigured →
    ((∀ l ∈ s.demand.lines, l.tag ≠ tag) →
      exec (.cancelLine tag) s =
        .next (s.answered [5, 7, 244])) ∧
    (∀ l, s.demand.lines.find? (fun l => l.tag == tag) = some l →
      ((l.state = .done ∨ l.state = .short ∨ l.state = .cancelled) →
        exec (.cancelLine tag) s =
          .next (s.answered [5, 4, 247])) ∧
      (l.state = .waiting ∨ l.state = .active ∨ l.state = .suspended ∨ l.state = .held →
        (s.demand.lines.map Line.tag).Nodup →
        ∃ t, exec (.cancelLine tag) s = .next t ∧
          SameExcept (commandBlocks (.cancelLine tag)) s t ∧
          t.link = { s.link with reply := [5, 0, 251] } ∧
          lineFacts t.demand.lines = lineFacts s.demand.lines ∧
          t.demand.lines.find? (fun l => l.tag == tag) = some { l with state := .cancelled } ∧
          (l.state = .active → ∀ k, s.picker.active = some k →
            t.picker.settles[k] = some s.conf.settle) ∧
          (l.state = .active → LinesLaw s → PresentLaw s →
            (∀ p ∈ s.lane.queue ++ s.lane.parkRec.toList, p.tote ≠ l.tote) →
            BoundaryFollows l s t) ∧
          (l.state ≠ .active → s.inOwnLane l.tote = false →
            t.demand.lines =
              s.demand.lines.map fun m => if m.tag = tag then { m with state := .cancelled } else m) ∧
          (l.state ≠ .waiting → l.state ≠ .active → s.inOwnLane l.tote = false →
            t.demand.wants = s.demand.wants) ∧
          (l.state = .waiting → s.inOwnLane l.tote = false → WantsLaw s →
            isPlaced s.puts l.handle = true →
            (∀ m ∈ s.demand.lines, m.tote = l.tote → m.tag ≠ tag → isWorkable s.puts m = false) →
            t.demand.wants = s.demand.wants.filter (fun w => decide (w.tote ≠ l.tote)) ∧
            (s.bus.tx = .on → s.bus.queue.length < 15 →
              { sender := s.bus.ownStation.getD 0, tote := l.tote, body := .drop } ∈
                t.bus.queue)) ∧
          (∀ k o, positionOf s.puts l.handle = some k → s.puts[k] = some o →
            ReadyFollows k o (OthersClosed s l.handle tag) s t) ∧
          (positionOf s.puts l.handle = none → t.puts = s.puts ∧ SourceKept .orderReady s t)))

/-- PLACE_ORDER's refusals in R32's order, which change nothing. PLACE_ORDER at a FREE position writes
the order record, ready where every one of at least one line is closed, and then raises ORDER_READY
(R32, R34); of a handle already at the position it replaces the deadline alone (R33), checks the want
records of the totes with a workable line of the order (R40, R42) and lets the urgent flags of its totes
follow the new deadline (R47, R48). Lines keep everything but their states, want records stand exactly
for the totes with a workable line, and a tote whose line becomes workable gets its record, with WANT
requested (R29, R32, R40). -/
def Obligations.PlaceOrder : Prop :=
  (∀ (handle : Handle) (position : Byte) (deadline : Clock) (s : State), s.mode ≠ .unconfigured →
    ((handle = 0 ∨ position.toNat = 0 ∨ 16 < position.toNat) →
      exec (.placeOrder handle position deadline) s =
        .next (s.answered [6, 12, 238])) ∧
    (∀ k : PutIdx, handle ≠ 0 → position.toNat = k.val + 1 →
      (∀ j, positionOf s.puts handle = some j → j ≠ k →
        exec (.placeOrder handle position deadline) s =
          .next (s.answered [6, 10, 240])) ∧
      (∀ o, positionOf s.puts handle = none → s.puts[k] = some o →
        exec (.placeOrder handle position deadline) s =
          .next (s.answered [6, 9, 241])))) ∧
  ∀ (handle : Handle) (k : PutIdx) (deadline : Clock) (s : State), s.mode ≠ .unconfigured →
    handle ≠ 0 →
    (positionOf s.puts handle = none → s.puts[k] = none →
      ∃ t, exec (.placeOrder handle (BitVec.ofNat 8 (k.val + 1)) deadline) s = .next t ∧
        SameExcept (commandBlocks (.placeOrder handle 0 deadline)) s t ∧
        t.link = { s.link with reply := [6, 0, 250] } ∧
        t.puts = s.puts.set k (some
          { handle := handle, deadline := deadline
            ready := decide ((∃ l ∈ s.demand.lines, l.handle = handle) ∧
              ∀ l ∈ s.demand.lines, l.handle = handle →
                l.state = .done ∨ l.state = .short ∨ l.state = .cancelled) }) ∧
        lineFacts t.demand.lines = lineFacts s.demand.lines ∧
        (LinesLaw s → WantsLaw s → WantsLaw t) ∧
        ReadyFollows k { handle := handle, deadline := deadline, ready := false }
          ((∃ l ∈ s.demand.lines, l.handle = handle) ∧
            ∀ l ∈ s.demand.lines, l.handle = handle →
              l.state = .done ∨ l.state = .short ∨ l.state = .cancelled) s t ∧
        (∀ T W, WantsLaw s →
          (∃ l ∈ s.demand.lines, l.tote = T ∧ l.handle = handle ∧ l.state = .waiting) →
          hasWorkable s.demand.lines s.puts T = false → t.weightOf T = some W →
          { tote := T, weight := W, time := s.clock } ∈ t.demand.wants ∧
          (s.bus.tx = .on → s.bus.queue.length + s.demand.lines.length < 16 →
            { sender := s.bus.ownStation.getD 0, tote := T, body := .want (BitVec.ofNat 16 W) } ∈
              t.bus.queue))) ∧
    (∀ o, positionOf s.puts handle = some k → s.puts[k] = some o →
      ∃ t, exec (.placeOrder handle (BitVec.ofNat 8 (k.val + 1)) deadline) s = .next t ∧
        SameExcept (commandBlocks (.placeOrder handle 0 deadline)) s t ∧
        t.link = { s.link with reply := [6, 0, 250] } ∧
        t.puts = s.puts.set k (some { o with deadline := deadline }) ∧
        lineFacts t.demand.lines = lineFacts s.demand.lines ∧
        t.demand.wants.map WantRec.tote = s.demand.wants.map WantRec.tote ∧
        (WantsLaw s → ∀ w ∈ s.demand.wants,
          (∃ l ∈ s.demand.lines, l.tote = w.tote ∧ l.handle = handle ∧ l.state = .waiting) →
          Checked w s t) ∧
        ∀ q ∈ laneRecords s, (∃ l ∈ s.demand.lines, l.tote = q.tote ∧ l.handle = handle) →
          ∃ p ∈ laneRecords t, p.tote = q.tote ∧
            (p.urgent = true ↔ UrgentIn { s with puts := t.puts } q))

/-- R22 as a whole: CLOSE_ORDER. -/
def Obligations.CloseOrder : Prop :=
  ∀ (handle : Handle) (s : State),
    (s.mode = .unconfigured →
      exec (.closeOrder handle) s =
        .next (s.answered [7, 2, 247])) ∧
    (s.mode ≠ .unconfigured →
      (∀ k, positionOf s.puts handle = some k →
        ((∃ l ∈ s.demand.lines, l.handle = handle ∧
            (l.state = .waiting ∨ l.state = .active ∨ l.state = .suspended ∨ l.state = .held)) →
          exec (.closeOrder handle) s =
            .next (s.answered [7, 11, 238])) ∧
        ((∀ l ∈ s.demand.lines, l.handle = handle →
            l.state = .done ∨ l.state = .short ∨ l.state = .cancelled) →
          exec (.closeOrder handle) s =
            .next { s with
              link := { s.link with reply := [7, 0, 249] }
              puts := s.puts.set k none
              demand := { s.demand with
                lines := s.demand.lines.filter fun l => decide (l.handle ≠ handle) } })) ∧
      (positionOf s.puts handle = none →
        ((∃ l ∈ s.demand.lines, l.handle = handle) →
          exec (.closeOrder handle) s =
            .next { s with
              link := { s.link with reply := [7, 0, 249] }
              demand := { s.demand with
                lines := s.demand.lines.filter fun l => decide (l.handle ≠ handle) } }) ∧
        ((∀ l ∈ s.demand.lines, l.handle ≠ handle) →
          exec (.closeOrder handle) s =
            .next (s.answered [7, 8, 241]))))

/-! ### The desk: the face, the modes, jams and the lock -/

/-- RELEASE_FACE is answered WRONG_STATE unless the face is PRESENTING; then the ACTIVE line returns to
WAITING with its put count kept, its lights go out, its position settles, and the tote is released, at once
to LEAVING where the gap is present and the lane not jammed (R26, R114, R118, R132, R140). -/
def Obligations.ReleaseFace : Prop :=
  ∀ s : State, s.mode ≠ .unconfigured →
    (s.lane.face ≠ .presenting → exec .releaseFace s = .next (s.answered [8, 4, 244])) ∧
    (s.lane.face = .presenting → LinesLaw s → PresentLaw s →
      ∃ t l, exec .releaseFace s = .next t ∧ SameExcept (commandBlocks .releaseFace) s t ∧
        t.link = { s.link with reply := [8, 0, 248] } ∧
        l ∈ s.demand.lines ∧ l.state = .active ∧
        t.demand.lines =
          s.demand.lines.map (fun m => if m.tag = l.tag then { m with state := .waiting } else m) ∧
        t.lane.face =
          (if s.lane.gap = true ∧ s.lane.jam = none then .leaving else .releasing) ∧
        t.lane.faceRec.map LaneRec.tote = s.lane.faceRec.map LaneRec.tote ∧
        t.lane.queue.map LaneRec.tote = s.lane.queue.map LaneRec.tote ∧
        t.lane.drives.exit = decide (s.lane.gap = true ∧ s.lane.jam = none) ∧
        t.picker.active = none ∧ t.picker.putLight = none ∧ t.picker.toteLight = false ∧
        t.picker.display = none ∧ t.picker.beams = s.picker.beams ∧
        (∀ k, positionOf s.puts l.handle = some k → t.picker.settles[k] = some s.conf.settle))

/-- REST: from ACTIVE the mode becomes DRAINING, or REST by way of DRAINING where the lane is empty, with
MODE_CHANGED for each change and STATE(able = no); in SWEEPING it sets the sweep return; in DRAINING and
REST it does nothing (R148, R149, R151, R63). -/
def Obligations.Rest : Prop :=
  ∀ s : State,
    (s.mode = .draining ∨ s.mode = .rest →
      exec .rest s = .next (s.answered [9, 0, 247])) ∧
    (s.mode = .sweeping →
      exec .rest s =
        .next ({ s with modeCtl := { s.modeCtl with sweepReturn := .rest } }.answered
          [9, 0, 247])) ∧
    (s.mode = .active → s.bus.tx = .on → s.bus.queue.length < 16 →
      ∃ t, exec .rest s = .next t ∧ SameExcept (commandBlocks .rest) s t ∧
        t.link = { s.link with reply := [9, 0, 247] } ∧ t.modeCtl.able = false ∧
        t.modeCtl.sweepReturn = s.modeCtl.sweepReturn ∧
        (∃ f ∈ t.bus.queue, f.tote = 0 ∧ f.body = .state 0) ∧
        t.lane.queue = s.lane.queue ∧ t.lane.face = s.lane.face ∧
        t.lane.faceRec = s.lane.faceRec ∧ t.lane.parkRec = s.lane.parkRec ∧
        (s.laneEmpty = false → t.mode = .draining ∧ t.bus.tx = .on ∧
          RaisedOnce .modeChanged 3 s t) ∧
        (s.laneEmpty = true → t.mode = .rest ∧ t.bus.tx = .closing ∧
          (s.notices.sources[NoticeSource.modeChanged.index].pending = false →
            t.notices.sources[NoticeSource.modeChanged.index] =
              { s.notices.sources[NoticeSource.modeChanged.index] with
                pending := true, count := 2, detail := 3 })))

/-- WAKE and the LOGON key: REST and DRAINING become ACTIVE, able is worked out afresh and STATE carries it;
in SWEEPING the sweep return becomes ACTIVE; in ACTIVE nothing changes. The key gives no reply (R148, R150,
R63). -/
def Obligations.Wake : Prop :=
  ∀ s : State, s.mode ≠ .unconfigured →
    ∃ t, exec .logonKey s = .next t ∧ exec .wake s = .next (t.answered [10, 0, 246]) ∧
      SameExcept settleBlocks s t ∧
      (s.mode = .active → t = s) ∧
      (s.mode = .sweeping →
        t = { s with modeCtl := { s.modeCtl with sweepReturn := .active } }) ∧
      (s.mode = .rest ∨ s.mode = .draining →
        t.mode = .active ∧ t.bus.tx = .on ∧
        t.modeCtl.able = decide (s.lane.jam = none ∧
          s.divert.records.length + s.lane.queue.length < s.conf.c) ∧
        t.lane.queue = s.lane.queue ∧ t.lane.face = s.lane.face ∧
        t.lane.faceRec = s.lane.faceRec ∧ t.lane.parkRec = s.lane.parkRec ∧
        (s.bus.queue.length < 16 →
          RaisedOnce .modeChanged 2 s t ∧
          ∃ f ∈ t.bus.queue, f.tote = 0 ∧ f.body = .state (if t.modeCtl.able = true then 1 else 0)))

/-- CLEAR_JAM of a lane that is not jammed changes nothing; otherwise the jam ends, sensor times restart
from 0 or end, the waits that were running restart from 0 where the face is neither EMPTY nor RELEASING, and
a RELEASING face leaves where the gap is present (R127, R118). An EMPTY face is filled from the park or from
the queue, or waits for the head sensor, and in SWEEPING a lane that is clear passes to the sweep return
(R112, R127, R152). -/
def Obligations.ClearJam : Prop :=
  ∀ s : State, s.mode ≠ .unconfigured →
    (s.lane.jam = none → exec .clearJam s = .next (s.answered [11, 0, 245])) ∧
    (s.lane.jam ≠ none →
      ∃ t, exec .clearJam s = .next t ∧ SameExcept (commandBlocks .clearJam) s t ∧
        t.link = { s.link with reply := [11, 0, 245] } ∧ t.lane.jam = none ∧
        t.lane.drives = drivesOf t.lane ∧
        (∀ x, (sensorOf t.lane.sensors x).blocked = s.isBlocked x ∧
          ((sensorOf t.lane.sensors x).time = none ∨ (sensorOf t.lane.sensors x).time = some 0)) ∧
        (s.lane.face ≠ .empty → s.lane.face ≠ .releasing →
          t.lane.face = s.lane.face ∧ t.lane.faceRec = s.lane.faceRec ∧
          ∀ w, waitOf t.lane.waits w = (waitOf s.lane.waits w).map fun _ => 0) ∧
        (s.lane.face = .releasing → s.lane.gap = true →
          t.lane.face = .leaving ∧ t.lane.waits.merge = some 0) ∧
        (s.lane.face = .releasing → s.lane.gap = false → t.lane.face = .releasing) ∧
        (s.lane.face = .empty → s.mode = .active ∨ s.mode = .draining →
          (∀ q, s.lane.parkRec = some q → s.lane.preempted = false →
            t.lane.face = .arriving ∧ t.lane.parkRec = none ∧ t.lane.queue = s.lane.queue ∧
            t.lane.faceRec.map (fun p => (p.tote, p.source)) = some (q.tote, .park) ∧
            t.lane.waits.arrival = some 0) ∧
          (∀ q rest, s.lane.queue = q :: rest →
            (s.lane.preempted = true ∨ s.lane.parkRec = none) →
            (s.isBlocked .head = true →
              t.lane.face = .arriving ∧ t.lane.parkRec = s.lane.parkRec ∧ t.lane.queue = rest ∧
              t.lane.faceRec.map (fun p => (p.tote, p.source)) = some (q.tote, .queue) ∧
              t.lane.waits.arrival = some 0 ∧ t.lane.waits.head = none) ∧
            (s.isBlocked .head = false →
              t.lane.face = .empty ∧ t.lane.parkRec = s.lane.parkRec ∧
              t.lane.queue = s.lane.queue ∧ t.lane.waits.head = some 0)) ∧
          (s.lane.queue = [] → s.lane.parkRec = none →
            t.lane.face = .empty ∧ t.lane.queue = [] ∧ t.lane.parkRec = none)) ∧
        (s.mode = .sweeping → s.laneEmpty = true → s.lane.preempted = false → AllClear s →
          t.lane.face = .empty ∧
          t.mode = (match s.modeCtl.sweepReturn with | .active => .active | .rest => .rest)))

/-- RETRACK puts the lock in SEEKING with its counters at 0 (R92). An overdue removal takes the nearest
entry, if it is overdue, and hands the lock a failure: in LOCKED a miss, with TRACK_LOST at MISS_LIMIT; in
SEEKING and CONFIRMING a failed attempt, with TRACK_FAULT at ATTEMPT_LIMIT; in FAULTED nothing (R83, R90 to
R92). That the command waits for nothing and acts only where the removal is due is log 3. -/
def Obligations.TrackerLock : Prop :=
  ∀ s : State, s.mode ≠ .unconfigured →
    exec .retrack s =
      .next ({ s with tracker :=
        { s.tracker with lock := .seeking, run := 0, attempts := 0, misses := 0 } }.answered
          [12, 0, 244]) ∧
    ((∀ e ∈ s.tracker.eal.head?, signed16 (s.count - e.expected) ≤ (s.conf.wWin : Int)) →
      exec .overdueRemoval s = .next s) ∧
    (∀ e rest, s.tracker.eal = e :: rest →
      (s.conf.wWin : Int) < signed16 (s.count - e.expected) →
      ∃ t, exec .overdueRemoval s = .next t ∧ SameExcept [.tracker, .notices] s t ∧
        (s.tracker.lock = .faulted →
          t.tracker = { s.tracker with eal := rest } ∧ t.notices = s.notices) ∧
        (s.tracker.lock = .locked → s.tracker.misses + 1 < s.conf.missLimit →
          t.tracker = { s.tracker with eal := rest, misses := s.tracker.misses + 1 } ∧
          t.notices = s.notices) ∧
        (s.tracker.lock = .locked → s.conf.missLimit ≤ s.tracker.misses + 1 →
          t.tracker = { s.tracker with
            eal := rest, lock := .seeking, run := 0, attempts := 0, misses := 0 } ∧
          RaisedOnce .trackLost e.tote s t) ∧
        (s.tracker.lock = .seeking ∨ s.tracker.lock = .confirming →
          s.tracker.attempts + 1 < s.conf.attemptLimit →
          t.tracker = { s.tracker with
            eal := rest, lock := .seeking, run := 0, attempts := s.tracker.attempts + 1 } ∧
          t.notices = s.notices) ∧
        (s.tracker.lock = .seeking ∨ s.tracker.lock = .confirming →
          s.conf.attemptLimit ≤ s.tracker.attempts + 1 →
          t.tracker = { s.tracker with
            eal := rest, lock := .faulted, run := 0, attempts := s.conf.attemptLimit } ∧
          RaisedOnce .trackFault e.tote s t))

/-! ### Counted and timed events -/

/-- A divert timeout, due when the count has passed the oldest record's read count by DIVERT_REACH, removes
the record, raises DIVERT_FAIL, requests RELEASE from the reader's position with the record's class, cold
used and laps, and expects the tote one lap after its read count (R30, R46, R84, R106). In DRAINING a lane
that is then empty goes to REST (R151). A RELEASE that the full queue turns away is R57's. That the command
acts only where it is due is log 3, and the time that stamps the expected entry of a record without an entry
part is log 19. -/
def Obligations.DivertTimeout : Prop :=
  ∀ (s : State) (d : DivertRec) (rest : List DivertRec),
    s.mode ≠ .unconfigured → s.divert.records = d :: rest → s.bus.tx = .on →
    s.bus.queue.length < 15 → OutputsLaw s → AbleLaw s → OwnLaneLaw s →
    (signed16 (s.count - d.readCount) < (s.conf.divertReach : Int) →
      exec .divertTimeout s = .next s) ∧
    ((s.conf.divertReach : Int) ≤ signed16 (s.count - d.readCount) →
      ∃ t a c, exec .divertTimeout s = .next t ∧ SameExcept (commandBlocks .divertTimeout) s t ∧
        t.divert.records = rest ∧ t.divert.commands = s.divert.commands ∧
        { sender := s.bus.ownStation.getD 0, tote := d.tote, body := .release a } ∈ t.bus.queue ∧
        ClassOfDivert s d c ∧ a.cls = classCode c ∧
        (∀ used time, d.entry.map EntryPart.cold = some (.known used time) →
          a.coldUsed.toNat = min 65535 (used + elapsed s.clock time)) ∧
        (∀ time, (d.entry.map EntryPart.cold).getD (.unknown d.takeTime) = .unknown time →
          a.coldUsed.toNat = (if c = .ambient then 0 else
            min 65535 (budget s.conf c - alertMargin s.conf c + elapsed s.clock time))) ∧
        a.laps = BitVec.ofNat 8 ((d.entry.map EntryPart.laps).getD 0) ∧
        a.position = BitVec.ofNat 16 s.conf.pR ∧ a.count = d.readCount ∧
        (signed16 (s.count - (d.readCount + BitVec.ofNat 16 s.conf.loopLen)) ≤
            (s.conf.wWin : Int) → s.tracker.eal = [] →
          t.tracker.eal =
            [match d.entry with
              | some p =>
                { tote := d.tote, expected := d.readCount + BitVec.ofNat 16 s.conf.loopLen
                  cls := p.cls, cold := p.cold, laps := min 255 (p.laps + 1) }
              | none =>
                { tote := d.tote, expected := d.readCount + BitVec.ofNat 16 s.conf.loopLen
                  cls := .ambient, cold := .unknown d.takeTime, laps := 0 }]) ∧
        (s.mode ≠ .draining ∨ rest ≠ [] ∨ s.lane.queue ≠ [] ∨ s.lane.parkRec ≠ none ∨
            s.lane.face ≠ .empty →
          t.mode = s.mode ∧ RaisedOnce .divertFail d.tote s t) ∧
        (s.mode = .draining → rest = [] → s.lane.queue = [] → s.lane.parkRec = none →
          s.lane.face = .empty →
          t.mode = .rest ∧ t.bus.tx = .closing ∧ t.modeCtl.able = false ∧
          t.notices.sources[NoticeSource.divertFail.index].pending = true ∧
          t.notices.sources[NoticeSource.modeChanged.index].pending = true))

/-- STATION_STALE and ENTRY_STALE: a heard station whose age has reached STALE is unheard, an interest entry
whose age has reached STALE is removed, and nothing else changes (R67, R74). The refreshes: STATE and HOLD
for every lane tote where the own refresh count has reached the period (R77), WANT where a want record's
refresh period has passed (R40, R41). A frame whose key is queued replaces the queued frame in place, in a
full queue too (R55). In a full queue without its key STATE and HOLD take the place of the newest class-3
frame, or are abandoned with their notice where there is none, and WANT is discarded without one (R57). That
these commands act only where they are due is log 3. -/
def Obligations.StaleAndRefresh : Prop :=
  ∀ s : State,
    (∀ x : StationNo,
      ∃ t, exec (.stationStale x) s = .next t ∧ SameExcept [.board] s t ∧
        t.board.entries = s.board.entries ∧ t.board.crowded = s.board.crowded ∧
        t.board.refreshCount = s.board.refreshCount ∧
        (∀ y : StationNo, y ≠ x → t.board.stations[y] = s.board.stations[y]) ∧
        t.board.stations[x] =
          (if s.board.stations[x].heard = true ∧ s.conf.stale ≤ s.board.stations[x].age then
            { heard := false, able := false, age := s.conf.stale }
          else s.board.stations[x])) ∧
    (∀ (x : StationNo) (T : ToteNo),
      ∃ t, exec (.entryStale x T) s = .next t ∧ SameExcept [.board] s t ∧
        t.board.stations = s.board.stations ∧ t.board.crowded = s.board.crowded ∧
        t.board.refreshCount = s.board.refreshCount ∧
        ∀ e, e ∈ t.board.entries ↔
          e ∈ s.board.entries ∧ ¬ (e.station = x ∧ e.tote = T ∧ s.conf.stale ≤ e.age)) ∧
    (s.board.refreshCount < s.conf.refreshPeriod →
      exec .stateAndHoldRefresh s = .next s) ∧
    (s.mode ≠ .unconfigured → s.conf.refreshPeriod ≤ s.board.refreshCount →
      ∃ t, exec .stateAndHoldRefresh s = .next t ∧ SameExcept [.board, .bus, .notices] s t ∧
        t.board = { s.board with refreshCount := 0 } ∧
        (s.bus.tx = .on → s.bus.queue.length + 1 + (ownTotes s).length ≤ 16 →
          t.notices = s.notices ∧
          (∃ f ∈ t.bus.queue,
            f.tote = 0 ∧ f.body = .state (if s.modeCtl.able = true then 1 else 0)) ∧
          (∀ q ∈ s.lane.queue ++ s.lane.faceRec.toList ++ s.lane.parkRec.toList, q.tote ≠ 0 →
            ∃ f ∈ t.bus.queue, f.tote = q.tote ∧ f.body = .hold)) ∧
        (s.bus.tx ≠ .on → t.bus = s.bus ∧ t.notices = s.notices) ∧
        (s.bus.tx = .on → 16 ≤ s.bus.queue.length → s.lane.queue = [] → s.lane.faceRec = none →
          s.lane.parkRec = none → (∀ g ∈ s.bus.queue, frameKey g ≠ .state) →
          ((∀ g ∈ s.bus.queue, g.body.lineClass ≠ 3) →
            t.bus = s.bus ∧ RaisedOnce .frameAbandoned 0 s t) ∧
          (∀ a f b, s.bus.queue = a ++ f :: b → f.body.lineClass = 3 →
            (∀ g ∈ b, g.body.lineClass ≠ 3) →
            t.notices = s.notices ∧
            t.bus.queue = a ++ b ++ [{
              sender := s.bus.ownStation.getD 0
              tote := 0
              body := .state (if s.modeCtl.able = true then 1 else 0) }])) ∧
        (s.bus.tx = .on → (∃ g ∈ s.bus.queue, frameKey g = .state) → s.lane.queue = [] →
          s.lane.parkRec = none →
          let replaced : List Frame := s.bus.queue.map fun g =>
            if frameKey g = .state then
              { sender := s.bus.ownStation.getD 0, tote := 0
                body := .state (if s.modeCtl.able = true then 1 else 0) }
            else g
          (s.lane.faceRec = none → t.bus.queue = replaced ∧ t.notices = s.notices) ∧
          ∀ q, s.lane.faceRec = some q → q.tote ≠ 0 →
            let hold : Frame :=
              { sender := s.bus.ownStation.getD 0, tote := q.tote, body := .hold }
            ((∃ g ∈ s.bus.queue, frameKey g = .holdRelease q.tote) →
              t.notices = s.notices ∧
              t.bus.queue = replaced.map fun g =>
                if frameKey g = .holdRelease q.tote then hold else g) ∧
            ((∀ g ∈ s.bus.queue, frameKey g ≠ .holdRelease q.tote) →
              16 ≤ s.bus.queue.length →
              ((∀ g ∈ s.bus.queue, g.body.lineClass ≠ 3) →
                t.bus.queue = replaced ∧ RaisedOnce .frameAbandoned q.tote s t) ∧
              (∀ a f b, replaced = a ++ f :: b → f.body.lineClass = 3 →
                (∀ g ∈ b, g.body.lineClass ≠ 3) →
                t.notices = s.notices ∧ t.bus.queue = a ++ b ++ [hold])))) ∧
    (∀ (w : WantRec) (W : Nat), s.wantOf w.tote = some w → s.weightOf w.tote = some W →
      (elapsed s.clock w.time < s.conf.refreshPeriod →
        exec (.wantRefresh w.tote) s = .next s) ∧
      (s.conf.refreshPeriod ≤ elapsed s.clock w.time →
        ∃ t, exec (.wantRefresh w.tote) s = .next t ∧
          SameExcept [.demand, .bus, .notices] s t ∧ t.demand.lines = s.demand.lines ∧
          t.demand.wants = s.demand.wants.map (fun v =>
            if v.tote = w.tote then { v with weight := W, time := s.clock } else v) ∧
          (s.bus.tx = .on → s.bus.queue.length < 16 →
            ∃ f ∈ t.bus.queue, f.tote = w.tote ∧ f.body = .want (BitVec.ofNat 16 W)) ∧
          (16 ≤ s.bus.queue.length →
            (∀ g ∈ s.bus.queue, frameKey g ≠ .wantDrop w.tote) →
            t.bus = s.bus ∧ t.notices = s.notices) ∧
          (s.bus.tx = .on → (∃ g ∈ s.bus.queue, frameKey g = .wantDrop w.tote) →
            t.notices = s.notices ∧
            t.bus.queue = s.bus.queue.map fun g =>
              if frameKey g = .wantDrop w.tote then
                { sender := s.bus.ownStation.getD 0, tote := w.tote
                  body := .want (BitVec.ofNat 16 W) }
              else g)))

/-- The Cold Monitor's two events of one lane record: COLD_ALERT once, for a KNOWN reference at ALERT;
COLD_BREACH once, at BREACHED, which holds every line of the tote that was WAITING, ACTIVE or SUSPENDED
and releases a presented tote (R28, R121, R122, R141). That the commands act only where they are due is
log 3. -/
def Obligations.ColdMonitor : Prop :=
  ∀ (s : State) (T : ToteNo) (q : LaneRec), s.laneRecOf T = some q → T ≠ 0 → q.cls ≠ .ambient →
    let rem := coldRemaining s.conf q.cls q.cold s.clock
    (0 < rem → rem ≤ (alertMargin s.conf q.cls : Int) → q.alertMark = false →
      q.cold.isKnown = true →
      ∃ t, exec (.coldAlert T) s = .next t ∧ SameExcept [.lane, .notices] s t ∧
        RaisedOnce .coldAlert T s t ∧ t.laneRecOf T = some { q with alertMark := true } ∧
        t.lane.face = s.lane.face ∧ t.lane.drives = s.lane.drives ∧
        t.lane.queue.map LaneRec.tote = s.lane.queue.map LaneRec.tote) ∧
    ((rem ≤ 0 ∨ (alertMargin s.conf q.cls : Int) < rem ∨ q.alertMark = true ∨
        q.cold.isKnown = false) →
      exec (.coldAlert T) s = .next s) ∧
    ((0 < rem ∨ q.breachMark = true) → exec (.coldBreach T) s = .next s) ∧
    (rem ≤ 0 → q.breachMark = false →
      ∃ t, exec (.coldBreach T) s = .next t ∧ SameExcept (commandBlocks (.coldBreach T)) s t ∧
        t.notices.sources[NoticeSource.coldBreach.index].pending = true ∧
        (s.notices.sources[NoticeSource.coldBreach.index].pending = false →
          t.notices.sources[NoticeSource.coldBreach.index].count = 1 ∧
          t.notices.sources[NoticeSource.coldBreach.index].detail = T) ∧
        (t.laneRecOf T).any LaneRec.breachMark = true ∧
        lineFacts t.demand.lines = lineFacts s.demand.lines ∧
        (PresentLaw s → LinesLaw s →
          (∀ l ∈ s.demand.lines, l.tote = T →
            (l.state = .waiting ∨ l.state = .active ∨ l.state = .suspended) →
            { l with state := .held } ∈ t.demand.lines) ∧
          (s.lane.face = .presenting → (∃ p ∈ s.lane.faceRec, p.tote = T) →
            (t.lane.face = .releasing ∨ t.lane.face = .leaving) ∧ t.picker.active = none ∧
            t.picker.toteLight = false ∧ t.picker.display = none ∧ t.picker.putLight = none ∧
            ∀ k, s.picker.active = some k → t.picker.settles[k] = some s.conf.settle)))

/-- MERGE_GAP holds the level, and with the gap present a RELEASING face in an unjammed lane leaves, the
exit driven and the merge wait begun (R118, R124). MERGE_STALL is raised once for a RELEASING tote whose
merge wait count has reached MERGE_WAIT (R118). The level is the command's operand (log 5), and MERGE_STALL
acts only where it is due (log 3). -/
def Obligations.MergeGapAndStall : Prop :=
  ∀ s : State, s.mode ≠ .unconfigured →
    (s.lane.face = .releasing → s.lane.jam = none →
      ∃ t, exec (.mergeGap true) s = .next t ∧ SameExcept settleBlocks s t ∧
        t.lane.gap = true ∧ t.lane.face = .leaving ∧ t.lane.faceRec = s.lane.faceRec ∧
        t.lane.queue = s.lane.queue ∧ t.lane.parkRec = s.lane.parkRec ∧
        t.lane.waits = { s.lane.waits with merge := some 0 } ∧
        t.lane.drives = { advance := false, transfer := .off, exit := true }) ∧
    (∀ g : Bool, OutputsLaw s → AbleLaw s →
      (g = false ∨ s.lane.face ≠ .releasing ∨ s.lane.jam ≠ none) →
      exec (.mergeGap g) s = .next { s with lane := { s.lane with gap := g } }) ∧
    (∀ q, s.lane.faceRec = some q → s.lane.face = .releasing →
      s.conf.mergeWait ≤ q.mergeWait → q.stallMark = false →
      ∃ t, exec .mergeStall s = .next t ∧ SameExcept [.lane, .notices] s t ∧
        t.lane = { s.lane with faceRec := some { q with stallMark := true } } ∧
        RaisedOnce .mergeStall q.tote s t) ∧
    (∀ q, s.lane.faceRec = some q →
      (s.lane.face ≠ .releasing ∨ q.mergeWait < s.conf.mergeWait ∨ q.stallMark = true) →
      exec .mergeStall s = .next s)

/-- A wait, or the time of a sensor, that reaches MOVE_TIME jams the lane: LANE_JAM is raised, the drives
stop and the bench is not able (R111, R124 to R126, R147). Where it is the only time running, the detail
names its sensor. Time passes in the command up to that millisecond (log 2). -/
def Obligations.LaneJams : Prop :=
  ∀ s : State, s.mode ≠ .unconfigured → s.lane.jam = none → OutputsLaw s →
    (∀ w n, waitOf s.lane.waits w = some n →
      ∃ t, exec (.laneJam w) s = .next t ∧ SameExcept (commandBlocks (.laneJam w)) s t ∧
        t.lane.jam ≠ none ∧ t.lane.drives = { advance := false, transfer := .off, exit := false } ∧
        t.modeCtl.able = false ∧ t.mode = s.mode ∧ t.lane.face = s.lane.face ∧
        t.lane.queue = s.lane.queue ∧
        t.notices.sources[NoticeSource.laneJam.index].pending = true ∧
        ((∀ v, v ≠ w → waitOf s.lane.waits v = none) →
          (∀ x, (sensorOf s.lane.sensors x).time = none) →
          t.lane.jam = some (match w with
            | .arrival => .face | .park => .park | .merge => .exit | .head => .head))) ∧
    (∀ x n, (sensorOf s.lane.sensors x).time = some n →
      ∃ t, exec (.unaccountedSensor x) s = .next t ∧
        SameExcept (commandBlocks (.unaccountedSensor x)) s t ∧
        t.lane.jam ≠ none ∧ t.lane.drives = { advance := false, transfer := .off, exit := false } ∧
        t.modeCtl.able = false ∧ t.mode = s.mode ∧ t.lane.face = s.lane.face ∧
        t.lane.queue = s.lane.queue ∧
        t.notices.sources[NoticeSource.laneJam.index].pending = true ∧
        ((∀ v, waitOf s.lane.waits v = none) →
          (∀ y, y ≠ x → (sensorOf s.lane.sensors y).time = none) → t.lane.jam = some x))

/-- A settle that ends leaves its position not settling (R138); a beam blocked for 3000 ms is stuck and
raises BEAM_STUCK (R142); a stuck beam clear for 3000 ms is not stuck any more (R143). Time passes in the
command up to that millisecond (log 2). -/
def Obligations.PickTimers : Prop :=
  ∀ (s : State) (k : PutIdx), s.mode ≠ .unconfigured →
    (∀ n, s.picker.settles[k] = some n →
      ∃ t, exec (.settleEnd k) s = .next t ∧ SameExcept (commandBlocks (.settleEnd k)) s t ∧
        t.picker.settles[k] = none ∧ t.picker.active = s.picker.active ∧
        t.picker.display = s.picker.display ∧
        ∀ (j : PutIdx) m, s.picker.settles[j] = some m → max 1 n < m →
          t.picker.settles[j] = some (m - max 1 n)) ∧
    (s.picker.settles[k] = none → exec (.settleEnd k) s = .next s) ∧
    (s.picker.beams[k].blocked = true → s.picker.beams[k].stuck = false →
      ∃ t, exec (.beamStuck k) s = .next t ∧ SameExcept (commandBlocks (.beamStuck k)) s t ∧
        t.picker.beams[k] = { blocked := true, stuck := true, blockedMs := 3000, clearMs := 0 } ∧
        t.notices.sources[NoticeSource.beamStuck.index].pending = true ∧
        t.picker.active = s.picker.active ∧ t.picker.display = s.picker.display) ∧
    (s.picker.beams[k].blocked = false ∨ s.picker.beams[k].stuck = true →
      exec (.beamStuck k) s = .next s) ∧
    (s.picker.beams[k].blocked = false → s.picker.beams[k].stuck = true →
      ∃ t, exec (.beamRecovered k) s = .next t ∧
        SameExcept (commandBlocks (.beamRecovered k)) s t ∧
        t.picker.beams[k].blocked = false ∧ t.picker.beams[k].stuck = false ∧
        t.picker.active = s.picker.active ∧ t.picker.display = s.picker.display) ∧
    (s.picker.beams[k].blocked = true ∨ s.picker.beams[k].stuck = false →
      exec (.beamRecovered k) s = .next s)

/-! ### The bench line -/

/-- The receive path, where the line becomes idle after the frame (R51, R58). A frame goes from its first
byte to the idle line, so fewer than 12 quiet bits after any of its characters belong to it, and what stands
after 12 is no part of it (R50, R51, log 17). A run with a character cut short or without its stop bit (R50,
log 28) or whose bytes are of bad form (R58), a frame while the receiver is off (R63) and a frame whose
values are out of range (R60) change nothing else; a frame of the own number raises STATION_CLASH with its
kind and goes no further (R59). The bits of a frame of good form are that frame's event (log 17). -/
def Obligations.ReceivePath : Prop :=
  (∀ (lead : Nat) (cs : List (Byte × Nat)) (after : List Bool) (s : State), (∀ c ∈ cs, c.2 < 12) →
    let run := List.replicate lead true ++ spacedBits cs
    let bytes := cs.map Prod.fst
    (after[8]? ≠ some true →
      exec (.frameDiscarded (run ++ false :: after)) s = .next s.lineIdled) ∧
    (∀ bits, bits = run ∨ bits = run ++ List.replicate 12 true ++ after ∧ cs ≠ [] →
      (bytes.length < 2 ∨
        (∃ arb kind : Byte, ∃ rest, bytes = arb :: kind :: rest ∧
          kindForm kind.toNat ≠ some (bytes.length, arb.toNat / 32)) ∨
        bytes16 (crc16 (bytes.take (bytes.length - 2))) ≠ bytes.drop (bytes.length - 2) →
        exec (.frameDiscarded bits) s = .next s.lineIdled) ∧
      ∀ f : Frame, bytes = encodeFrame f →
        exec (.frameDiscarded bits) s = exec (frameRow f) s)) ∧
  ∀ (f : Frame) (s : State),
    exec (.frameDiscarded (frameBits f)) s = exec (frameRow f) s ∧
    (s.bus.rxOn = false → exec (frameRow f) s = .next s) ∧
    (s.bus.rxOn = true → s.bus.ownStation = some f.sender →
      ∃ t, exec (frameRow f) s = .next t ∧ SameExcept [.notices] s.lineIdled t ∧
        RaisedOnce .stationClash
          (match f.body with
            | .infeed _ => 1 | .release _ => 2 | .ret => 3 | .want _ => 4 | .drop => 5
            | .hold => 6 | .state _ => 7) s t) ∧
    (s.bus.ownStation ≠ some f.sender →
      (match f.body with
        | .state able => f.tote ≠ 0 ∨ 1 < able.toNat
        | .want w => isProduct s.conf f.tote = false ∨ 5631 < w.toNat
        | .infeed a =>
            isProduct s.conf f.tote = false ∨ 2 < a.cls.toNat ∨ s.conf.loopLen ≤ a.position.toNat
        | .release a =>
            isProduct s.conf f.tote = false ∨ 2 < a.cls.toNat ∨ s.conf.loopLen ≤ a.position.toNat
        | .ret => isProduct s.conf f.tote = false
        | .drop => isProduct s.conf f.tote = false
        | .hold => isProduct s.conf f.tote = false) →
      exec (frameRow f) s = .next s.lineIdled)

/-- An accepted STATE makes its station heard with the frame's able and age 0, and touches no other record,
no entry and no flag (R66). An accepted DROP, all of R70. The line is idle after either (R51). -/
def Obligations.StateAndDropFrames : Prop :=
  (∀ (x : StationNo) (able : Byte) (s : State), s.bus.rxOn = true →
    s.bus.ownStation ≠ some x → able.toNat ≤ 1 →
    ∃ t, exec (.stateFrame x 0 able) s = .next t ∧ SameExcept [.board] s.lineIdled t ∧
      t.board.stations[x] = { heard := true, able := decide (able = 1), age := 0 } ∧
      (∀ y : StationNo, y ≠ x → t.board.stations[y] = s.board.stations[y]) ∧
      t.board.entries = s.board.entries ∧ t.board.crowded = s.board.crowded ∧
      t.board.refreshCount = s.board.refreshCount) ∧
  ∀ (x : StationNo) (T : ToteNo) (s : State), s.bus.rxOn = true → s.bus.ownStation ≠ some x →
    isProduct s.conf T = true →
    ∃ t, exec (.dropFrame x T) s = .next t ∧ SameExcept [.board] s.lineIdled t ∧
      t.board.stations = s.board.stations ∧ t.board.crowded = s.board.crowded ∧
      t.board.refreshCount = s.board.refreshCount ∧
      (∀ e, e ∈ t.board.entries ↔
        (e ∈ s.board.entries ∧ ¬ (e.station = x ∧ e.tote = T)) ∨
        ∃ o ∈ s.board.entries, o.station = x ∧ o.tote = T ∧ o.holding = true ∧
          e = { o with weight := none }) ∧
      ((∀ o ∈ s.board.entries, ¬ (o.station = x ∧ o.tote = T)) → t.board = s.board)

/-- An accepted WANT: the entry of its pair takes the weight and age 0; without one a new entry is made, or,
on a full board, BOARD_CROWDED is set and the weakest entry that is not holding gives way where its weight
is lower: lowest weight, then greatest age, lowest station, lowest tote (R69, R75). -/
def Obligations.WantFrame : Prop :=
  ∀ (x : StationNo) (T : ToteNo) (W : BitVec 16) (s : State), s.bus.rxOn = true →
    s.bus.ownStation ≠ some x → isProduct s.conf T = true → W.toNat ≤ 5631 → BoardLaw s →
    ∃ t, exec (.wantFrame x T W) s = .next t ∧ SameExcept [.board] s.lineIdled t ∧
      t.board.stations = s.board.stations ∧ t.board.refreshCount = s.board.refreshCount ∧
      (∀ o ∈ s.board.entries, o.station = x → o.tote = T →
        t.board.crowded = s.board.crowded ∧
        ∀ e, e ∈ t.board.entries ↔ e = { o with weight := some W.toNat, age := 0 } ∨
          (e ∈ s.board.entries ∧ ¬ (e.station = x ∧ e.tote = T))) ∧
      ((∀ o ∈ s.board.entries, ¬ (o.station = x ∧ o.tote = T)) →
        (s.board.entries.length < 64 →
          t.board.crowded = s.board.crowded ∧
          ∀ e, e ∈ t.board.entries ↔ e ∈ s.board.entries ∨
            e = { station := x, tote := T, weight := some W.toNat, holding := false, age := 0 }) ∧
        (s.board.entries.length = 64 →
          t.board.crowded = true ∧
          ((∀ o ∈ s.board.entries, o.holding = false → ∀ v, o.weight = some v → W.toNat ≤ v) →
            t.board.entries = s.board.entries) ∧
          (∀ o ∈ s.board.entries, ∀ v, o.holding = false → o.weight = some v → v < W.toNat →
            (∀ e ∈ s.board.entries, ∀ u, e ≠ o → e.holding = false → e.weight = some u →
              v < u ∨ v = u ∧ (e.age < o.age ∨ e.age = o.age ∧
                (o.station < e.station ∨ o.station = e.station ∧ o.tote.toNat < e.tote.toNat))) →
            ∀ e, e ∈ t.board.entries ↔ (e ∈ s.board.entries ∧ e ≠ o) ∨
              e = { station := x, tote := T, weight := some W.toNat, holding := false,
                    age := 0 })))

/-- An accepted HOLD marks its pair holding with age 0, makes an entry without weight where there is room
and none where there is not, and takes the tote off the expected arrival list, as RETURN does; a HOLD of an
own lane tote raises DUPLICATE_TOTE (R62, R71, R75, R82). -/
def Obligations.HoldAndReturnFrames : Prop :=
  ∀ (x : StationNo) (T : ToteNo) (s : State), s.bus.rxOn = true → s.bus.ownStation ≠ some x →
    isProduct s.conf T = true →
    (∃ t, exec (.returnFrame x T) s = .next t ∧
      t = { s.lineIdled with tracker := { s.tracker with
        eal := s.tracker.eal.filter fun e => decide (e.tote ≠ T) } }) ∧
    ∃ t, exec (.holdFrame x T) s = .next t ∧ SameExcept [.board, .tracker, .notices] s.lineIdled t ∧
      t.tracker = { s.tracker with
        eal := s.tracker.eal.filter fun e => decide (e.tote ≠ T) } ∧
      (s.inOwnLane T = true → RaisedOnce .duplicateTote T s t) ∧
      (s.inOwnLane T = false → t.notices = s.notices) ∧
      t.board.stations = s.board.stations ∧ t.board.refreshCount = s.board.refreshCount ∧
      (∀ e, e ∈ t.board.entries ↔
        (e ∈ s.board.entries ∧ ¬ (e.station = x ∧ e.tote = T)) ∨
        (∃ o ∈ s.board.entries, o.station = x ∧ o.tote = T ∧
          e = { o with holding := true, age := 0 }) ∨
        ((∀ o ∈ s.board.entries, ¬ (o.station = x ∧ o.tote = T)) ∧
          s.board.entries.length < 64 ∧
          e = { station := x, tote := T, weight := none, holding := true, age := 0 })) ∧
      (t.board.crowded = true ↔ s.board.crowded = true ∨
        (64 ≤ s.board.entries.length ∧
          ∀ o ∈ s.board.entries, ¬ (o.station = x ∧ o.tote = T)))

/-- An accepted RELEASE clears its pair's holding and removes an entry left without a weight (R72). A
RELEASE and an INFEED of a tote outside the own lane are predicted at the reader: count + dist(p → P_r), the
lap counted where P_r < p, the reference KNOWN at the bench time (R80); a prediction that is past by more
than the window is moved on by one lap, and placed unless it is past again (R79). In a list of 32 others
EAL_CROWDED is set, and the prediction takes the place of the farthest entry where it is nearer (R81). For
an own lane tote they raise DUPLICATE_TOTE and predict nothing (R62). -/
def Obligations.ReleaseAndInfeedFrames : Prop :=
  ∀ (x : StationNo) (T : ToteNo) (a : Announcement) (cls : TempClass) (s : State),
    s.bus.rxOn = true → s.bus.ownStation ≠ some x → isProduct s.conf T = true →
    a.cls = classCode cls → a.position.toNat < s.conf.loopLen → s.conf.pR < s.conf.loopLen →
    let d := (s.conf.pR + s.conf.loopLen - a.position.toNat) % s.conf.loopLen
    let e := a.count + BitVec.ofNat 16 d
    let k := if s.conf.pR < a.position.toNat then min 255 (a.laps.toNat + 1) else a.laps.toNat
    ∃ t u, exec (.releaseFrame x T a) s = .next t ∧ exec (.infeedFrame x T a) s = .next u ∧
      SameExcept [.board, .tracker, .notices] s.lineIdled t ∧
      SameExcept [.tracker, .notices] s.lineIdled u ∧
      t.tracker = u.tracker ∧ t.notices = u.notices ∧
      t.board.stations = s.board.stations ∧ t.board.crowded = s.board.crowded ∧
      t.board.refreshCount = s.board.refreshCount ∧
      (∀ i, i ∈ t.board.entries ↔
        (i ∈ s.board.entries ∧ ¬ (i.station = x ∧ i.tote = T)) ∨
        ∃ o ∈ s.board.entries, o.station = x ∧ o.tote = T ∧ o.weight.isSome = true ∧
          i = { o with holding := false }) ∧
      (s.inOwnLane T = true → u.tracker = s.tracker ∧ RaisedOnce .duplicateTote T s u) ∧
      (s.inOwnLane T = false →
        u.notices = s.notices ∧
        (∀ p : EalEntry,
          (signed16 (s.count - e) ≤ (s.conf.wWin : Int) ∧
              p = { tote := T, expected := e, cls := cls,
                    cold := .known a.coldUsed.toNat s.clock, laps := k }) ∨
            ((s.conf.wWin : Int) < signed16 (s.count - e) ∧
              signed16 (s.count - (e + BitVec.ofNat 16 s.conf.loopLen)) ≤ (s.conf.wWin : Int) ∧
              p = { tote := T, expected := e + BitVec.ofNat 16 s.conf.loopLen, cls := cls,
                    cold := .known a.coldUsed.toNat s.clock, laps := min 255 (k + 1) }) →
          u.tracker = { s.tracker with eal := u.tracker.eal, crowded := u.tracker.crowded } ∧
          (s.tracker.eal.length < 32 ∨ (∃ i ∈ s.tracker.eal, i.tote = T) →
            u.tracker.crowded = s.tracker.crowded ∧
            ∀ i, i ∈ u.tracker.eal ↔ (i ∈ s.tracker.eal ∧ i.tote ≠ T) ∨ i = p) ∧
          (∀ far near, s.tracker.eal = near ++ [far] → 32 ≤ s.tracker.eal.length →
            (∀ i ∈ s.tracker.eal, i.tote ≠ T) →
            u.tracker.crowded = true ∧
            (signed16 (p.expected - s.count) < signed16 (far.expected - s.count) →
              ∀ i, i ∈ u.tracker.eal ↔ i ∈ near ∨ i = p) ∧
            (signed16 (far.expected - s.count) ≤ signed16 (p.expected - s.count) →
              u.tracker.eal = s.tracker.eal))) ∧
        ((s.conf.wWin : Int) < signed16 (s.count - e) →
          (s.conf.wWin : Int) < signed16 (s.count - (e + BitVec.ofNat 16 s.conf.loopLen)) →
          u.tracker = s.tracker))

/-- A send attempt begins at a line that is idle, or becomes so as the 12 bits of a gap pass, with the
slot's frame or else with the head of the queue, the oldest frame of the lowest line class, moved into the
slot; the frame's bits are then on the line (R51, R53, R56). With a frame on the line it waits, and nothing
begins with nothing to send, an attempt in progress or the transmitter OFF or LISTEN_ONLY (R51, R63). That
the command lets the 12 bits pass is log 7. -/
def Obligations.SendAttempts : Prop :=
  ∀ s : State,
    (s.bus.line = .frame → exec .sendAttempt s = .next s) ∧
    ((s.bus.tx = .off ∨ s.bus.tx = .listenOnly ∨ s.bus.attempting = true ∨
        (s.bus.slot = none ∧ s.bus.queue = [])) →
      exec .sendAttempt s = .next { s with bus := { s.bus with
        line := if s.bus.rxOn = true ∧ s.bus.line = .gap then .idle else s.bus.line } }) ∧
    ((s.bus.tx = .on ∨ s.bus.tx = .closing) → s.bus.attempting = false →
      (s.bus.line = .idle ∨ s.bus.line = .gap ∧ s.bus.rxOn = true) →
      (∀ x, s.bus.slot = some x →
        exec .sendAttempt s = .next { s with bus :=
          { s.bus with
            attempting := true, line := .frame, meant := frameBits x.frame, driven := [] } }) ∧
      (∀ f, s.bus.slot = none → f ∈ s.bus.queue →
        (∀ g ∈ s.bus.queue, f.body.lineClass ≤ g.body.lineClass) →
        (s.bus.queue.find? fun g => decide (g.body.lineClass = f.body.lineClass)) = some f →
        (∀ g ∈ s.bus.queue, 1 ≤ g.body.lineClass) →
        exec .sendAttempt s = .next { s with bus :=
          { s.bus with
            attempting := true
            line := .frame
            meant := frameBits f
            driven := []
            slot := some { frame := f, attempts := 0 }
            queue := s.bus.queue.erase f } }))

/-- The end of an attempt, from the bits read back (R52, R53). While every bit has matched and bits are
left, it goes on. With the last bit matched it is SENT, the slot is emptied, and the line stays busy for 12
bits. At the first bit read back otherwise it is LOST and nothing is driven after that bit: the sixteenth
LOST abandons the frame, an earlier one keeps it unless its key is queued again. A released 1 of the
arbitration byte read back as 0 is lost arbitration, and leaves the line to the winner's frame; of two
stations that begin together the one with the lower arbitration byte is the one that matches (R51). A slot
that RESTART has marked is emptied whatever the outcome, with no notice (R64, log 21). -/
def Obligations.AttemptEnds : Prop :=
  (∀ s : State,
    (s.bus.attempting = false → ∀ r, exec (.attemptEnd r) s = .next s) ∧
    (∀ r rest, s.bus.meant = r ++ rest → rest ≠ [] → exec (.attemptEnd r) s = .next s) ∧
    (∀ x r, s.bus.slot = some x → s.bus.attempting = true →
      let off (driven : List Bool) (line : Traffic) : Bus :=
        { s.bus with
          attempting := false, meant := [], driven := driven, line := line, slotDoomed := false }
      let emptied (b : Bus) : Bus :=
        { b with
          slot := none
          tx := if b.tx = .closing ∧ b.queue = [] then .listenOnly else b.tx }
      (∀ more, r = s.bus.meant ++ more →
        exec (.attemptEnd r) s = .next { s with bus := emptied (off s.bus.meant .gap) }) ∧
      (∀ (a after more : List Bool) (m : Bool), s.bus.meant = a ++ m :: after →
        r = a ++ (!m) :: more →
        let b := off (a ++ [m])
          (if 1 ≤ a.length ∧ a.length ≤ 8 ∧ m = true then .frame else .gap)
        (s.bus.slotDoomed = true → exec (.attemptEnd r) s = .next { s with bus := emptied b }) ∧
        (s.bus.slotDoomed = false → 16 ≤ x.attempts + 1 →
          ∃ t, exec (.attemptEnd r) s = .next t ∧ SameExcept [.bus, .notices] s t ∧
            t.bus = emptied b ∧ RaisedOnce .frameAbandoned x.frame.tote s t) ∧
        (s.bus.slotDoomed = false → x.attempts + 1 < 16 →
          (∃ f ∈ s.bus.queue, frameKey f = frameKey x.frame) →
          exec (.attemptEnd r) s = .next { s with bus := emptied b }) ∧
        (s.bus.slotDoomed = false → x.attempts + 1 < 16 →
          (∀ f ∈ s.bus.queue, frameKey f ≠ frameKey x.frame) →
          exec (.attemptEnd r) s = .next { s with bus :=
            { b with slot := some { x with attempts := x.attempts + 1 } } })))) ∧
  ∀ (f g : Frame), f.arbitrationByte.toNat < g.arbitrationByte.toNat →
    let level := lineLevel (characterBits f.arbitrationByte) (characterBits g.arbitrationByte)
    (∃ rest, frameBits f = level ++ rest) ∧
    ∃ a after more, frameBits g = a ++ true :: after ∧ level = a ++ false :: more ∧
      1 ≤ a.length ∧ a.length ≤ 8

/-! ### The reader and the divert decision -/

/-- The first look at a reader event: a service number, and a failed read that no single expected entry
within the window of a LOCKED tracker names, change nothing (R86, R88, R97); a product number already in the
own lane, and not expected, raises DUPLICATE_TOTE and is not added (R98). -/
def Obligations.ReaderEventPassedAtOnce : Prop :=
  ∀ s : State, s.mode ≠ .unconfigured → OutputsLaw s → AbleLaw s →
    (∀ n : ToteNo, toteKind s.conf n = .service → exec (.readerEvent (.label n)) s = .next s) ∧
    (∀ r : ReaderReport,
      (r = .noRead ∨ ∃ n, r = .label n ∧
        (toteKind s.conf n = .unknown ∨ toteKind s.conf n = .nonCanonical)) →
      (s.tracker.lock ≠ .locked ∨
        (∀ e ∈ s.tracker.eal, (s.conf.wWin : Int) < |signed16 (s.count - e.expected)|) ∨
        ∃ a e b f c, s.tracker.eal = a ++ e :: b ++ f :: c ∧
          |signed16 (s.count - e.expected)| ≤ (s.conf.wWin : Int) ∧
          |signed16 (s.count - f.expected)| ≤ (s.conf.wWin : Int)) →
      exec (.readerEvent r) s = .next s) ∧
    (∀ T : ToteNo, toteKind s.conf T = .product → s.inOwnLane T = true →
      (∀ e ∈ s.tracker.eal, e.tote ≠ T) →
      ∃ t, exec (.readerEvent (.label T)) s = .next t ∧ SameExcept [.board, .notices] s t ∧
        RaisedOnce .duplicateTote T s t ∧
        ∀ i, i ∈ t.board.entries ↔
          (i ∈ s.board.entries ∧ i.tote ≠ T) ∨
          ∃ o ∈ s.board.entries, o.tote = T ∧ o.weight.isSome = true ∧
            i = { o with holding := false })

/-- The decision for an unmatched good read of a product tote outside the own lane. In SWEEPING, DRAINING
and REST, without a weight, and at a bench that is not able, it is passed (R97, R99, R100). A wanted tote at
an able bench is taken where W + G ≥ Wr or on last call, with one divert command and a record of the read,
and passed otherwise (R76, R101, R103). A passed tote is expected one lap on (R84, R102), and either way it
is a sighting (R73). The new able and its STATE follow the number of queue records (R147). -/
def Obligations.TakeTest : Prop :=
  ∀ (s : State) (T : ToteNo), s.mode ≠ .unconfigured → OutputsLaw s → AbleLaw s →
    toteKind s.conf T = .product → s.inOwnLane T = false → (∀ e ∈ s.tracker.eal, e.tote ≠ T) →
    let sighted (t : State) : Prop := t.board.stations = s.board.stations ∧
      ∀ i, i ∈ t.board.entries ↔ (i ∈ s.board.entries ∧ i.tote ≠ T) ∨
        ∃ o ∈ s.board.entries, o.tote = T ∧ o.weight.isSome = true ∧
          i = { o with holding := false }
    let passed : Prop := ∃ t, exec (.readerEvent (.label T)) s = .next t ∧
      SameExcept [.board, .tracker] s t ∧ sighted t ∧
      (s.tracker.eal.length < 32 →
        signed16 (s.count - (s.count + BitVec.ofNat 16 s.conf.loopLen)) ≤ (s.conf.wWin : Int) →
        t.tracker = { s.tracker with eal := t.tracker.eal } ∧
        ∀ i, i ∈ t.tracker.eal ↔ i ∈ s.tracker.eal ∨
          i = { tote := T, expected := s.count + BitVec.ofNat 16 s.conf.loopLen,
                cls := .ambient, cold := .unknown s.clock, laps := 0 })
    (s.mode ≠ .active → passed) ∧
    (s.weightOf T = none → passed) ∧
    (s.modeCtl.able = false → passed) ∧
    ∀ W, s.mode = .active → s.modeCtl.able = true → s.weightOf T = some W →
    ((∀ i ∈ s.board.entries, i.tote = T → s.board.stations[i.station].heard = true →
        s.board.stations[i.station].able = true → ∀ v, i.weight = some v → v ≤ W + s.conf.g) ∨
      s.conf.lapLimit ≤ 1 →
      ∃ t, exec (.readerEvent (.label T)) s = .next t ∧
        SameExcept ([.board, .divert] ++ settleBlocks) s t ∧ sighted t ∧
        t.divert.records = s.divert.records ++
          [{ tote := T, readCount := s.count, takeTime := s.clock, entry := none }] ∧
        t.divert.commands = s.divert.commands + 1 ∧
        t.lane = s.lane ∧
        t.modeCtl.able = decide
          (s.divert.records.length + s.lane.queue.length + 1 < s.conf.c) ∧
        (s.divert.records.length + s.lane.queue.length + 1 < s.conf.c →
          t.bus = s.bus ∧ t.notices = s.notices) ∧
        (s.conf.c ≤ s.divert.records.length + s.lane.queue.length + 1 → s.bus.tx = .on →
          s.bus.queue.length < 16 → ∃ f ∈ t.bus.queue, f.tote = 0 ∧ f.body = .state 0)) ∧
    ((∃ i ∈ s.board.entries, i.tote = T ∧ s.board.stations[i.station].heard = true ∧
        s.board.stations[i.station].able = true ∧ ∃ v, i.weight = some v ∧ W + s.conf.g < v) →
      1 < s.conf.lapLimit →
      passed)

/-- A good read of an expected tote consumes its entry, offers the deviation and gives the lock a match
within the window or a failure beyond it; passed in DRAINING, SWEEPING and REST, without a weight or at
a bench that is not able, the tote is expected one lap on with its class, reference and laps + 1 (R84,
R87, R90, R91, R94, R97, R99, R100, R102). A failed read in LOCKED with exactly one entry within the
window takes that entry's tote as its identity, consumes the entry and touches neither the lock nor the
deviation (R88). -/
def Obligations.MatchedReadIsPassed : Prop :=
  ∀ (s : State) (e : EalEntry), s.mode ≠ .unconfigured →
    (s.mode ≠ .active ∨ s.weightOf e.tote = none ∨ s.modeCtl.able = false) → OutputsLaw s →
    AbleLaw s → s.inOwnLane e.tote = false → e ∈ s.tracker.eal →
    (s.tracker.eal.map EalEntry.tote).Nodup → s.tracker.eal.length ≤ 32 →
    signed16 (s.count - (s.count + BitVec.ofNat 16 s.conf.loopLen)) ≤ (s.conf.wWin : Int) →
    let passed (t : State) : Prop := ∀ i, i ∈ t.tracker.eal ↔
      (i ∈ s.tracker.eal ∧ i.tote ≠ e.tote) ∨
      i = { tote := e.tote, expected := s.count + BitVec.ofNat 16 s.conf.loopLen, cls := e.cls,
            cold := e.cold, laps := min 255 (e.laps + 1) }
    (∀ r : ReaderReport,
      (r = .noRead ∨ ∃ n, r = .label n ∧
        (toteKind s.conf n = .unknown ∨ toteKind s.conf n = .nonCanonical)) →
      s.tracker.lock = .locked → |signed16 (s.count - e.expected)| ≤ (s.conf.wWin : Int) →
      (∀ f ∈ s.tracker.eal, f ≠ e → (s.conf.wWin : Int) < |signed16 (s.count - f.expected)|) →
      ∃ t, exec (.readerEvent r) s = .next t ∧ SameExcept [.board, .tracker] s t ∧ passed t ∧
        t.tracker = { s.tracker with eal := t.tracker.eal } ∧
        ∀ i, i ∈ t.board.entries ↔ (i ∈ s.board.entries ∧ i.tote ≠ e.tote) ∨
          ∃ o ∈ s.board.entries, o.tote = e.tote ∧ o.weight.isSome = true ∧
            i = { o with holding := false }) ∧
    (toteKind s.conf e.tote = .product →
    ∃ t, exec (.readerEvent (.label e.tote)) s = .next t ∧
      SameExcept [.board, .tracker, .notices] s t ∧ passed t ∧
      t.tracker.maxDev = max s.tracker.maxDev (signed16 (s.count - e.expected)).natAbs ∧
      t.tracker.windowCount = s.tracker.windowCount ∧ t.tracker.speed = s.tracker.speed ∧
      (|signed16 (s.count - e.expected)| ≤ (s.conf.wWin : Int) →
        t.notices = s.notices ∧ t.tracker.attempts ≤ s.tracker.attempts ∧
        (s.tracker.lock = .seeking → t.tracker.lock = .confirming ∧ t.tracker.run = 1 ∧
          t.tracker.attempts = s.tracker.attempts) ∧
        (s.tracker.lock = .confirming → s.tracker.run + 1 < s.conf.lockRun →
          t.tracker.lock = .confirming ∧ t.tracker.run = s.tracker.run + 1) ∧
        (s.tracker.lock = .confirming → s.conf.lockRun ≤ s.tracker.run + 1 →
          t.tracker.lock = .locked ∧ t.tracker.run = s.conf.lockRun ∧ t.tracker.attempts = 0 ∧
          t.tracker.misses = 0) ∧
        (s.tracker.lock = .locked → t.tracker.lock = .locked ∧ t.tracker.misses = 0) ∧
        (s.tracker.lock = .faulted → t.tracker.lock = .faulted)) ∧
      ((s.conf.wWin : Int) < |signed16 (s.count - e.expected)| →
        (s.tracker.lock = .locked → s.tracker.misses + 1 < s.conf.missLimit →
          t.tracker.lock = .locked ∧ t.tracker.misses = s.tracker.misses + 1) ∧
        (s.tracker.lock = .locked → s.conf.missLimit ≤ s.tracker.misses + 1 →
          t.tracker.lock = .seeking ∧ t.tracker.misses = 0 ∧
          RaisedOnce .trackLost e.tote s t) ∧
        (s.tracker.lock = .seeking ∨ s.tracker.lock = .confirming →
          s.tracker.attempts + 1 < s.conf.attemptLimit →
          t.tracker.lock = .seeking ∧ t.tracker.run = 0 ∧
          t.tracker.attempts = s.tracker.attempts + 1 ∧ t.notices = s.notices) ∧
        (s.tracker.lock = .seeking ∨ s.tracker.lock = .confirming →
          s.conf.attemptLimit ≤ s.tracker.attempts + 1 →
          t.tracker.lock = .faulted ∧ t.tracker.run = 0 ∧
          t.tracker.attempts = s.conf.attemptLimit ∧ RaisedOnce .trackFault e.tote s t) ∧
        (s.tracker.lock = .faulted → t.tracker.lock = .faulted ∧ t.notices = s.notices)))

/-- At an able bench in ACTIVE a wanted tote that the tracker expected is taken where W + G ≥ Wr, or on last
call by its entry's laps, and passed otherwise (R99 to R103). A take consumes the entry and keeps its class,
reference and laps in the divert record, an UNKNOWN reference stamped with the take time (R89, R96); a pass
expects the tote one lap on with its laps + 1 (R84). The identity comes from a good read, which moves the
lock and the deviation (R87, R90, R91), or by position in LOCKED, which does not (R88). Every expected
arrival is a product number (R78), and that is the premise on the entry. -/
def Obligations.ExpectedToteInActive : Prop :=
  ∀ (s : State) (e : EalEntry) (W : Nat) (r : ReaderReport), s.mode = .active → OutputsLaw s →
    AbleLaw s → s.modeCtl.able = true → s.inOwnLane e.tote = false → e ∈ s.tracker.eal →
    (s.tracker.eal.map EalEntry.tote).Nodup → s.tracker.eal.length ≤ 32 →
    s.weightOf e.tote = some W → toteKind s.conf e.tote = .product →
    (r = .label e.tote ∨
      (r = .noRead ∨ ∃ n, r = .label n ∧
        (toteKind s.conf n = .unknown ∨ toteKind s.conf n = .nonCanonical)) ∧
        s.tracker.lock = .locked ∧ |signed16 (s.count - e.expected)| ≤ (s.conf.wWin : Int) ∧
        ∀ f ∈ s.tracker.eal, f ≠ e →
          (s.conf.wWin : Int) < |signed16 (s.count - f.expected)|) →
    let settled (t : State) : Prop :=
      (r ≠ .label e.tote → t.tracker = { s.tracker with eal := t.tracker.eal }) ∧
      (r = .label e.tote →
        t.tracker.maxDev = max s.tracker.maxDev (signed16 (s.count - e.expected)).natAbs ∧
        (s.tracker.lock = .locked →
          |signed16 (s.count - e.expected)| ≤ (s.conf.wWin : Int) →
          t.tracker.lock = .locked ∧ t.tracker.misses = 0) ∧
        (s.tracker.lock = .locked →
          (s.conf.wWin : Int) < |signed16 (s.count - e.expected)| →
          s.tracker.misses + 1 < s.conf.missLimit →
          t.tracker.lock = .locked ∧ t.tracker.misses = s.tracker.misses + 1) ∧
        (s.tracker.lock = .seeking →
          |signed16 (s.count - e.expected)| ≤ (s.conf.wWin : Int) →
          t.tracker.lock = .confirming ∧ t.tracker.run = 1))
    ((∀ i ∈ s.board.entries, i.tote = e.tote → s.board.stations[i.station].heard = true →
        s.board.stations[i.station].able = true → ∀ v, i.weight = some v → v ≤ W + s.conf.g) ∨
      s.conf.lapLimit ≤ e.laps + 1 →
      ∃ t, exec (.readerEvent r) s = .next t ∧
        SameExcept ([.board, .tracker, .divert] ++ settleBlocks) s t ∧ settled t ∧
        t.tracker.eal = s.tracker.eal.filter (fun i => decide (i.tote ≠ e.tote)) ∧
        t.divert.records = s.divert.records ++
          [{ tote := e.tote, readCount := s.count, takeTime := s.clock
             entry := some
              { cls := e.cls
                cold := (match e.cold with
                  | .known used time => .known used time
                  | .unknown _ => .unknown s.clock)
                laps := e.laps } }] ∧
        t.divert.commands = s.divert.commands + 1 ∧ t.lane = s.lane ∧
        t.modeCtl.able = decide
          (s.divert.records.length + s.lane.queue.length + 1 < s.conf.c) ∧
        (s.divert.records.length + s.lane.queue.length + 1 < s.conf.c →
          t.bus = s.bus ∧ (r ≠ .label e.tote → t.notices = s.notices))) ∧
    ((∃ i ∈ s.board.entries, i.tote = e.tote ∧ s.board.stations[i.station].heard = true ∧
        s.board.stations[i.station].able = true ∧ ∃ v, i.weight = some v ∧ W + s.conf.g < v) →
      e.laps + 1 < s.conf.lapLimit →
      signed16 (s.count - (s.count + BitVec.ofNat 16 s.conf.loopLen)) ≤ (s.conf.wWin : Int) →
      ∃ t, exec (.readerEvent r) s = .next t ∧ SameExcept [.board, .tracker, .notices] s t ∧
        settled t ∧ (r ≠ .label e.tote → t.notices = s.notices) ∧
        ∀ i, i ∈ t.tracker.eal ↔ (i ∈ s.tracker.eal ∧ i.tote ≠ e.tote) ∨
          i = { tote := e.tote, expected := s.count + BitVec.ofNat 16 s.conf.loopLen, cls := e.cls,
                cold := e.cold, laps := min 255 (e.laps + 1) })

/-! ### The lane -/

/-- ENTRY_SEEN completes the oldest divert record into the newest queued record, in every configured mode:
its class as R30 and R104 give it, its reference and laps, its urgent flag (R47, R48), and the Cold
Monitor's working of it with COLD_ALERT, or COLD_BREACH and its lines HELD (R121, R122); HOLD is requested
(R104). With no record in flight it makes a tote-0 record where there is room, and otherwise jams the lane
at the entry sensor unless it is jammed already (R105, R126). In ACTIVE and DRAINING an EMPTY face is then
filled from the queue with its new record (R112; an ARRIVING record's stage is log 11, the head wait log
23). The order of that work is log 18. -/
def Obligations.EntrySeen : Prop :=
  ∀ s : State, s.mode ≠ .unconfigured → OutputsLaw s → AbleLaw s → s.bus.tx = .on →
    s.bus.queue.length < 15 → OwnLaneLaw s →
    let kept (queue : List LaneRec) (t : State) : Prop :=
      t.lane.queue = queue ∧ t.lane.face = s.lane.face ∧ t.lane.faceRec = s.lane.faceRec ∧
        t.lane.parkRec = s.lane.parkRec
    let after (queue : List LaneRec) (t : State) : Prop :=
      (s.lane.face ≠ .empty ∨ s.lane.jam ≠ none → kept queue t) ∧
      (s.lane.face = .empty → s.lane.jam = none → Filled queue s t)
    (∀ d rest, s.divert.records = d :: rest → d.tote ≠ 0 →
      (s.lane.face ≠ .presenting ∨ s.lane.queue ≠ []) →
      (s.lane.face ≠ .empty ∨ s.mode = .active ∨ s.mode = .draining) →
      ∃ t q, exec .entrySeen s = .next t ∧ SameExcept (commandBlocks .entrySeen) s t ∧
        t.divert.records = rest ∧ t.divert.commands = s.divert.commands ∧
        after (s.lane.queue ++ [q]) t ∧ q.tote = d.tote ∧ ClassOfDivert s d q.cls ∧
        q.cold = (d.entry.map EntryPart.cold).getD (.unknown d.takeTime) ∧
        q.laps = (d.entry.map EntryPart.laps).getD 0 ∧ q.stage = .queued ∧
        q.refusalMark = false ∧ q.savedTag = none ∧
        t.mode = s.mode ∧ t.modeCtl.sweepReturn = s.modeCtl.sweepReturn ∧
        t.modeCtl.able = decide (s.mode = .active ∧ s.lane.jam = none ∧
          rest.length + t.lane.queue.length < s.conf.c) ∧
        lineFacts t.demand.lines = lineFacts s.demand.lines ∧
        { sender := s.bus.ownStation.getD 0, tote := d.tote, body := .hold } ∈ t.bus.queue ∧
        (let rem := coldRemaining s.conf q.cls q.cold s.clock
         let margin : Int := alertMargin s.conf q.cls
         let slack := s.conf.urgentSlack
         (q.urgent = true ↔ q.cls ≠ .ambient ∧ rem ≤ margin ∨
           ∃ l ∈ s.demand.lines, l.tote = d.tote ∧ l.state = .waiting ∧ l.prio = .express ∧
             ∃ u, deadlineOf s.puts l.handle = some u ∧ timeTo u s.clock ≤ (slack : Int)) ∧
         (q.alertMark = true ↔
           q.cls ≠ .ambient ∧ 0 < rem ∧ rem ≤ margin ∧ q.cold.isKnown = true) ∧
         (q.breachMark = true ↔ q.cls ≠ .ambient ∧ rem ≤ 0)) ∧
        (q.alertMark = false → q.breachMark = false →
          t.demand = s.demand ∧ t.puts = s.puts ∧ t.picker = s.picker ∧ t.notices = s.notices) ∧
        (q.alertMark = true → t.demand = s.demand ∧ t.puts = s.puts ∧ t.picker = s.picker ∧
          RaisedOnce .coldAlert d.tote s t) ∧
        (q.breachMark = true →
          t.notices.sources[NoticeSource.coldBreach.index].pending = true ∧
          ∀ l ∈ s.demand.lines, l.tote = d.tote →
            (l.state = .waiting ∨ l.state = .active ∨ l.state = .suspended) →
            { l with state := .held } ∈ t.demand.lines)) ∧
    (s.mode ≠ .rest → s.divert.records = [] → s.lane.queue.length < s.conf.c →
      (s.lane.face ≠ .empty ∨ s.mode = .active ∨ s.mode = .draining) →
      ∃ t q, exec .entrySeen s = .next t ∧ SameExcept (commandBlocks .entrySeen) s t ∧
        after (s.lane.queue ++ [q]) t ∧ q.tote = 0 ∧ q.cls = .ambient ∧ q.laps = 0 ∧
        q.cold = .unknown s.clock ∧ q.urgent = false ∧ t.demand = s.demand ∧ t.mode = s.mode ∧
        t.notices = s.notices ∧ (∀ f ∈ t.bus.queue, f ∈ s.bus.queue ∨ ∃ a, f.body = .state a)) ∧
    (s.divert.records = [] → s.conf.c ≤ s.lane.queue.length →
      ∃ t, exec .entrySeen s = .next t ∧ SameExcept (commandBlocks .entrySeen) s t ∧
        kept s.lane.queue t ∧
        (s.lane.jam = none → t.lane.jam = some .entry ∧ t.lane.drives = .off ∧
          RaisedOnce .laneJam 1 s t) ∧
        (s.lane.jam ≠ none → t.lane.jam = s.lane.jam ∧ t.notices = s.notices))

/-- A stray entry in REST makes the tote-0 queued record, sets the sweep return to REST and enters SWEEPING:
the transmitter ON, MODE_CHANGED, STATE(able = no) (R63, R105, R148, R153). The sweep then fills the face,
first with what another sensor finds; with the other sensors clear it waits for the record at the head
sensor, or takes it to the face where the head sensor is blocked (R112, R124, R128; log 11 and log 23). An
entry in SWEEPING adds its tote-0 record to the sweep in the same way (R105). The premises on the lane are
what REST leaves, and the entry sensor blocked keeps the lane from being clear (R123, R152). -/
def Obligations.StrayEntryIsSwept : Prop :=
  ∀ s : State, s.mode = .rest ∨ s.mode = .sweeping → s.divert.records = [] →
    s.lane.queue = [] → s.lane.parkRec = none → s.lane.face = .empty → s.lane.faceRec = none →
    s.lane.jam = none → s.lane.preempted = false → 0 < s.conf.c → s.bus.queue.length < 16 →
    OutputsLaw s → AbleLaw s →
    ∃ t q, exec .entrySeen s = .next t ∧ SameExcept (commandBlocks .entrySeen) s t ∧
      q.tote = 0 ∧ q.cls = .ambient ∧ q.laps = 0 ∧ q.cold = .unknown s.clock ∧
      t.mode = .sweeping ∧ t.modeCtl.able = false ∧ t.isBlocked .entry = true ∧
      t.demand = s.demand ∧ t.divert = s.divert ∧
      SweepFilled { s with lane := { s.lane with queue := [q], sensors := t.lane.sensors } } t ∧
      ((∀ x, x ≠ .entry → x ≠ .head → s.isBlocked x = false) →
        (s.isBlocked .head = false →
          t.lane.queue = [q] ∧ t.lane.face = .empty ∧ t.lane.waits.head ≠ none ∧
          t.lane.drives = .off) ∧
        (s.isBlocked .head = true →
          t.lane.queue = [] ∧ t.lane.face = .arriving ∧
          t.lane.faceRec.map LaneRec.tote = some 0 ∧ t.lane.waits.arrival = some 0 ∧
          t.lane.drives = { advance := true, transfer := .off, exit := false })) ∧
      (s.mode = .rest → s.bus.tx = .closing ∨ s.bus.tx = .listenOnly →
        t.modeCtl.sweepReturn = .rest ∧ t.bus.tx = .on ∧ RaisedOnce .modeChanged 1 s t ∧
        ∃ f ∈ t.bus.queue, f.tote = 0 ∧ f.body = .state 0) ∧
      (s.mode = .sweeping → t.modeCtl = s.modeCtl ∧ t.bus = s.bus ∧ t.notices = s.notices)

/-- The fill (R112). HEAD_BLOCKED and PARK_ARRIVED with an EMPTY face to fill, in ACTIVE or DRAINING in a
lane that is not jammed: after a park the queue head comes, and the parked tote waits; otherwise the parked
tote is resumed before the queue; the face is ARRIVING, the arrival wait begins, and the drive of its source
runs (R111, R117, R124). With neither, the face stays EMPTY. That the record keeps its stage, QUEUED or
PARK, until it arrives is the model's reading, log 11. -/
def Obligations.FaceIsFilled : Prop :=
  ∀ s : State, s.mode = .active ∨ s.mode = .draining → s.lane.jam = none →
    (∀ q rest, s.lane.face = .empty → s.lane.queue = q :: rest →
      (s.lane.preempted = true ∨ s.lane.parkRec = none) →
      ∃ t, exec .headBlocked s = .next t ∧ SameExcept settleBlocks s t ∧
        t.lane.face = .arriving ∧ t.lane.queue = rest ∧
        t.lane.faceRec = some { q with source := .queue } ∧ t.lane.parkRec = s.lane.parkRec ∧
        t.lane.waits.arrival = some 0 ∧ t.lane.waits.head = none ∧ t.lane.preempted = false ∧
        t.lane.drives = { advance := true, transfer := .off, exit := false } ∧
        t.modeCtl.able = decide (s.mode = .active ∧
          s.divert.records.length + rest.length < s.conf.c)) ∧
    (∀ q, s.lane.face = .empty → s.lane.parkRec = some q → s.lane.preempted = false →
      ∃ t, exec .headBlocked s = .next t ∧ SameExcept settleBlocks s t ∧
        t.lane.face = .arriving ∧ t.lane.queue = s.lane.queue ∧
        t.lane.faceRec = some { q with source := .park } ∧ t.lane.parkRec = none ∧
        t.lane.waits.arrival = some 0 ∧
        t.lane.drives = { advance := false, transfer := .towardFace, exit := false }) ∧
    (∀ q rest, s.lane.face = .parking → s.lane.queue = q :: rest → s.isBlocked .head = true →
      ∃ t, exec .parkArrived s = .next t ∧ SameExcept settleBlocks s t ∧
        t.lane.face = .arriving ∧ t.lane.queue = rest ∧
        t.lane.faceRec = some { q with source := .queue } ∧ t.lane.parkRec = s.lane.parkRec ∧
        t.lane.waits.park = none ∧ t.lane.waits.arrival = some 0) ∧
    (s.lane.face = .parking → s.lane.queue ≠ [] → s.isBlocked .head = false →
      ∃ t n, exec .parkArrived s = .next t ∧ SameExcept settleBlocks s t ∧
        t.lane.face = .empty ∧ t.lane.preempted = true ∧ t.lane.queue = s.lane.queue ∧
        t.lane.parkRec = s.lane.parkRec ∧ t.lane.waits.park = none ∧
        t.lane.waits.head = some n ∧ t.lane.drives = .off) ∧
    (s.lane.face = .parking → s.lane.queue = [] →
      ∃ t, exec .parkArrived s = .next t ∧ SameExcept settleBlocks s t ∧
        t.lane.face = .empty ∧ t.lane.preempted = true ∧ t.lane.parkRec = s.lane.parkRec ∧
        t.lane.waits.park = none ∧ t.lane.drives = .off) ∧
    (∀ q rest, s.lane.face ≠ .empty → s.lane.queue = q :: rest →
      ∃ t, exec .headBlocked s = .next t ∧ SameExcept settleBlocks s t ∧
        t.lane.face = s.lane.face ∧ t.lane.faceRec = s.lane.faceRec ∧
        t.lane.queue = s.lane.queue ∧ t.lane.waits.head = none ∧ t.isBlocked .head = true)

/-- FACE_ARRIVED while ARRIVING: a stray, a breached tote and a tote with no work are released without
presenting; a tote whose queue head is not urgent is presented with its SUSPENDED line, or its first
workable line, ACTIVE, lit at its order's position with the remaining quantity on the display; a tote from
the queue that is not urgent is parked at once where the queue head is urgent and the park is free (R23,
R113, R115, R116, R118, R131). The lane is not jammed and the mode is ACTIVE. -/
def Obligations.FaceArrived : Prop :=
  ∀ (s : State) (q : LaneRec), s.mode = .active → s.lane.jam = none → LinesLaw s →
    s.lane.face = .arriving → s.lane.faceRec = some q →
    ((q.tote = 0 ∨ laneStanding s.conf s.clock q = some .breached ∨
        ((∀ l ∈ s.demand.lines, l.tote = q.tote → l.state ≠ .suspended) ∧
          hasWorkable s.demand.lines s.puts q.tote = false)) →
      ∃ t, exec .faceArrived s = .next t ∧ SameExcept settleBlocks s t ∧
        t.lane.face = (if s.lane.gap = true then .leaving else .releasing) ∧
        (∃ p, t.lane.faceRec = some p ∧ p.tote = q.tote ∧ p.stage = .face ∧ p.mergeWait = 0 ∧
          p.stallMark = false) ∧
        t.lane.waits.arrival = none ∧ t.lane.queue = s.lane.queue) ∧
    (q.tote ≠ 0 → laneStanding s.conf s.clock q ≠ some .breached →
      ((∃ l ∈ s.demand.lines, l.tote = q.tote ∧ l.state = .suspended) ∨
        hasWorkable s.demand.lines s.puts q.tote = true) →
      s.lane.headUrgent = true → q.urgent = false → q.source = .queue → s.lane.parkRec = none →
      (∀ m ∈ s.demand.lines, m.state ≠ .active) →
      ∃ t, exec .faceArrived s = .next t ∧ SameExcept settleBlocks s t ∧
        t.lane.face = .parking ∧ t.lane.faceRec = none ∧
        t.lane.parkRec.map LaneRec.tote = some q.tote ∧ t.lane.queue = s.lane.queue ∧
        t.lane.waits.park = some 0 ∧ t.lane.waits.arrival = none ∧
        t.lane.drives = { advance := false, transfer := .towardPark, exit := false }) ∧
    (∀ l, s.lane.headUrgent = false → q.tote ≠ 0 →
      laneStanding s.conf s.clock q ≠ some .breached → l ∈ s.demand.lines →
      (s.demand.lines.find? (fun m => decide (m.state = .suspended ∧ m.tote = q.tote)) = some l ∨
        ((∀ m ∈ s.demand.lines, m.tote = q.tote → m.state ≠ .suspended) ∧
          s.demand.lines.find? (fun m => decide (m.tote = q.tote) &&
            isWorkable s.puts m) = some l)) →
      (∀ m ∈ s.demand.lines, m.state ≠ .active) →
      (∀ p ∈ s.lane.queue, p.tote ≠ q.tote) →
      ∃ t, exec .faceArrived s = .next t ∧ SameExcept (commandBlocks .faceArrived) s t ∧
        t.lane.face = .presenting ∧ t.lane.faceRec.map LaneRec.tote = some q.tote ∧
        t.demand.lines =
          s.demand.lines.map (fun m => if m.tag = l.tag then { m with state := .active } else m) ∧
        t.lane.waits.arrival = none ∧ t.lane.drives = .off ∧
        t.picker.active = positionOf s.puts l.handle ∧
        t.picker.putLight = positionOf s.puts l.handle ∧ t.picker.toteLight = true ∧
        t.picker.display = some (l.qty - l.puts) ∧ t.picker.settles = s.picker.settles ∧
        t.picker.beams = s.picker.beams)

/-- FACE_ARRIVED in SWEEPING releases every tote; in DRAINING it releases a tote without a SUSPENDED line,
and presents one from the park to finish that line (R113). In ACTIVE, where the queue head is urgent and the
park is occupied, PARK_REFUSED is raised once for that head, and the tote is presented (R115). A tote
presented with its ACTIVE line's put count at 0 is parked where the entering tote becomes an urgent queue
head: the line becomes SUSPENDED, its tag is saved, the lights go out and its position settles; a line that
has taken a put is not disturbed (R27, R115, R116, R132). -/
def Obligations.ArrivalsAndPreemption : Prop :=
  (∀ (s : State) (q : LaneRec), s.lane.jam = none → s.lane.face = .arriving →
    s.lane.faceRec = some q →
    (s.mode = .sweeping ∨ s.mode = .draining ∧
        (q.tote = 0 ∨ laneStanding s.conf s.clock q = some .breached ∨
          ∀ l ∈ s.demand.lines, l.tote = q.tote → l.state ≠ .suspended) →
      ∃ t, exec .faceArrived s = .next t ∧ SameExcept settleBlocks s t ∧
        t.lane.face = (if s.lane.gap = true then .leaving else .releasing) ∧
        (∃ p, t.lane.faceRec = some p ∧ p.tote = q.tote ∧ p.stage = .face ∧ p.mergeWait = 0 ∧
          p.stallMark = false) ∧
        t.lane.waits.arrival = none ∧ t.lane.queue = s.lane.queue ∧
        t.lane.parkRec = s.lane.parkRec) ∧
    (∀ l, s.mode = .draining → q.tote ≠ 0 →
      laneStanding s.conf s.clock q ≠ some .breached → LinesLaw s →
      s.demand.lines.find? (fun m => decide (m.state = .suspended ∧ m.tote = q.tote)) = some l →
      (∀ m ∈ s.demand.lines, m.state ≠ .active) →
      ∃ t, exec .faceArrived s = .next t ∧ SameExcept (commandBlocks .faceArrived) s t ∧
        t.lane.face = .presenting ∧ t.lane.faceRec.map LaneRec.tote = some q.tote ∧
        t.demand.lines =
          s.demand.lines.map (fun m => if m.tag = l.tag then { m with state := .active } else m) ∧
        t.picker.active = positionOf s.puts l.handle ∧ t.picker.toteLight = true ∧
        t.picker.display = some (l.qty - l.puts)) ∧
    (∀ h rest p, s.mode = .active → s.lane.queue = h :: rest → h.urgent = true →
      q.urgent = false → q.source = .queue → s.lane.parkRec = some p → q.tote ≠ 0 →
      laneStanding s.conf s.clock q ≠ some .breached →
      hasWorkable s.demand.lines s.puts q.tote = true →
      (∀ m ∈ s.demand.lines, m.state ≠ .active) →
      ∃ t, exec .faceArrived s = .next t ∧ SameExcept (commandBlocks .faceArrived) s t ∧
        t.lane.face = .presenting ∧ t.lane.faceRec.map LaneRec.tote = some q.tote ∧
        t.lane.parkRec.map LaneRec.tote = some p.tote ∧
        t.lane.queue.map LaneRec.tote = s.lane.queue.map LaneRec.tote ∧
        t.lane.queue.head?.map LaneRec.refusalMark = some true ∧
        (h.refusalMark = false →
          t.notices.sources[NoticeSource.parkRefused.index].pending = true ∧
          (s.notices.sources[NoticeSource.parkRefused.index].pending = false →
            t.notices.sources[NoticeSource.parkRefused.index].count = 1 ∧
            t.notices.sources[NoticeSource.parkRefused.index].detail = h.tote)) ∧
        (h.refusalMark = true →
          t.notices.sources[NoticeSource.parkRefused.index] =
            s.notices.sources[NoticeSource.parkRefused.index]))) ∧
  ∀ (s : State) (q : LaneRec) (l : Line) (d : DivertRec) (p : EntryPart) (rest : List DivertRec),
    s.mode = .active → s.lane.jam = none → s.lane.face = .presenting → s.lane.faceRec = some q →
    q.urgent = false → s.lane.queue = [] → s.lane.parkRec = none → LinesLaw s → PresentLaw s →
    OwnLaneLaw s → l ∈ s.demand.lines → l.state = .active → s.divert.records = d :: rest →
    d.entry = some p → p.cold.isKnown = true → p.cls ≠ .ambient → d.tote ≠ q.tote →
    0 < coldRemaining s.conf p.cls p.cold s.clock →
    coldRemaining s.conf p.cls p.cold s.clock ≤ (alertMargin s.conf p.cls : Int) →
    ∃ t, exec .entrySeen s = .next t ∧ SameExcept (commandBlocks .entrySeen) s t ∧
      t.lane.queue.map LaneRec.tote = [d.tote] ∧ t.lane.headUrgent = true ∧
      (l.puts = 0 →
        t.lane.face = .parking ∧ t.lane.faceRec = none ∧
        t.lane.parkRec = some { q with stage := .park, savedTag := some l.tag } ∧
        t.lane.waits.park = some 0 ∧
        t.lane.drives = { advance := false, transfer := .towardPark, exit := false } ∧
        { l with state := .suspended } ∈ t.demand.lines ∧
        (∀ m ∈ t.demand.lines, m.state ≠ .active) ∧
        t.picker.active = none ∧ t.picker.putLight = none ∧ t.picker.toteLight = false ∧
        t.picker.display = none ∧
        ∀ k, s.picker.active = some k → t.picker.settles[k] = some s.conf.settle) ∧
      (l.puts ≠ 0 →
        t.lane.face = .presenting ∧ t.lane.faceRec = some q ∧ t.demand.lines = s.demand.lines ∧
        t.picker = s.picker)

/-- MERGED while LEAVING removes the face record; a lane tote has RELEASE requested from the merge position
at the present count with its class, cold used and laps, the cold used of an UNKNOWN reference too, and is
expected from the merge (R46, R85, R119); a stray has neither. The EMPTY face is then filled: from the park
before the queue, from the queue where the head sensor is blocked, and otherwise it waits for it (R112,
R119); that a head wait already running goes on is log 23. A drain whose lane is empty goes to REST (R151),
and a sweep whose lane is clear to its sweep return (R152). The face tote stands nowhere else in the own
lane (R62, R104), as every step keeps. -/
def Obligations.Merged : Prop :=
  ∀ (s : State) (q : LaneRec), s.mode = .active ∨ s.mode = .draining ∨ s.mode = .sweeping →
    OutputsLaw s → AbleLaw s → OwnLaneLaw s → s.lane.face = .leaving → s.lane.faceRec = some q →
    s.lane.jam = none → s.lane.preempted = false → s.bus.tx = .on → s.bus.queue.length < 15 →
    ∃ t, exec .merged s = .next t ∧ SameExcept (commandBlocks .merged) s t ∧
      t.isBlocked .exit = false ∧ t.divert = s.divert ∧
      (s.mode ≠ .sweeping → t.lane.waits.merge = none) ∧
      (s.mode ≠ .sweeping → s.lane.queue = [] → s.lane.parkRec = none →
        t.lane.face = .empty ∧ t.lane.faceRec = none ∧ t.lane.drives = .off) ∧
      (s.mode ≠ .sweeping → ∀ p, s.lane.parkRec = some p →
        t.lane.face = .arriving ∧ t.lane.parkRec = none ∧ t.lane.queue = s.lane.queue ∧
        t.lane.faceRec.map (fun r => (r.tote, r.source)) = some (p.tote, .park) ∧
        t.lane.waits.arrival = some 0 ∧
        t.lane.drives = { advance := false, transfer := .towardFace, exit := false }) ∧
      (s.mode ≠ .sweeping → s.lane.parkRec = none → ∀ p rest, s.lane.queue = p :: rest →
        (s.isBlocked .head = true →
          t.lane.face = .arriving ∧ t.lane.queue = rest ∧
          t.lane.faceRec.map (fun r => (r.tote, r.source)) = some (p.tote, .queue) ∧
          t.lane.waits.arrival = some 0 ∧ t.lane.waits.head = none ∧
          t.lane.drives = { advance := true, transfer := .off, exit := false }) ∧
        (s.isBlocked .head = false →
          t.lane.face = .empty ∧ t.lane.faceRec = none ∧ t.lane.queue = s.lane.queue ∧
          t.lane.waits.head = some (s.lane.waits.head.getD 0))) ∧
      (s.mode = .active → t.mode = .active ∧ t.bus.tx = .on ∧ t.notices = s.notices) ∧
      (s.mode = .draining → s.lane.queue = [] → s.lane.parkRec = none → s.divert.records = [] →
        t.mode = .rest ∧ t.modeCtl.able = false ∧ RaisedOnce .modeChanged 4 s t) ∧
      (s.mode = .draining → s.lane.queue ≠ [] ∨ s.lane.parkRec ≠ none ∨ s.divert.records ≠ [] →
        t.mode = .draining ∧ t.notices = s.notices) ∧
      (s.mode = .sweeping → s.lane.queue = [] → s.lane.parkRec = none → s.divert.records = [] →
        (∀ x, x ≠ .exit → s.isBlocked x = false) →
        t.lane.face = .empty ∧ t.lane.faceRec = none ∧
        t.mode = (match s.modeCtl.sweepReturn with | .active => .active | .rest => .rest) ∧
        RaisedOnce .modeChanged
          (match s.modeCtl.sweepReturn with | .active => 2 | .rest => 4) s t) ∧
      (q.tote = 0 → t.tracker = s.tracker ∧
        ∀ f ∈ t.bus.queue, f ∈ s.bus.queue ∨ ∃ a, f.body = .state a) ∧
      (q.tote ≠ 0 →
        ∃ f ∈ t.bus.queue, ∃ a, f.tote = q.tote ∧ f.sender = s.bus.ownStation.getD 0 ∧
          f.body = .release a ∧ a.cls = classCode q.cls ∧ a.laps = BitVec.ofNat 8 q.laps ∧
          a.position = BitVec.ofNat 16 s.conf.pM ∧ a.count = s.count ∧
          (∀ used time, q.cold = .known used time →
            a.coldUsed.toNat = min 65535 (used + elapsed s.clock time)) ∧
          (∀ time, q.cold = .unknown time →
            a.coldUsed.toNat = (if q.cls = .ambient then 0 else
              min 65535
                (budget s.conf q.cls - alertMargin s.conf q.cls + elapsed s.clock time))) ∧
          (s.tracker.eal = [] → q.laps ≤ 255 → s.conf.pM < s.conf.loopLen →
            s.conf.pR < s.conf.loopLen → s.conf.loopLen ≤ 32767 →
            t.tracker.eal =
              [{ tote := q.tote
                 expected := s.count + BitVec.ofNat 16
                   ((s.conf.pR + s.conf.loopLen - s.conf.pM) % s.conf.loopLen)
                 cls := q.cls
                 cold := .known a.coldUsed.toNat s.clock
                 laps := if s.conf.pR < s.conf.pM then min 255 (q.laps + 1) else q.laps }]))

/-- A lane sensor that becomes blocked holds its level. In SWEEPING with an EMPTY face and no jam the face
is then filled, whatever the other sensors hold: a blocked face or exit sensor makes a stray that is
released at once, the park sensor one that is resumed from the park, and the head sensor one that comes to
the face where none is queued (R112, R125, R128; that an ARRIVING record keeps its stage is log 11, and the
head wait that goes on log 23). A sensor that becomes clear ends its time, and in SWEEPING a lane that is
then clear passes to the sweep return (R152). The event is taken as the change it names, whatever level was
held (log 4). -/
def Obligations.SensorsAndSweep : Prop :=
  ∀ s : State, s.mode ≠ .unconfigured →
    (∀ x : Sensor, x ≠ .entry →
      ∃ t, exec (.sensorBlocked x) s = .next t ∧ SameExcept (commandBlocks (.sensorBlocked x)) s t ∧
        t.isBlocked x = true ∧ (∀ y, y ≠ x → t.isBlocked y = s.isBlocked y) ∧
        (s.mode = .sweeping → s.lane.face = .empty → s.lane.jam = none → s.lane.preempted = false →
          t.mode = .sweeping ∧
          SweepFilled { s with lane := { s.lane with sensors := t.lane.sensors } } t)) ∧
    (∀ x : Sensor,
      ∃ t, exec (.sensorClear x) s = .next t ∧ SameExcept (commandBlocks (.sensorClear x)) s t ∧
        t.isBlocked x = false ∧ (∀ y, y ≠ x → t.isBlocked y = s.isBlocked y) ∧
        (sensorOf t.lane.sensors x).time = none ∧
        (s.mode = .sweeping → s.laneEmpty = true → s.lane.jam = none →
          (∀ y, y ≠ x → s.isBlocked y = false) →
          t.mode = (match s.modeCtl.sweepReturn with | .active => .active | .rest => .rest) ∧
          t.notices.sources[NoticeSource.modeChanged.index].pending = true))

/-! ### Picking -/

/-- The tests of a beam break, in R133's order: a stuck beam is ignored; a settling position raises
OVER_PUT; a break away from the active position, or with no ACTIVE line, raises WRONG_PUT (R139); a break at
the active position counts one put, and shows the new remaining quantity (R134) or ends the line DONE with
LINE_DONE (R24). At that line boundary the order is re-evaluated, with ORDER_READY where it becomes ready
(R34, R135), and the mode test, the preemption check and the next line follow: the tote is released in
DRAINING and where it has no line, parked or refused the park for an urgent queue head, and otherwise its
next line becomes ACTIVE (R114 to R116, R135). A line made ACTIVE that is the tote's last workable one takes
the want record with it: DROP is requested (R23, R29). -/
def Obligations.BeamBreak : Prop :=
  ∀ (s : State) (k : PutIdx), s.mode ≠ .unconfigured →
    (s.picker.beams[k].stuck = true →
      ∃ t, exec (.beamBreak k) s = .next t ∧ SameExcept [.picker] s t ∧
        t.picker.beams[k] = { s.picker.beams[k] with blocked := true } ∧
        t.picker.settles = s.picker.settles ∧ t.picker.active = s.picker.active ∧
        t.picker.display = s.picker.display) ∧
    (s.picker.beams[k].stuck = false →
      ∃ t, exec (.beamBreak k) s = .next t ∧ SameExcept (commandBlocks (.beamBreak k)) s t ∧
        t.picker.beams[k] = { s.picker.beams[k] with blocked := true, blockedMs := 0 } ∧
        (∀ j : PutIdx, j ≠ k → t.picker.beams[j] = s.picker.beams[j]) ∧
        (s.picker.settles[k] ≠ none →
          SameExcept [.picker, .notices] s t ∧
          RaisedOnce .overPut (BitVec.ofNat 32 (k.val + 1)) s t) ∧
        (s.picker.settles[k] = none →
          (s.picker.active ≠ some k ∨ ∀ l ∈ s.demand.lines, l.state ≠ .active) →
          SameExcept [.picker, .notices] s t ∧
          t.picker.display = s.picker.display ∧ t.picker.active = s.picker.active ∧
          RaisedOnce .wrongPut (BitVec.ofNat 32 (k.val + 1)) s t) ∧
        (∀ l, s.picker.settles[k] = none → s.picker.active = some k → LinesLaw s → PresentLaw s →
          l ∈ s.demand.lines → l.state = .active →
          (l.puts + 1 < l.qty →
            SameExcept [.picker, .demand] s t ∧ t.demand.wants = s.demand.wants ∧
            t.demand.lines = s.demand.lines.map (fun m =>
              if m.tag = l.tag then { m with puts := l.puts + 1 } else m) ∧
            t.picker.display = some (l.qty - (l.puts + 1)) ∧
            t.picker.active = some k ∧ t.picker.putLight = s.picker.putLight ∧
            t.picker.settles = s.picker.settles) ∧
          (l.puts + 1 = l.qty →
            { l with puts := l.qty, state := .done } ∈ t.demand.lines ∧
            t.picker.settles[k] = some s.conf.settle ∧
            t.notices.sources[NoticeSource.lineDone.index].pending = true ∧
            (s.notices.sources[NoticeSource.lineDone.index].pending = false →
              t.notices.sources[NoticeSource.lineDone.index].detail = l.tag.setWidth 32) ∧
            (∀ o, positionOf s.puts l.handle = some k → s.puts[k] = some o →
              ReadyFollows k o (OthersClosed s l.handle l.tag) s t) ∧
            ((∀ p ∈ s.lane.queue ++ s.lane.parkRec.toList, p.tote ≠ l.tote) →
              BoundaryFollows l s t) ∧
            (∀ m, s.mode = .active → s.lane.headUrgent = false → WantsLaw s →
              (∀ p ∈ s.lane.queue, p.tote ≠ l.tote) →
              (∀ n ∈ s.demand.lines, n.tote = l.tote → n.state ≠ .suspended) →
              m ∈ s.demand.lines → m.tote = l.tote → isWorkable s.puts m = true →
              (∀ n ∈ s.demand.lines, n.tote = l.tote → isWorkable s.puts n = true → n = m) →
              { m with state := .active } ∈ t.demand.lines ∧
              t.picker.active = positionOf s.puts m.handle ∧
              t.demand.wants = s.demand.wants.filter (fun w => decide (w.tote ≠ l.tote)) ∧
              (s.bus.tx = .on → s.bus.queue.length < 15 →
                { sender := s.bus.ownStation.getD 0, tote := l.tote, body := .drop } ∈
                  t.bus.queue)))))

/-- A beam clear stops a beam's blocked time, and starts a stuck beam's clear time from 0 (R142, R143). The
SHORT key makes the ACTIVE line SHORT with its put count, raises LINE_SHORT, starts the settle and
re-evaluates the order, with ORDER_READY where it becomes ready; the rest of the line boundary follows: the
release, the park or its refusal, or the next line (R114 to R116). Without an ACTIVE line it does nothing
(R25, R34, R132, R135, R136). -/
def Obligations.BeamClearAndShortKey : Prop :=
  ∀ s : State,
    (∀ k : PutIdx,
      ∃ t, exec (.beamClear k) s = .next t ∧ SameExcept [.picker] s t ∧
        t.picker = { s.picker with beams := t.picker.beams } ∧
        (∀ j : PutIdx, j ≠ k → t.picker.beams[j] = s.picker.beams[j]) ∧
        t.picker.beams[k] =
          { s.picker.beams[k] with
            blocked := false
            clearMs := if s.picker.beams[k].stuck = true then 0
              else s.picker.beams[k].clearMs }) ∧
    ((∀ l ∈ s.demand.lines, l.state ≠ .active) → exec .shortKey s = .next s) ∧
    (∀ l, s.mode ≠ .unconfigured → LinesLaw s → PresentLaw s → l ∈ s.demand.lines →
      l.state = .active →
      ∃ t, exec .shortKey s = .next t ∧ SameExcept (commandBlocks .shortKey) s t ∧
        { l with state := .short } ∈ t.demand.lines ∧
        lineFacts t.demand.lines = lineFacts s.demand.lines ∧
        (∀ k, s.picker.active = some k → t.picker.settles[k] = some s.conf.settle) ∧
        t.notices.sources[NoticeSource.lineShort.index].pending = true ∧
        (s.notices.sources[NoticeSource.lineShort.index].pending = false →
          t.notices.sources[NoticeSource.lineShort.index].detail =
            BitVec.ofNat 32 (l.tag.toNat * 256 + l.puts)) ∧
        (∀ k o, positionOf s.puts l.handle = some k → s.puts[k] = some o →
          ReadyFollows k o (OthersClosed s l.handle l.tag) s t) ∧
        ((∀ p ∈ s.lane.queue ++ s.lane.parkRec.toList, p.tote ≠ l.tote) → BoundaryFollows l s t) ∧
        (s.mode = .draining → t.lane.face = .releasing ∨ t.lane.face = .leaving))

/-! ### Laws that every step keeps -/

/-- The reset state obeys every law of Safety.lean. -/
def Obligations.LawsHoldAtReset : Prop :=
  TxQueueLaw State.reset ∧ TransmitterLaw State.reset ∧ AttemptLaw State.reset ∧
  NoticesLaw State.reset ∧
  LinesLaw State.reset ∧ WantsLaw State.reset ∧ PutMapLaw State.reset ∧ ReadyLaw State.reset ∧
  BoardLaw State.reset ∧ EalLaw State.reset ∧ OwnLaneLaw State.reset ∧ LockLaw State.reset ∧
  LaneLaw State.reset ∧ PresentLaw State.reset ∧ AbleLaw State.reset ∧ OutputsLaw State.reset

/-- Every step keeps the laws of the transmit queue and the transmitter (R54, R55, R63), of the attempt in
progress and the line (R51 to R53, R64), and the law of the notices and ATTN (R162, R163), whatever command
it takes. -/
def Obligations.TransmitAndNoticeLawsKept : Prop :=
  ∀ s t : State, step s = .next t →
    (TxQueueLaw s → TxQueueLaw t) ∧
    (TransmitterLaw s → TransmitterLaw t) ∧
    (TransmitterLaw s → AttemptLaw s → AttemptLaw t) ∧
    (NoticesLaw s → NoticesLaw t)

/-- Every step keeps the laws of the lines, the want records, the Put Map and the ready flags (R16, R18,
R24, R29, R31, R34). -/
def Obligations.DemandLawsKept : Prop :=
  ∀ s t : State, step s = .next t →
    (LinesLaw s → LinesLaw t) ∧
    (PutMapLaw s → PutMapLaw t) ∧
    (LinesLaw s → WantsLaw s → WantsLaw t) ∧
    (LinesLaw s → PutMapLaw s → ReadyLaw s → ReadyLaw t)

/-- Every step keeps the laws of the Interest Board (R68), of the expected arrivals (R78, R79), of the own
lane's tote numbers (R78, R98) and of the tracker lock (R90 to R92). The order of the expected arrivals is
that of log 27. -/
def Obligations.TrackingLawsKept : Prop :=
  ∀ s t : State, step s = .next t →
    (BoardLaw s → BoardLaw t) ∧
    (TransmitterLaw s → EalLaw s → EalLaw t) ∧
    (OwnLaneLaw s → OwnLaneLaw t) ∧
    (LockLaw s → LockLaw t)

/-- Every step keeps the laws of the face and its ACTIVE line (R19, R111, R130, R131, R146), of the able
condition and the queue records (R96, R147), and of the drive outputs and sensor times (R111, R125). -/
def Obligations.LaneLawsKept : Prop :=
  ∀ s t : State, step s = .next t →
    (LaneLaw s → PresentLaw s → LinesLaw s → LaneLaw t ∧ PresentLaw t) ∧
    (AbleLaw s → OutputsLaw s → AbleLaw t ∧ OutputsLaw t)
end

