-- ==== Sys2Proof/Laws/State.lean ====
section
/-! SUPPORT. What each state update of the shared operations does to each field: one lemma per field per
update, so that no proof unfolds a record update. -/

namespace Sys2Proof.Machine

/-! ### withLines -/

@[simp] theorem State.withLines_cfg (s : State) (ls : List Line) : (s.withLines ls).cfg = s.cfg := rfl

@[simp] theorem State.withLines_count (s : State) (ls : List Line) : (s.withLines ls).count = s.count := rfl

@[simp] theorem State.withLines_clock (s : State) (ls : List Line) : (s.withLines ls).clock = s.clock := rfl

@[simp] theorem State.withLines_puts (s : State) (ls : List Line) : (s.withLines ls).puts = s.puts := rfl

@[simp] theorem State.withLines_bus (s : State) (ls : List Line) : (s.withLines ls).bus = s.bus := rfl

@[simp] theorem State.withLines_board (s : State) (ls : List Line) : (s.withLines ls).board = s.board := rfl

@[simp] theorem State.withLines_tracker (s : State) (ls : List Line) : (s.withLines ls).tracker = s.tracker := rfl

@[simp] theorem State.withLines_divert (s : State) (ls : List Line) : (s.withLines ls).divert = s.divert := rfl

@[simp] theorem State.withLines_lane (s : State) (ls : List Line) : (s.withLines ls).lane = s.lane := rfl

@[simp] theorem State.withLines_picker (s : State) (ls : List Line) : (s.withLines ls).picker = s.picker := rfl

@[simp] theorem State.withLines_modeCtl (s : State) (ls : List Line) : (s.withLines ls).modeCtl = s.modeCtl := rfl

@[simp] theorem State.withLines_link (s : State) (ls : List Line) : (s.withLines ls).link = s.link := rfl

@[simp] theorem State.withLines_notices (s : State) (ls : List Line) : (s.withLines ls).notices = s.notices := rfl

@[simp] theorem State.withLines_freeDraws (s : State) (ls : List Line) : (s.withLines ls).freeDraws = s.freeDraws := rfl

@[simp] theorem State.withLines_pending (s : State) (ls : List Line) : (s.withLines ls).pending = s.pending := rfl

@[simp] theorem State.withLines_lines (s : State) (ls : List Line) :
    (s.withLines ls).demand.lines = ls := rfl

@[simp] theorem State.withLines_wants (s : State) (ls : List Line) :
    (s.withLines ls).demand.wants = s.demand.wants := rfl

/-! ### withWants -/

@[simp] theorem State.withWants_cfg (s : State) (ws : List WantRec) : (s.withWants ws).cfg = s.cfg := rfl

@[simp] theorem State.withWants_count (s : State) (ws : List WantRec) : (s.withWants ws).count = s.count := rfl

@[simp] theorem State.withWants_clock (s : State) (ws : List WantRec) : (s.withWants ws).clock = s.clock := rfl

@[simp] theorem State.withWants_puts (s : State) (ws : List WantRec) : (s.withWants ws).puts = s.puts := rfl

@[simp] theorem State.withWants_bus (s : State) (ws : List WantRec) : (s.withWants ws).bus = s.bus := rfl

@[simp] theorem State.withWants_board (s : State) (ws : List WantRec) : (s.withWants ws).board = s.board := rfl

@[simp] theorem State.withWants_tracker (s : State) (ws : List WantRec) : (s.withWants ws).tracker = s.tracker := rfl

@[simp] theorem State.withWants_divert (s : State) (ws : List WantRec) : (s.withWants ws).divert = s.divert := rfl

@[simp] theorem State.withWants_lane (s : State) (ws : List WantRec) : (s.withWants ws).lane = s.lane := rfl

@[simp] theorem State.withWants_picker (s : State) (ws : List WantRec) : (s.withWants ws).picker = s.picker := rfl

@[simp] theorem State.withWants_modeCtl (s : State) (ws : List WantRec) : (s.withWants ws).modeCtl = s.modeCtl := rfl

@[simp] theorem State.withWants_link (s : State) (ws : List WantRec) : (s.withWants ws).link = s.link := rfl

@[simp] theorem State.withWants_notices (s : State) (ws : List WantRec) : (s.withWants ws).notices = s.notices := rfl

@[simp] theorem State.withWants_freeDraws (s : State) (ws : List WantRec) : (s.withWants ws).freeDraws = s.freeDraws := rfl

@[simp] theorem State.withWants_pending (s : State) (ws : List WantRec) : (s.withWants ws).pending = s.pending := rfl

@[simp] theorem State.withWants_lines (s : State) (ws : List WantRec) :
    (s.withWants ws).demand.lines = s.demand.lines := rfl

@[simp] theorem State.withWants_wants (s : State) (ws : List WantRec) :
    (s.withWants ws).demand.wants = ws := rfl

/-! ### withTx -/

@[simp] theorem State.withTx_cfg (s : State) (q : List Frame) : (s.withTx q).cfg = s.cfg := rfl

@[simp] theorem State.withTx_count (s : State) (q : List Frame) : (s.withTx q).count = s.count := rfl

@[simp] theorem State.withTx_clock (s : State) (q : List Frame) : (s.withTx q).clock = s.clock := rfl

@[simp] theorem State.withTx_demand (s : State) (q : List Frame) : (s.withTx q).demand = s.demand := rfl

@[simp] theorem State.withTx_puts (s : State) (q : List Frame) : (s.withTx q).puts = s.puts := rfl

@[simp] theorem State.withTx_board (s : State) (q : List Frame) : (s.withTx q).board = s.board := rfl

@[simp] theorem State.withTx_tracker (s : State) (q : List Frame) : (s.withTx q).tracker = s.tracker := rfl

@[simp] theorem State.withTx_divert (s : State) (q : List Frame) : (s.withTx q).divert = s.divert := rfl

@[simp] theorem State.withTx_lane (s : State) (q : List Frame) : (s.withTx q).lane = s.lane := rfl

@[simp] theorem State.withTx_picker (s : State) (q : List Frame) : (s.withTx q).picker = s.picker := rfl

@[simp] theorem State.withTx_modeCtl (s : State) (q : List Frame) : (s.withTx q).modeCtl = s.modeCtl := rfl

@[simp] theorem State.withTx_link (s : State) (q : List Frame) : (s.withTx q).link = s.link := rfl

@[simp] theorem State.withTx_notices (s : State) (q : List Frame) : (s.withTx q).notices = s.notices := rfl

@[simp] theorem State.withTx_freeDraws (s : State) (q : List Frame) : (s.withTx q).freeDraws = s.freeDraws := rfl

@[simp] theorem State.withTx_pending (s : State) (q : List Frame) : (s.withTx q).pending = s.pending := rfl

@[simp] theorem State.withTx_queue (s : State) (q : List Frame) :
    (s.withTx q).bus.queue = q := rfl

@[simp] theorem State.withTx_bus_ownStation (s : State) (q : List Frame) :
    (s.withTx q).bus.ownStation = s.bus.ownStation := rfl

@[simp] theorem State.withTx_bus_rxOn (s : State) (q : List Frame) :
    (s.withTx q).bus.rxOn = s.bus.rxOn := rfl

@[simp] theorem State.withTx_bus_tx (s : State) (q : List Frame) :
    (s.withTx q).bus.tx = s.bus.tx := rfl

@[simp] theorem State.withTx_bus_slot (s : State) (q : List Frame) :
    (s.withTx q).bus.slot = s.bus.slot := rfl

@[simp] theorem State.withTx_bus_attempting (s : State) (q : List Frame) :
    (s.withTx q).bus.attempting = s.bus.attempting := rfl

@[simp] theorem State.withTx_bus_slotDoomed (s : State) (q : List Frame) :
    (s.withTx q).bus.slotDoomed = s.bus.slotDoomed := rfl

@[simp] theorem State.withTx_bus_line (s : State) (q : List Frame) :
    (s.withTx q).bus.line = s.bus.line := rfl

@[simp] theorem State.withTx_bus_meant (s : State) (q : List Frame) :
    (s.withTx q).bus.meant = s.bus.meant := rfl

@[simp] theorem State.withTx_bus_driven (s : State) (q : List Frame) :
    (s.withTx q).bus.driven = s.bus.driven := rfl

/-! ### withLane -/

@[simp] theorem State.withLane_cfg (s : State) (l : Lane) : (s.withLane l).cfg = s.cfg := rfl

@[simp] theorem State.withLane_count (s : State) (l : Lane) : (s.withLane l).count = s.count := rfl

@[simp] theorem State.withLane_clock (s : State) (l : Lane) : (s.withLane l).clock = s.clock := rfl

@[simp] theorem State.withLane_demand (s : State) (l : Lane) : (s.withLane l).demand = s.demand := rfl

@[simp] theorem State.withLane_puts (s : State) (l : Lane) : (s.withLane l).puts = s.puts := rfl

@[simp] theorem State.withLane_bus (s : State) (l : Lane) : (s.withLane l).bus = s.bus := rfl

@[simp] theorem State.withLane_board (s : State) (l : Lane) : (s.withLane l).board = s.board := rfl

@[simp] theorem State.withLane_tracker (s : State) (l : Lane) : (s.withLane l).tracker = s.tracker := rfl

@[simp] theorem State.withLane_divert (s : State) (l : Lane) : (s.withLane l).divert = s.divert := rfl

@[simp] theorem State.withLane_picker (s : State) (l : Lane) : (s.withLane l).picker = s.picker := rfl

@[simp] theorem State.withLane_modeCtl (s : State) (l : Lane) : (s.withLane l).modeCtl = s.modeCtl := rfl

@[simp] theorem State.withLane_link (s : State) (l : Lane) : (s.withLane l).link = s.link := rfl

@[simp] theorem State.withLane_notices (s : State) (l : Lane) : (s.withLane l).notices = s.notices := rfl

@[simp] theorem State.withLane_freeDraws (s : State) (l : Lane) : (s.withLane l).freeDraws = s.freeDraws := rfl

@[simp] theorem State.withLane_pending (s : State) (l : Lane) : (s.withLane l).pending = s.pending := rfl

@[simp] theorem State.withLane_lane (s : State) (l : Lane) :
    (s.withLane l).lane = l := rfl

/-! ### withModeCtl -/

@[simp] theorem State.withModeCtl_cfg (s : State) (m : ModeCtl) : (s.withModeCtl m).cfg = s.cfg := rfl

@[simp] theorem State.withModeCtl_count (s : State) (m : ModeCtl) : (s.withModeCtl m).count = s.count := rfl

@[simp] theorem State.withModeCtl_clock (s : State) (m : ModeCtl) : (s.withModeCtl m).clock = s.clock := rfl

@[simp] theorem State.withModeCtl_demand (s : State) (m : ModeCtl) : (s.withModeCtl m).demand = s.demand := rfl

@[simp] theorem State.withModeCtl_puts (s : State) (m : ModeCtl) : (s.withModeCtl m).puts = s.puts := rfl

@[simp] theorem State.withModeCtl_bus (s : State) (m : ModeCtl) : (s.withModeCtl m).bus = s.bus := rfl

@[simp] theorem State.withModeCtl_board (s : State) (m : ModeCtl) : (s.withModeCtl m).board = s.board := rfl

@[simp] theorem State.withModeCtl_tracker (s : State) (m : ModeCtl) : (s.withModeCtl m).tracker = s.tracker := rfl

@[simp] theorem State.withModeCtl_divert (s : State) (m : ModeCtl) : (s.withModeCtl m).divert = s.divert := rfl

@[simp] theorem State.withModeCtl_lane (s : State) (m : ModeCtl) : (s.withModeCtl m).lane = s.lane := rfl

@[simp] theorem State.withModeCtl_picker (s : State) (m : ModeCtl) : (s.withModeCtl m).picker = s.picker := rfl

@[simp] theorem State.withModeCtl_link (s : State) (m : ModeCtl) : (s.withModeCtl m).link = s.link := rfl

@[simp] theorem State.withModeCtl_notices (s : State) (m : ModeCtl) : (s.withModeCtl m).notices = s.notices := rfl

@[simp] theorem State.withModeCtl_freeDraws (s : State) (m : ModeCtl) : (s.withModeCtl m).freeDraws = s.freeDraws := rfl

@[simp] theorem State.withModeCtl_pending (s : State) (m : ModeCtl) : (s.withModeCtl m).pending = s.pending := rfl

@[simp] theorem State.withModeCtl_modeCtl (s : State) (m : ModeCtl) :
    (s.withModeCtl m).modeCtl = m := rfl

/-! ### changeNotice -/

@[simp] theorem State.changeNotice_cfg (s : State) (src : NoticeSource) (f : NoticeRec → NoticeRec) : (s.changeNotice src f).cfg = s.cfg := rfl

@[simp] theorem State.changeNotice_count (s : State) (src : NoticeSource) (f : NoticeRec → NoticeRec) : (s.changeNotice src f).count = s.count := rfl

@[simp] theorem State.changeNotice_clock (s : State) (src : NoticeSource) (f : NoticeRec → NoticeRec) : (s.changeNotice src f).clock = s.clock := rfl

@[simp] theorem State.changeNotice_demand (s : State) (src : NoticeSource) (f : NoticeRec → NoticeRec) : (s.changeNotice src f).demand = s.demand := rfl

@[simp] theorem State.changeNotice_puts (s : State) (src : NoticeSource) (f : NoticeRec → NoticeRec) : (s.changeNotice src f).puts = s.puts := rfl

@[simp] theorem State.changeNotice_bus (s : State) (src : NoticeSource) (f : NoticeRec → NoticeRec) : (s.changeNotice src f).bus = s.bus := rfl

@[simp] theorem State.changeNotice_board (s : State) (src : NoticeSource) (f : NoticeRec → NoticeRec) : (s.changeNotice src f).board = s.board := rfl

@[simp] theorem State.changeNotice_tracker (s : State) (src : NoticeSource) (f : NoticeRec → NoticeRec) : (s.changeNotice src f).tracker = s.tracker := rfl

@[simp] theorem State.changeNotice_divert (s : State) (src : NoticeSource) (f : NoticeRec → NoticeRec) : (s.changeNotice src f).divert = s.divert := rfl

@[simp] theorem State.changeNotice_lane (s : State) (src : NoticeSource) (f : NoticeRec → NoticeRec) : (s.changeNotice src f).lane = s.lane := rfl

@[simp] theorem State.changeNotice_picker (s : State) (src : NoticeSource) (f : NoticeRec → NoticeRec) : (s.changeNotice src f).picker = s.picker := rfl

@[simp] theorem State.changeNotice_modeCtl (s : State) (src : NoticeSource) (f : NoticeRec → NoticeRec) : (s.changeNotice src f).modeCtl = s.modeCtl := rfl

@[simp] theorem State.changeNotice_link (s : State) (src : NoticeSource) (f : NoticeRec → NoticeRec) : (s.changeNotice src f).link = s.link := rfl

@[simp] theorem State.changeNotice_freeDraws (s : State) (src : NoticeSource) (f : NoticeRec → NoticeRec) : (s.changeNotice src f).freeDraws = s.freeDraws := rfl

@[simp] theorem State.changeNotice_pending (s : State) (src : NoticeSource) (f : NoticeRec → NoticeRec) : (s.changeNotice src f).pending = s.pending := rfl

@[simp] theorem State.changeNotice_floor (s : State) (src : NoticeSource) (f : NoticeRec → NoticeRec) :
    (s.changeNotice src f).notices.floor = s.notices.floor := rfl

@[simp] theorem State.changeNotice_sources (s : State) (src : NoticeSource) (f : NoticeRec → NoticeRec) :
    (s.changeNotice src f).notices.sources = modifyVec src.index f s.notices.sources := rfl

@[simp] theorem State.changeNotice_attn (s : State) (src : NoticeSource) (f : NoticeRec → NoticeRec) :
    (s.changeNotice src f).notices.attn = attnOf (modifyVec src.index f s.notices.sources) s.notices.floor := rfl

/-! ### reply -/

@[simp] theorem State.reply_cfg (s : State) (code : Byte) (status : Status) (fields : List Byte) : (s.reply code status fields).cfg = s.cfg := rfl

@[simp] theorem State.reply_count (s : State) (code : Byte) (status : Status) (fields : List Byte) : (s.reply code status fields).count = s.count := rfl

@[simp] theorem State.reply_clock (s : State) (code : Byte) (status : Status) (fields : List Byte) : (s.reply code status fields).clock = s.clock := rfl

@[simp] theorem State.reply_demand (s : State) (code : Byte) (status : Status) (fields : List Byte) : (s.reply code status fields).demand = s.demand := rfl

@[simp] theorem State.reply_puts (s : State) (code : Byte) (status : Status) (fields : List Byte) : (s.reply code status fields).puts = s.puts := rfl

@[simp] theorem State.reply_bus (s : State) (code : Byte) (status : Status) (fields : List Byte) : (s.reply code status fields).bus = s.bus := rfl

@[simp] theorem State.reply_board (s : State) (code : Byte) (status : Status) (fields : List Byte) : (s.reply code status fields).board = s.board := rfl

@[simp] theorem State.reply_tracker (s : State) (code : Byte) (status : Status) (fields : List Byte) : (s.reply code status fields).tracker = s.tracker := rfl

@[simp] theorem State.reply_divert (s : State) (code : Byte) (status : Status) (fields : List Byte) : (s.reply code status fields).divert = s.divert := rfl

@[simp] theorem State.reply_lane (s : State) (code : Byte) (status : Status) (fields : List Byte) : (s.reply code status fields).lane = s.lane := rfl

@[simp] theorem State.reply_picker (s : State) (code : Byte) (status : Status) (fields : List Byte) : (s.reply code status fields).picker = s.picker := rfl

@[simp] theorem State.reply_modeCtl (s : State) (code : Byte) (status : Status) (fields : List Byte) : (s.reply code status fields).modeCtl = s.modeCtl := rfl

@[simp] theorem State.reply_notices (s : State) (code : Byte) (status : Status) (fields : List Byte) : (s.reply code status fields).notices = s.notices := rfl

@[simp] theorem State.reply_freeDraws (s : State) (code : Byte) (status : Status) (fields : List Byte) : (s.reply code status fields).freeDraws = s.freeDraws := rfl

@[simp] theorem State.reply_pending (s : State) (code : Byte) (status : Status) (fields : List Byte) : (s.reply code status fields).pending = s.pending := rfl

@[simp] theorem State.reply_link (s : State) (code : Byte) (status : Status) (fields : List Byte) :
    (s.reply code status fields).link.reply = replyFrame code status fields := rfl

@[simp] theorem State.reply_shiftedOut (s : State) (code : Byte) (status : Status) (fields : List Byte) :
    (s.reply code status fields).link.shiftedOut = s.link.shiftedOut := rfl

end Sys2Proof.Machine
end

