-- ==== Sys2Proof/Laws/Frame.lean ====
section
/-! SUPPORT. Frames: `SameExcept` and, for each shared operation, the parts of the state it may touch. -/

namespace Sys2Proof.Machine

/-! ### SameExcept -/

theorem SameExcept.refl (bs : List Block) (s : State) : SameExcept bs s s := by simp [SameExcept]

/-- A part that two steps in turn leave alone is left alone. -/
theorem frame_chain {p q : Prop} {α : Type} {a b c : α} {r : Prop} (hp : p → r) (hq : q → r)
    (h1 : p ∨ b = a) (h2 : q ∨ c = b) : r ∨ c = a := by
  rcases h1 with h1 | h1
  · exact .inl (hp h1)
  · rcases h2 with h2 | h2
    · exact .inl (hq h2)
    · exact .inr (h2.trans h1)

theorem SameExcept.mono {as bs : List Block} {s t : State} (h : SameExcept as s t) (hs : as ⊆ bs) :
    SameExcept bs s t := by
  obtain ⟨h0, h1, h2, h3, h4, h5, h6, h7, h8, h9, h10, h11, h12, h13, h14, h15⟩ := h
  exact ⟨h0.imp_left fun x => hs x, h1.imp_left fun x => hs x, h2.imp_left fun x => hs x, h3.imp_left fun x => hs x, h4.imp_left fun x => hs x, h5.imp_left fun x => hs x, h6.imp_left fun x => hs x, h7.imp_left fun x => hs x, h8.imp_left fun x => hs x, h9.imp_left fun x => hs x, h10.imp_left fun x => hs x, h11.imp_left fun x => hs x, h12.imp_left fun x => hs x, h13.imp_left fun x => hs x, h14.imp_left fun x => hs x, h15.imp_left fun x => hs x⟩

theorem SameExcept.trans {as bs : List Block} {s t u : State} (h : SameExcept as s t)
    (k : SameExcept bs t u) : SameExcept (as ++ bs) s u := by
  obtain ⟨h0, h1, h2, h3, h4, h5, h6, h7, h8, h9, h10, h11, h12, h13, h14, h15⟩ := h
  obtain ⟨k0, k1, k2, k3, k4, k5, k6, k7, k8, k9, k10, k11, k12, k13, k14, k15⟩ := k
  exact ⟨frame_chain (fun x => List.mem_append_left _ x) (fun x => List.mem_append_right _ x) h0 k0,
    frame_chain (fun x => List.mem_append_left _ x) (fun x => List.mem_append_right _ x) h1 k1,
    frame_chain (fun x => List.mem_append_left _ x) (fun x => List.mem_append_right _ x) h2 k2,
    frame_chain (fun x => List.mem_append_left _ x) (fun x => List.mem_append_right _ x) h3 k3,
    frame_chain (fun x => List.mem_append_left _ x) (fun x => List.mem_append_right _ x) h4 k4,
    frame_chain (fun x => List.mem_append_left _ x) (fun x => List.mem_append_right _ x) h5 k5,
    frame_chain (fun x => List.mem_append_left _ x) (fun x => List.mem_append_right _ x) h6 k6,
    frame_chain (fun x => List.mem_append_left _ x) (fun x => List.mem_append_right _ x) h7 k7,
    frame_chain (fun x => List.mem_append_left _ x) (fun x => List.mem_append_right _ x) h8 k8,
    frame_chain (fun x => List.mem_append_left _ x) (fun x => List.mem_append_right _ x) h9 k9,
    frame_chain (fun x => List.mem_append_left _ x) (fun x => List.mem_append_right _ x) h10 k10,
    frame_chain (fun x => List.mem_append_left _ x) (fun x => List.mem_append_right _ x) h11 k11,
    frame_chain (fun x => List.mem_append_left _ x) (fun x => List.mem_append_right _ x) h12 k12,
    frame_chain (fun x => List.mem_append_left _ x) (fun x => List.mem_append_right _ x) h13 k13,
    frame_chain (fun x => List.mem_append_left _ x) (fun x => List.mem_append_right _ x) h14 k14,
    frame_chain (fun x => List.mem_append_left _ x) (fun x => List.mem_append_right _ x) h15 k15⟩

/-- A further step inside the parts that may be touched. -/
theorem SameExcept.andThen {as bs : List Block} {s t u : State} (h : SameExcept bs s t)
    (k : SameExcept as t u) (hs : as ⊆ bs) : SameExcept bs s u :=
  (h.trans k).mono (List.append_subset.mpr ⟨List.Subset.refl _, hs⟩)

/-- Two steps in turn stay inside the parts that both may touch. -/
theorem SameExcept.step {as bs cs : List Block} {s t u : State} (h : SameExcept as s t)
    (k : SameExcept bs t u) (h1 : as ⊆ cs) (h2 : bs ⊆ cs) : SameExcept cs s u :=
  (h.trans k).mono (List.append_subset.mpr ⟨h1, h2⟩)

theorem SameExcept.cfg_eq {bs : List Block} {s t : State} (h : SameExcept bs s t)
    (hb : Block.cfg ∉ bs) : t.cfg = s.cfg := (h.1).resolve_left hb

theorem SameExcept.count_eq {bs : List Block} {s t : State} (h : SameExcept bs s t)
    (hb : Block.count ∉ bs) : t.count = s.count := (h.2.1).resolve_left hb

theorem SameExcept.clock_eq {bs : List Block} {s t : State} (h : SameExcept bs s t)
    (hb : Block.clock ∉ bs) : t.clock = s.clock := (h.2.2.1).resolve_left hb

theorem SameExcept.demand_eq {bs : List Block} {s t : State} (h : SameExcept bs s t)
    (hb : Block.demand ∉ bs) : t.demand = s.demand := (h.2.2.2.1).resolve_left hb

theorem SameExcept.puts_eq {bs : List Block} {s t : State} (h : SameExcept bs s t)
    (hb : Block.puts ∉ bs) : t.puts = s.puts := (h.2.2.2.2.1).resolve_left hb

theorem SameExcept.bus_eq {bs : List Block} {s t : State} (h : SameExcept bs s t)
    (hb : Block.bus ∉ bs) : t.bus = s.bus := (h.2.2.2.2.2.1).resolve_left hb

theorem SameExcept.board_eq {bs : List Block} {s t : State} (h : SameExcept bs s t)
    (hb : Block.board ∉ bs) : t.board = s.board := (h.2.2.2.2.2.2.1).resolve_left hb

theorem SameExcept.tracker_eq {bs : List Block} {s t : State} (h : SameExcept bs s t)
    (hb : Block.tracker ∉ bs) : t.tracker = s.tracker := (h.2.2.2.2.2.2.2.1).resolve_left hb

theorem SameExcept.divert_eq {bs : List Block} {s t : State} (h : SameExcept bs s t)
    (hb : Block.divert ∉ bs) : t.divert = s.divert := (h.2.2.2.2.2.2.2.2.1).resolve_left hb

theorem SameExcept.lane_eq {bs : List Block} {s t : State} (h : SameExcept bs s t)
    (hb : Block.lane ∉ bs) : t.lane = s.lane := (h.2.2.2.2.2.2.2.2.2.1).resolve_left hb

theorem SameExcept.picker_eq {bs : List Block} {s t : State} (h : SameExcept bs s t)
    (hb : Block.picker ∉ bs) : t.picker = s.picker := (h.2.2.2.2.2.2.2.2.2.2.1).resolve_left hb

theorem SameExcept.modeCtl_eq {bs : List Block} {s t : State} (h : SameExcept bs s t)
    (hb : Block.modeCtl ∉ bs) : t.modeCtl = s.modeCtl := (h.2.2.2.2.2.2.2.2.2.2.2.1).resolve_left hb

theorem SameExcept.link_eq {bs : List Block} {s t : State} (h : SameExcept bs s t)
    (hb : Block.link ∉ bs) : t.link = s.link := (h.2.2.2.2.2.2.2.2.2.2.2.2.1).resolve_left hb

theorem SameExcept.notices_eq {bs : List Block} {s t : State} (h : SameExcept bs s t)
    (hb : Block.notices ∉ bs) : t.notices = s.notices := (h.2.2.2.2.2.2.2.2.2.2.2.2.2.1).resolve_left hb

theorem SameExcept.freeDraws_eq {bs : List Block} {s t : State} (h : SameExcept bs s t)
    (hb : Block.freeDraws ∉ bs) : t.freeDraws = s.freeDraws := (h.2.2.2.2.2.2.2.2.2.2.2.2.2.2.1).resolve_left hb

theorem SameExcept.pending_eq {bs : List Block} {s t : State} (h : SameExcept bs s t)
    (hb : Block.pending ∉ bs) : t.pending = s.pending := (h.2.2.2.2.2.2.2.2.2.2.2.2.2.2.2).resolve_left hb

theorem SameExcept.foldl {α : Type} {bs : List Block} {f : State → α → State}
    (hf : ∀ s a, SameExcept bs s (f s a)) (l : List α) (s : State) :
    SameExcept bs s (l.foldl f s) := by
  induction l generalizing s with
  | nil => exact .refl _ _
  | cons a l ih => exact (hf s a).step (ih _) (List.Subset.refl _) (List.Subset.refl _)

/-! ### The operations -/

theorem State.changeNotice_frame (s : State) (n : NoticeSource) (f : NoticeRec → NoticeRec) :
    SameExcept [.notices] s (s.changeNotice n f) := by
  simp [SameExcept]

theorem State.raise_frame (s : State) (n : NoticeSource) (d : BitVec 32) :
    SameExcept [.notices] s (s.raise n d) := by
  exact s.changeNotice_frame n _

theorem State.withTx_frame (s : State) (q : List Frame) :
    SameExcept [.bus] s (s.withTx q) := by
  simp [SameExcept]

theorem State.withLane_frame (s : State) (l : Lane) :
    SameExcept [.lane] s (s.withLane l) := by
  simp [SameExcept]

theorem State.withModeCtl_frame (s : State) (m : ModeCtl) :
    SameExcept [.modeCtl] s (s.withModeCtl m) := by
  simp [SameExcept]

theorem State.withLines_frame (s : State) (ls : List Line) :
    SameExcept [.demand] s (s.withLines ls) := by
  simp [SameExcept]

theorem State.withWants_frame (s : State) (ws : List WantRec) :
    SameExcept [.demand] s (s.withWants ws) := by
  simp [SameExcept]

theorem State.reply_frame (s : State) (c : Byte) (st : Status) (fs : List Byte) :
    SameExcept [.link] s (s.reply c st fs) := by
  simp [SameExcept]

theorem State.request_frame (s : State) (T : ToteNo) (b : FrameBody) :
    SameExcept [.bus, .notices] s (s.request T b) := by
  unfold State.request
  split
  · dsimp only
    split
    · exact (s.withTx_frame _).step (State.raise_frame _ _ _) (by simp) (by simp)
    · exact (s.withTx_frame _).mono (by simp)
  · exact .refl _ _

theorem State.requestState_frame (s : State) :
    SameExcept [.bus, .notices] s s.requestState := by
  exact s.request_frame _ _

theorem State.setLineState_frame (s : State) (tag : Tag) (st : LineState) :
    SameExcept [.demand] s (s.setLineState tag st) := by
  exact s.withLines_frame _

theorem State.announce_frame (s : State) (T : ToteNo) (W : Nat) :
    SameExcept [.demand, .bus, .notices] s (s.announce T W) := by
  exact (s.withWants_frame _).step (State.request_frame _ _ _) (by simp) (by simp)

theorem State.checkWant_frame (s : State) (T : ToteNo) :
    SameExcept [.demand, .bus, .notices] s (s.checkWant T) := by
  unfold State.checkWant
  split
  · split
    · exact s.announce_frame _ _
    · exact .refl _ _
  · exact .refl _ _

theorem State.deriveWant_frame (s : State) (T : ToteNo) :
    SameExcept [.demand, .bus, .notices] s (s.deriveWant T) := by
  unfold State.deriveWant
  split
  · exact (s.withWants_frame _).step (State.request_frame _ _ _) (by simp) (by simp)
  · exact (s.withWants_frame _).step (State.request_frame _ _ _) (by simp) (by simp)
  · exact s.checkWant_frame _
  · exact .refl _ _

theorem State.checkWants_frame (s : State) (p : ToteNo → Bool) :
    SameExcept [.demand, .bus, .notices] s (s.checkWants p) := by
  exact SameExcept.foldl State.checkWant_frame _ _

theorem State.deriveWants_frame (s : State) (p : ToteNo → Bool) :
    SameExcept [.demand, .bus, .notices] s (s.deriveWants p) := by
  exact SameExcept.foldl State.deriveWant_frame _ _

theorem State.reready_frame (s : State) (h : Handle) :
    SameExcept [.puts, .notices] s (s.reready h) := by
  unfold State.reready
  split
  · exact .refl _ _
  · split
    · exact .refl _ _
    · dsimp only
      split
      · exact SameExcept.step (as := [.puts]) (by simp [SameExcept]) (State.raise_frame _ _ _)
          (by simp) (by simp)
      · simp [SameExcept]

theorem State.light_frame (s : State) (l : Line) :
    SameExcept [.picker] s (s.light l) := by
  simp [SameExcept, State.light]

theorem State.leaveActive_frame (s : State) :
    SameExcept [.picker] s s.leaveActive := by
  simp [SameExcept, State.leaveActive]

theorem State.updRecs_frame (s : State) (f : LaneRec → LaneRec) :
    SameExcept [.lane] s (s.updRecs f) := by
  exact s.withLane_frame _

theorem State.updRec_frame (s : State) (T : ToteNo) (f : LaneRec → LaneRec) :
    SameExcept [.lane] s (s.updRec T f) := by
  exact s.updRecs_frame _

theorem State.parkFace_frame (s : State) :
    SameExcept [.demand, .picker, .lane] s s.parkFace := by
  unfold State.parkFace
  split
  · exact .refl _ _
  · dsimp only
    split
    · exact ((s.setLineState_frame _ _).trans (State.leaveActive_frame _)).step
        (State.withLane_frame _ _) (by simp) (by simp)
    · exact (s.withLane_frame _).mono (by simp)

theorem State.preemptCheck_frame (s : State) :
    SameExcept [.demand, .picker, .lane, .notices] s s.preemptCheck := by
  unfold State.preemptCheck
  split
  · split
    · exact s.parkFace_frame.mono (by simp)
    · split
      · exact .refl _ _
      · exact (s.withLane_frame _).step (State.raise_frame _ _ _) (by simp) (by simp)
    · exact .refl _ _
  · exact .refl _ _

theorem State.headTurnedUrgent_frame (s : State) :
    SameExcept [.demand, .picker, .lane, .notices] s s.headTurnedUrgent := by
  unfold State.headTurnedUrgent
  split
  · exact s.preemptCheck_frame
  · exact .refl _ _

theorem State.reurgent_frame (s : State) (p : ToteNo → Bool) :
    SameExcept [.demand, .picker, .lane, .notices] s (s.reurgent p) := by
  unfold State.reurgent
  dsimp only
  split
  · exact (s.updRecs_frame _).step (State.headTurnedUrgent_frame _) (by simp) (by simp)
  · exact (s.updRecs_frame _).mono (by simp)

theorem State.tryLeave_frame (s : State) :
    SameExcept [.lane] s s.tryLeave := by
  unfold State.tryLeave
  split
  · exact s.withLane_frame _
  · exact .refl _ _

theorem State.beginRelease_frame (s : State) :
    SameExcept [.lane] s s.beginRelease := by
  exact (s.withLane_frame _).step (State.tryLeave_frame _) (by simp) (by simp)

theorem State.returnActive_frame (s : State) :
    SameExcept [.demand, .bus, .notices, .picker, .lane] s s.returnActive := by
  unfold State.returnActive
  split
  · exact .refl _ _
  · exact (((s.setLineState_frame _ _).trans (State.leaveActive_frame _)).trans
      (State.deriveWant_frame _ _)).step (State.reurgent_frame _ _) (by simp) (by simp)

theorem State.releasePresenting_frame (s : State) :
    SameExcept [.demand, .bus, .notices, .picker, .lane] s s.releasePresenting := by
  exact s.returnActive_frame.step (State.beginRelease_frame _) (by simp) (by simp)

theorem State.requestLine_frame (s : State) :
    SameExcept [.demand, .bus, .notices, .picker, .lane] s s.requestLine := by
  unfold State.requestLine
  split
  · exact .refl _ _
  · split
    · exact s.beginRelease_frame.mono (by simp)
    · exact (((s.setLineState_frame _ _).trans (State.light_frame _ _)).trans
        (State.deriveWant_frame _ _)).step (State.reurgent_frame _ _) (by simp) (by simp)

theorem State.lineBoundary_frame (s : State) (l : Line) :
    SameExcept [.demand, .bus, .notices, .picker, .lane, .puts] s (s.lineBoundary l) := by
  unfold State.lineBoundary
  have h := (s.reurgent_frame (· == l.tote)).trans (State.reready_frame _ l.handle)
  dsimp only
  split
  · split
    · exact h.step (State.beginRelease_frame _) (by simp) (by simp)
    · split
      · exact h.step (State.preemptCheck_frame _) (by simp) (by simp)
      · exact (h.trans (State.preemptCheck_frame _)).step (State.requestLine_frame _) (by simp)
          (by simp)
  · exact h.mono (by simp)

theorem State.beginArriving_frame (s : State) (q : LaneRec) (x : FaceSource) :
    SameExcept [.lane] s (s.beginArriving q x) := by
  exact s.withLane_frame _

theorem State.fillHead_frame (s : State) :
    SameExcept [.lane] s s.fillHead := by
  unfold State.fillHead
  split
  · split
    · exact (s.withLane_frame _).step (State.beginArriving_frame _ _ _) (by simp) (by simp)
    · exact s.withLane_frame _
  · split
    · exact s.beginArriving_frame _ _
    · exact .refl _ _

theorem State.fill_frame (s : State) :
    SameExcept [.lane] s s.fill := by
  unfold State.fill
  split
  · exact .refl _ _
  · split
    · exact (s.withLane_frame _).step (State.beginRelease_frame _) (by simp) (by simp)
    · split
      · exact s.fillHead_frame
      · split
        · exact (s.withLane_frame _).step (State.beginArriving_frame _ _ _) (by simp) (by simp)
        · split
          · exact s.beginArriving_frame _ _
          · exact s.fillHead_frame

theorem State.jamLane_frame (s : State) (x : Sensor) :
    SameExcept [.lane, .notices] s (s.jamLane x) := by
  unfold State.jamLane
  split
  · exact .refl _ _
  · exact (s.withLane_frame _).step (State.raise_frame _ _ _) (by simp) (by simp)

theorem State.enterMode_frame (s : State) (m : BenchMode) :
    SameExcept [.modeCtl, .notices, .bus] s (s.enterMode m) := by
  unfold State.enterMode
  have h := (s.withModeCtl_frame { s.modeCtl with mode := m }).trans
    (State.raise_frame _ .modeChanged (BitVec.ofNat 32 (modeCode m)))
  dsimp only
  split
  · exact (h.trans (SameExcept.step (as := [.bus]) (cs := [.bus, .modeCtl]) (by simp [SameExcept])
      (State.withModeCtl_frame _ _) (by simp) (by simp))).mono (by simp)
  · exact (h.trans (SameExcept.step (as := [.bus]) (cs := [.bus, .modeCtl]) (by simp [SameExcept])
      (State.withModeCtl_frame _ _) (by simp) (by simp))).step (State.requestState_frame _)
      (by simp) (by simp)

theorem State.sweepTest_frame (s : State) :
    SameExcept [.modeCtl, .notices, .bus] s s.sweepTest := by
  unfold State.sweepTest
  split
  · exact s.enterMode_frame _
  · exact .refl _ _

theorem State.drainTest_frame (s : State) :
    SameExcept [.modeCtl, .notices, .bus] s s.drainTest := by
  unfold State.drainTest
  split
  · exact s.enterMode_frame _
  · exact .refl _ _

theorem State.enterSweeping_frame (s : State) (r : SweepReturn) :
    SameExcept [.modeCtl, .notices, .bus, .lane] s (s.enterSweeping r) := by
  exact (((s.withModeCtl_frame _).trans (State.enterMode_frame _ _)).trans
    (State.fill_frame _)).step (State.sweepTest_frame _) (by simp) (by simp)

theorem State.settleLane_frame (s : State) :
    SameExcept [.modeCtl, .notices, .bus, .lane] s s.settleLane := by
  unfold State.settleLane
  dsimp only
  split
  · exact (s.withLane_frame _).mono (by simp)
  · exact ((s.withLane_frame _).trans (State.withModeCtl_frame _ _)).step
      (State.requestState_frame _) (by simp) (by simp)

theorem State.place_frame (s : State) (e : EalEntry) :
    SameExcept [.tracker] s (s.place e) := by
  unfold State.place
  split
  · exact .refl _ _
  · simp [SameExcept]

theorem State.unexpect_frame (s : State) (T : ToteNo) :
    SameExcept [.tracker] s (s.unexpect T) := by
  simp [SameExcept, State.unexpect]

theorem State.lockFailure_frame (s : State) (T : ToteNo) :
    SameExcept [.tracker, .notices] s (s.lockFailure T) := by
  unfold State.lockFailure
  dsimp only
  split
  · exact SameExcept.step (as := [.tracker]) (by simp [SameExcept]) (State.raise_frame _ _ _)
      (by simp) (by simp)
  · simp [SameExcept]

theorem State.coldAlertWork_frame (s : State) (T : ToteNo) :
    SameExcept [.lane, .notices] s (s.coldAlertWork T) := by
  unfold State.coldAlertWork
  split
  · split
    · exact (s.updRec_frame _ _).step (State.raise_frame _ _ _) (by simp) (by simp)
    · exact .refl _ _
  · exact .refl _ _

theorem State.breach_frame (s : State) (T : ToteNo) :
    SameExcept [.demand, .bus, .notices, .picker, .lane, .puts] s (s.breach T) := by
  unfold State.breach
  have h1 := (s.updRec_frame T fun q => { q with breachMark := true }).trans
    (State.raise_frame _ .coldBreach T)
  extract_lets hit s1 s2 s3 s4
  have h2 : SameExcept [.lane, .notices, .demand] s s2 :=
    h1.step (State.withLines_frame _ _) (by simp) (by simp)
  have h3 : SameExcept [.lane, .notices, .demand, .picker] s s3 := by
    show SameExcept _ s (if _ then _ else _)
    split
    · exact h2.step (State.leaveActive_frame _) (by simp) (by simp)
    · exact h2.mono (by simp)
  have h4 : SameExcept [.demand, .bus, .notices, .picker, .lane, .puts] s s4 :=
    (h3.trans (State.deriveWant_frame _ T)).step
      (SameExcept.foldl State.reready_frame _ _) (by simp) (by simp)
  split
  · exact h4.step (State.beginRelease_frame _) (by simp) (by simp)
  · exact h4

theorem State.coldBreachWork_frame (s : State) (T : ToteNo) :
    SameExcept [.demand, .bus, .notices, .picker, .lane, .puts] s (s.coldBreachWork T) := by
  unfold State.coldBreachWork
  split
  · exact s.breach_frame _
  · exact .refl _ _

theorem State.coldWork_frame (s : State) (T : ToteNo) :
    SameExcept [.demand, .bus, .notices, .picker, .lane, .puts] s (s.coldWork T) := by
  exact (s.coldAlertWork_frame T).step (State.coldBreachWork_frame _ T) (by simp) (by simp)

theorem State.pickingMs_frame (s : State) :
    SameExcept [.picker, .notices, .freeDraws] s s.pickingMs := by
  unfold State.pickingMs
  exact SameExcept.step (as := [.picker, .freeDraws]) (by simp [SameExcept, State.drawn])
    (SameExcept.foldl (fun s k => State.raise_frame s _ _) _ _) (by simp) (by simp)

theorem State.laneMs_frame (s : State) :
    SameExcept [.lane, .notices, .freeDraws] s s.laneMs := by
  unfold State.laneMs
  dsimp only
  split
  · exact .refl _ _
  · split
    · exact (s.withLane_frame _).mono (by simp)
    · exact SameExcept.step (as := [.lane, .freeDraws]) (by simp [SameExcept, State.drawn])
        (State.jamLane_frame _ _) (by simp) (by simp)

theorem State.lineMs_frame (s : State) :
    SameExcept [.bus] s s.lineMs := by
  simp [SameExcept, State.lineMs]

theorem State.passMs_frame (s : State) :
    SameExcept [.picker, .notices, .freeDraws, .lane, .modeCtl, .bus] s s.passMs := by
  unfold State.passMs
  split
  · exact ((s.lineMs_frame.trans (State.pickingMs_frame _)).trans (State.laneMs_frame _)).step
      (State.settleLane_frame _) (by simp) (by simp)
  · exact .refl _ _

theorem State.passAll_frame (n : Nat) (s : State) :
    SameExcept [.picker, .notices, .freeDraws, .lane, .modeCtl, .bus] s (State.passAll n s) := by
  induction n generalizing s with
  | zero => exact .refl _ _
  | succ n ih => exact s.passMs_frame.step (ih _) (by simp) (by simp)

end Sys2Proof.Machine
end

