-- ==== Sys2Proof/Laws/Ops.lean ====
section
/-! SUPPORT. What the shared operations answer: vectors of records, a raise, a request, the local link, the bench
line, the end of an event, the re-evaluation of the urgent flags and the line at the face. -/

namespace Sys2Proof.Machine

/-! ### Vectors of records -/

@[simp] theorem getElem_mapVec {α : Type} {n : Nat} (f : α → α) (v : Vector α n) (i : Nat)
    (h : i < n) : (mapVec f v)[i] = f v[i] := by
  simp [mapVec]

@[simp] theorem getElem_modifyVec {α : Type} {n : Nat} (k : Fin n) (f : α → α) (v : Vector α n)
    (i : Nat) (h : i < n) : (modifyVec k f v)[i] = if i = k.val then f v[i] else v[i] := by
  by_cases e : i = k.val
  · subst e
    simp [modifyVec]
  · have e2 : k.val ≠ i := fun x => e x.symm
    simp [modifyVec, e, e2]

/-! ### Raising a notice (R162, R163) -/

/-- A raise counts one event of its own source and works ATTN out again. -/
theorem State.raise_once (s : State) (n : NoticeSource) (d : BitVec 32) :
    RaisedOnce n d s (s.raise n d) := by
  refine ⟨fun j hj => ?_, rfl, rfl, fun h => ?_, fun h => ?_⟩
  · have : j.val ≠ n.index.val := fun e => hj (Fin.ext e)
    simp [State.raise, this]
  · simp_all [State.raise, bumpNotice]
  · simp_all [State.raise, bumpNotice]

/-- A raise is one event. -/
theorem State.raise_for (s : State) (n : NoticeSource) (d : BitVec 32) :
    RaisedFor n [d] s (s.raise n d) := by
  cases h : s.notices.sources[n.index].pending <;>
    simp_all [RaisedFor, State.raise, State.changeNotice, workAttn, bumpNotice]

/-- Events after one another are the events of the joined list. -/
theorem RaisedFor.append {n : NoticeSource} {ds es : List (BitVec 32)} {s t u : State}
    (h : RaisedFor n ds s t) (k : RaisedFor n es t u) : RaisedFor n (ds ++ es) s u := by
  cases ds with
  | nil =>
    unfold RaisedFor at h k ⊢
    simpa [h] using k
  | cons d ds =>
    cases es with
    | nil =>
      unfold RaisedFor at h k ⊢
      simp only [List.append_nil]
      exact k.trans h
    | cons e es =>
      unfold RaisedFor at h k ⊢
      rw [k, h]
      generalize s.notices.sources[n.index] = a
      cases p : a.pending <;> simp [p] <;> omega

/-! ### The local link (R156) -/

@[simp] theorem linkBits_nil : linkBits [] = [] := rfl

@[simp] theorem linkBits_cons (b : Byte) (bs : List Byte) :
    linkBits (b :: bs) = byteBits b ++ linkBits bs := rfl

@[simp] theorem byteBits_length (b : Byte) : (byteBits b).length = 8 := rfl

@[simp] theorem linkBits_length (bs : List Byte) : (linkBits bs).length = 8 * bs.length := by
  induction bs with
  | nil => rfl
  | cons b bs ih => simp [ih]; omega

/-- Fewer than eight bits make no byte. -/
theorem bytesOfLink_cut (cut : List Bool) (h : cut.length < 8) : bytesOfLink cut = [] := by
  unfold bytesOfLink
  split
  · simp at h
    omega
  · rfl

theorem byteOfBits_byteBits (b : Byte) :
    byteOfBits (b.getMsbD 0) (b.getMsbD 1) (b.getMsbD 2) (b.getMsbD 3) (b.getMsbD 4) (b.getMsbD 5)
      (b.getMsbD 6) (b.getMsbD 7) = b := by
  revert b
  decide +kernel

/-- The bits of whole bytes, and fewer than eight after them, are those bytes. -/
theorem bytesOfLink_linkBits (bs : List Byte) (cut : List Bool) (h : cut.length < 8) :
    bytesOfLink (linkBits bs ++ cut) = bs := by
  induction bs with
  | nil => exact bytesOfLink_cut cut h
  | cons b bs ih =>
    simp only [linkBits_cons, byteBits, List.cons_append, List.nil_append, bytesOfLink, ih,
      byteOfBits_byteBits]

/-- One bit goes out for each that comes in. -/
@[simp] theorem State.shiftOut_length (s : State) (n : Nat) :
    (s.shiftOut n).link.shiftedOut.length = n := by
  simp [State.shiftOut]

@[simp] theorem State.shiftOut_reply (s : State) (n : Nat) : (s.shiftOut n).link.reply = [] := rfl

theorem State.shiftOut_frame (s : State) (n : Nat) : SameExcept [.link] s (s.shiftOut n) := by
  simp [SameExcept, State.shiftOut]

/-! ### Characters on the bench line (R50, R51) -/

/-- The part's own frames are spaced by no quiet bit. -/
theorem lineBits_eq_spacedBits (bs : List Byte) : lineBits bs = spacedBits (bs.map (·, 0)) := by
  simp [lineBits, spacedBits, List.flatMap_map]

theorem bytesAfterQuiet_start (q : Nat) (b : Byte) (rest : List Bool) :
    bytesAfterQuiet q (characterBits b ++ rest) = (bytesAfterQuiet 0 rest).map (b :: ·) := by
  simp only [characterBits, byteBits, List.cons_append, List.nil_append, bytesAfterQuiet, if_true,
    byteOfBits_byteBits]

/-- Quiet bits short of the twelfth are passed over. -/
theorem bytesAfterQuiet_quiet (n q : Nat) (rest : List Bool) (h : q + n < 12) :
    bytesAfterQuiet q (List.replicate n true ++ rest) = bytesAfterQuiet (q + n) rest := by
  induction n generalizing q with
  | zero => rfl
  | succ n ih =>
    have : q + 1 < 12 := by omega
    simp only [List.replicate_succ, List.cons_append, bytesAfterQuiet, if_pos this]
    rw [ih (q + 1) (by omega)]
    congr 1
    omega

/-- Twelve quiet bits end the run, whatever follows. -/
theorem bytesAfterQuiet_idle (q : Nat) (rest : List Bool) :
    bytesAfterQuiet q (List.replicate 12 true ++ rest) = some [] := by
  have key : ∀ n q : Nat, 12 ≤ q + n → 0 < n →
      bytesAfterQuiet q (List.replicate n true ++ rest) = some [] := by
    intro n
    induction n with
    | zero => intro q _ h; omega
    | succ n ih =>
      intro q h _
      simp only [List.replicate_succ, List.cons_append, bytesAfterQuiet]
      split
      · exact ih (q + 1) (by omega) (by omega)
      · rfl
  exact key 12 q (by omega) (by omega)

/-- Spaced characters give their bytes, and what follows is read after fewer than twelve quiet bits. -/
theorem bytesAfterQuiet_spaced (cs : List (Byte × Nat)) (h : ∀ c ∈ cs, c.2 < 12) (q : Nat)
    (hq : q < 12) (tail : List Bool) :
    ∃ r, r < 12 ∧ bytesAfterQuiet q (spacedBits cs ++ tail) =
      (bytesAfterQuiet r tail).map (cs.map Prod.fst ++ ·) := by
  induction cs generalizing q with
  | nil => exact ⟨q, hq, by simp [spacedBits]⟩
  | cons c cs ih =>
    obtain ⟨r, hr, e⟩ := ih (fun d hd => h d (.tail _ hd)) c.2 (h c (.head _))
    refine ⟨r, hr, ?_⟩
    have split : spacedBits (c :: cs) ++ tail =
        characterBits c.1 ++ (List.replicate c.2 true ++ (spacedBits cs ++ tail)) := by
      simp [spacedBits]
    rw [split, bytesAfterQuiet_start, bytesAfterQuiet_quiet _ _ _ (by have := h c (.head _); omega),
      Nat.zero_add, e]
    simp [Function.comp_def]

/-! ### The bench line (R51, R52, R58) -/

/-- A gap that is over changes the line alone, and no line that is off or busy with a frame. -/
theorem Bus.gapOver_line (b : Bus) :
    b.gapOver.line = if b.rxOn = true ∧ b.line = .gap then .idle else b.line := by
  cases h : b.rxOn <;> simp [Bus.gapOver, h]

@[simp] theorem Bus.gapOver_rxOn (b : Bus) : (b.gapOver).rxOn = b.rxOn := rfl
@[simp] theorem Bus.gapOver_tx (b : Bus) : (b.gapOver).tx = b.tx := rfl
@[simp] theorem Bus.gapOver_queue (b : Bus) : (b.gapOver).queue = b.queue := rfl
@[simp] theorem Bus.gapOver_slot (b : Bus) : (b.gapOver).slot = b.slot := rfl
@[simp] theorem Bus.gapOver_attempting (b : Bus) : (b.gapOver).attempting = b.attempting := rfl

@[simp] theorem Bus.offLine_tx (b : Bus) (r : List Bool) : (b.offLine r).tx = b.tx := rfl
@[simp] theorem Bus.offLine_queue (b : Bus) (r : List Bool) : (b.offLine r).queue = b.queue := rfl
@[simp] theorem Bus.offLine_slot (b : Bus) (r : List Bool) : (b.offLine r).slot = b.slot := rfl
@[simp] theorem Bus.offLine_slotDoomed (b : Bus) (r : List Bool) :
    (b.offLine r).slotDoomed = b.slotDoomed := rfl

/-- What an emptied slot leaves (R53, R63). -/
theorem emptySlot_eq (b : Bus) :
    emptySlot b =
      { b with
        slot := none
        slotDoomed := false
        tx := if b.tx = .closing ∧ b.queue = [] then .listenOnly else b.tx } := by
  by_cases h : b.tx = .closing ∧ b.queue = [] <;> simp [emptySlot, closeIfDone, h]

/-- The line after a received run of bits, in the statements' words. -/
theorem State.frameOver_eq (s : State) : s.frameOver = s.lineIdled := by
  obtain ⟨_, _, _, _, _, ⟨_, rxOn, _, _, _, attempting, _⟩, _⟩ := s
  cases rxOn <;> cases attempting <;> rfl

theorem firstMismatch_self_append (m r : List Bool) : firstMismatch m (m ++ r) = none := by
  induction m with
  | nil => rfl
  | cons b m ih => simp [firstMismatch, ih]

theorem firstMismatch_append_self (r m : List Bool) : firstMismatch (r ++ m) r = none := by
  induction r with
  | nil => cases m <;> rfl
  | cons b r ih => simp [firstMismatch, ih]

/-- The first bit that differs is the mismatch, whatever follows it. -/
theorem firstMismatch_at (a x y : List Bool) (m : Bool) :
    firstMismatch (a ++ m :: x) (a ++ (!m) :: y) = some a.length := by
  induction a with
  | nil => cases m <;> rfl
  | cons b a ih => simp [firstMismatch, ih]

/-- Every bit sent and matched: SENT, with all the bits on the line (R52). -/
theorem attempt_sent (m r : List Bool) :
    attemptOutcome m (m ++ r) = some .sent ∧ lostArbitration m (m ++ r) = false ∧
      bitsDriven m (m ++ r) = m := by
  simp [attemptOutcome, lostArbitration, bitsDriven, firstMismatch_self_append]

/-- While bits are left and all so far have matched, the attempt is not over. -/
theorem attempt_goes_on (r m : List Bool) (h : m ≠ []) : attemptOutcome (r ++ m) r = none := by
  have : ¬ m.length = 0 := by simp [h]
  simp [attemptOutcome, firstMismatch_append_self]
  omega

/-- At the first mismatch: LOST, with nothing driven after that bit, and arbitration lost where the bit is
a released 1 of the arbitration byte (R51, R52). -/
theorem attempt_lost (a x y : List Bool) (m : Bool) :
    attemptOutcome (a ++ m :: x) (a ++ (!m) :: y) = some .lost ∧
      lostArbitration (a ++ m :: x) (a ++ (!m) :: y) =
        (decide (1 ≤ a.length ∧ a.length ≤ 8) && m) ∧
      bitsDriven (a ++ m :: x) (a ++ (!m) :: y) = a ++ [m] := by
  simp [attemptOutcome, lostArbitration, bitsDriven, firstMismatch_at, List.take_append]

/-! ### The end of an event (R111, R125, R147) -/

theorem sensors_ext {a b : Sensors} (h : ∀ x, sensorOf a x = sensorOf b x) : a = b := by
  have h1 := h .entry
  have h2 := h .head
  have h3 := h .face
  have h4 := h .park
  have h5 := h .exit
  cases a
  cases b
  simp_all [sensorOf]

theorem State.timedSensor_of_law {s : State} (h : OutputsLaw s) (x : Sensor) :
    s.timedSensor x = sensorOf s.lane.sensors x := by
  have hx := h.2 x
  unfold State.timedSensor State.isBlocked at *
  generalize sensorOf s.lane.sensors x = q at *
  rcases q with ⟨b, t⟩
  dsimp only at *
  cases t <;> cases hb : (b && !s.accounted x) <;> simp_all

/-- Where the outputs and able already follow the state, the end of an event changes nothing. -/
theorem State.settleLane_of_law {s : State} (h : OutputsLaw s) (ha : s.modeCtl.able = s.ableNow) :
    s.settleLane = s := by
  have hs : ({ entry := s.timedSensor .entry, head := s.timedSensor .head,
               face := s.timedSensor .face, park := s.timedSensor .park,
               exit := s.timedSensor .exit } : Sensors) = s.lane.sensors :=
    sensors_ext fun x => by cases x <;> simp [sensorOf, State.timedSensor_of_law h]
  unfold State.settleLane
  rw [hs, ← h.1]
  have : s.withLane { s.lane with drives := s.lane.drives, sensors := s.lane.sensors } = s := rfl
  simp only [this]
  simp [ha]

/-! ### Lane records (R48) -/

theorem updRecs_of_fixed {s : State} {f : LaneRec → LaneRec} (hq : ∀ q ∈ s.lane.queue, f q = q)
    (hf : ∀ q ∈ s.lane.faceRec, f q = q) (hp : ∀ q ∈ s.lane.parkRec, f q = q) :
    s.updRecs f = s := by
  have h1 : s.lane.queue.map f = s.lane.queue := by
    conv_rhs => rw [← List.map_id s.lane.queue]
    exact List.map_congr_left hq
  have h2 : s.lane.faceRec.map f = s.lane.faceRec := by
    cases h : s.lane.faceRec <;> simp_all
  have h3 : s.lane.parkRec.map f = s.lane.parkRec := by
    cases h : s.lane.parkRec <;> simp_all
  unfold State.updRecs
  rw [h1, h2, h3]
  rfl

/-- A tote outside the lane has no flag to re-evaluate. -/
theorem State.reurgent_of_absent {s : State} {T : ToteNo} (h : s.inOwnLane T = false) :
    s.reurgent (· == T) = s := by
  have key : s.updRecs (fun q => if q.tote == T then { q with urgent := s.urgentNow q } else q)
      = s := by
    simp only [State.inOwnLane, Bool.or_eq_false_iff, List.any_eq_false] at h
    obtain ⟨⟨⟨-, hq⟩, hf⟩, hp⟩ := h
    refine updRecs_of_fixed (fun q hm => ?_) (fun q hm => ?_) (fun q hm => ?_)
    · simp [hq q hm]
    · simp only [Option.mem_def] at hm
      simp_all
    · simp only [Option.mem_def] at hm
      simp_all
  unfold State.reurgent
  simp only [key]
  simp

/-! ### The line at the face (R23, R116, R118) -/

/-- The Demand Table's answer in the words of the statements (R23). -/
theorem lineToWork_eq_answered (s : State) (T : ToteNo) :
    lineToWork s.demand.lines s.puts T = Answered s T := by
  have key : suspendedOf s.demand.lines T =
      s.demand.lines.find? fun m => decide (m.state = .suspended ∧ m.tote = T) := by
    unfold suspendedOf
    congr 1
    funext m
    by_cases h : m.state = .suspended <;> by_cases k : m.tote = T <;> simp [h, k]
  unfold lineToWork Answered workableOf
  rw [← key, List.head?_filter]
  cases suspendedOf s.demand.lines T <;> rfl

/-- The face enters RELEASING, and LEAVING with the gap present and no jam (R118). -/
theorem State.beginRelease_face (s : State) :
    s.beginRelease.lane.face =
      if s.lane.gap = true ∧ s.lane.jam = none then .leaving else .releasing := by
  cases h : s.lane.gap <;> cases k : s.lane.jam <;>
    simp [State.beginRelease, State.tryLeave, State.withLane, h, k]

/-- Its record starts a new merge wait (R118). -/
theorem State.beginRelease_faceRec (s : State) :
    s.beginRelease.lane.faceRec =
      s.lane.faceRec.map fun q => { q with mergeWait := 0, stallMark := false } := by
  unfold State.beginRelease State.tryLeave
  split <;> rfl

/-- With no line ACTIVE the park finds nothing to suspend (R116, R135). -/
theorem State.parkFace_of_no_active {s : State} {q : LaneRec} (h : s.lane.faceRec = some q)
    (ha : activeLine s.demand.lines = none) :
    s.parkFace = s.withLane
      { s.lane with
        faceRec := none
        parkRec := some { q with stage := .park, savedTag := none }
        face := .parking
        waits := { s.lane.waits with park := some 0 } } := by
  simp [State.parkFace, h, ha]

end Sys2Proof.Machine
end

