-- ==== Sys2Proof/WellFormed.lean ====
section
/-! DEFINITION. Which operands a command's row speaks of. The meanings are total and do not rest on
it: a command that is not well formed is another row's event, and its meaning carries out that event
(log 6, log 17). -/

namespace Sys2Proof

/-- A command frame that carries a command and fails the frame checks (R156, R157). -/
def isBadCommandFrame (bytes : List Byte) : Bool :=
  match bytes with
  | [] => false
  | b :: _ => b != 0 && (decodeCommand bytes).isNone

/-- The operands are those of the command's own row. -/
def Instr.wellFormed : Instr → Bool
  | .badFrame bytes => isBadCommandFrame bytes
  | .frameDiscarded bits => (decodeLine bits).isNone
  | .sensorBlocked s => s = .face || s = .park || s = .exit
  | .powerOnReset | .transaction _ | .configure _ | .setTime _ | .restart
  | .loadLine _ _ _ _ _ _ | .cancelLine _ | .placeOrder _ _ _ | .closeOrder _ | .releaseFace
  | .rest | .wake | .clearJam | .retrack | .setNotice _ _ _ | .setFloor _ | .readNotice
  | .clearNotice _ | .readStatus | .readLine _ | .readLane | .readTrack | .readConfig
  | .encoderPulse | .overdueRemoval | .divertTimeout | .oneSecondTick | .stationStale _
  | .entryStale _ _ | .stateAndHoldRefresh | .wantRefresh _ | .coldAlert _ | .coldBreach _
  | .mergeStall | .laneJam _ | .unaccountedSensor _ | .settleEnd _ | .beamStuck _
  | .beamRecovered _ | .stateFrame _ _ _ | .wantFrame _ _ _ | .dropFrame _ _ | .holdFrame _ _
  | .releaseFrame _ _ _ | .infeedFrame _ _ _ | .returnFrame _ _ | .sendAttempt | .attemptEnd _
  | .readerEvent _ | .entrySeen | .headBlocked | .faceArrived | .parkArrived | .merged
  | .mergeGap _ | .sensorClear _ | .beamBreak _ | .beamClear _ | .shortKey | .logonKey => true

end Sys2Proof
end

