-- ==== Sys2Proof/Tests/Slice0.lean ====
section
/-! SUPPORT. Tests of one step each, with figures from the manual's worked examples, the smoke tests of
WellFormed, and for each statement with hypotheses a witness that meets them. -/

namespace Sys2Proof.Tests

-- One kernel evaluation at a time: many at once take more threads than a small machine gives.
set_option Elab.async false

open Sys2Proof Sys2Proof.Machine

/-! ### Small states -/

/-- The record of a CONFIGURE with L = 6000, P_r = 1500, P_m = 4200, station 5 and every tuning field at its
default. -/
def fields : ConfigFields where
  station := 5
  loopLen := 6000
  pR := 1500
  pM := 4200
  c := 0
  wWin := 0
  divertReach := 0
  w := 0
  lapLimit := 0
  chilledBudget := 0
  frozenBudget := 0
  alert := 0
  stale := 0
  g := 0
  urgentSlack := 0
  lockRun := 0
  attemptLimit := 0
  missLimit := 0
  moveTime := 0
  mergeWait := 0
  settle := 0

/-- ACTIVE and able, with an empty lane, at bench time 10,000. -/
def work : State :=
  { State.reset with
    cfg := some (recordOf fields)
    clock := 10000
    bus := { Bus.reset with ownStation := some 5, rxOn := true, tx := .on }
    modeCtl := { mode := .active, sweepReturn := .active, able := true } }

def inMode (m : BenchMode) (s : State) : State :=
  { s with modeCtl := { s.modeCtl with mode := m, able := false } }

def line (tag : Tag) (tote : ToteNo) (handle : Handle) (qty puts : Nat) (prio : Priority)
    (st : LineState) : Line :=
  { tag, tote, handle, cls := .chilled, qty, puts, prio, state := st }

def order (handle : Handle) (deadline : Clock) : Option Order :=
  some { handle, deadline, ready := false }

/-- The Put Map of the three-order example: 501 at 3, 502 at 7, 503 at 12. -/
def threeOrders : Vector (Option Order) 16 :=
  ((putsReset.set 2 (order 501 10900)).set 6 (order 502 11500)).set 11 (order 503 12000)

/-- The three-order example after its loads (chapter 2). -/
def loaded : State :=
  { work with
    puts := threeOrders
    demand :=
      { lines := [line 11 40117 501 2 0 .normal .waiting, line 12 40117 502 1 0 .express .waiting,
          line 13 40117 503 3 0 .normal .waiting, line 14 52880 504 1 0 .normal .waiting]
        wants := [{ tote := 40117, weight := 4347, time := 10000 }] } }

/-- A lane record. -/
def rec (tote : ToteNo) (cls : TempClass) (cold : ColdRef) (stage : Stage) : LaneRec :=
  { newLaneRec tote cls cold 0 with stage }

def ambientRec (tote : ToteNo) (stage : Stage) : LaneRec := rec tote .ambient (.unknown 0) stage

/-- A face in this state with this record. -/
def withFace (s : State) (face : FaceState) (q : Option LaneRec) : State :=
  { s with lane := { s.lane with face, faceRec := q } }

/-- Tote 61204 presented with its only line, tag 40 of order 610 at position 9, ACTIVE with put count 2 of 5
(the second example of chapter 2). -/
def presenting : State :=
  let s : State :=
    { withFace work .presenting (some (ambientRec 61204 .face)) with
      puts := putsReset.set 8 (order 610 20000)
      demand := { lines := [line 40 61204 610 5 2 .normal .active], wants := [] }
      picker := { Picker.reset with
        active := some 8, toteLight := true, display := some 3, putLight := some 8 } }
  s

/-- The state with its drives and its able condition as they follow from it. -/
def settled (s : State) : State :=
  let u : State := { s with lane := { s.lane with drives := drivesOf s.lane } }
  { u with modeCtl := { u.modeCtl with able := u.ableNow } }

/-- The state after a command. -/
def after (c : Instr) (s : State) : State :=
  match exec c s with
  | .next t => t
  | .fault _ => s
  | .refused _ => s

/-! ### WellFormed -/

theorem test_wellFormed_badFrame_refuses_a_good_frame :
    (Instr.badFrame (encodeCommand .wake)).wellFormed = false := by decide +kernel

theorem test_wellFormed_badFrame_accepts_a_bad_sum :
    (Instr.badFrame [10, 0, 0]).wellFormed = true := by decide +kernel

theorem test_wellFormed_frameDiscarded_refuses_a_good_frame :
    (Instr.frameDiscarded (frameBits ⟨9, 40117, .drop⟩)).wellFormed = false := by decide +kernel

theorem test_wellFormed_frameDiscarded_accepts_a_cut_short_frame :
    (Instr.frameDiscarded ((frameBits ⟨9, 40117, .drop⟩).take 25)).wellFormed = true := by
  decide +kernel

theorem test_wellFormed_sensorBlocked_refuses_entry_and_head :
    (Instr.sensorBlocked .entry).wellFormed = false ∧
    (Instr.sensorBlocked .head).wellFormed = false ∧
    (Instr.sensorBlocked .exit).wellFormed = true := by decide +kernel

/-! ### The worked figures of the manual -/

/-- Chapter 3, case 1. -/
theorem test_weight_three_lines : loaded.weightOf 40117 = some 4411 := by decide +kernel

/-- Chapter 3, case 2: ten lines, one EXPRESS, the earliest deadline past. -/
theorem test_weight_largest :
    claimWeight ((List.range 9).map (fun i => line (BitVec.ofNat 16 (i + 1)) 7 501 1 0 .normal .waiting) ++
      [line 10 7 501 1 0 .express .waiting]) (putsReset.set 2 (order 501 9500)) 10000 7 =
      some 5631 := by decide +kernel

/-- Chapter 3, case 3: the deadline lies across the clock's wrap. -/
theorem test_weight_across_the_wrap :
    claimWeight [line 1 7 501 1 0 .normal .waiting] (putsReset.set 2 (order 501 200)) 4294967000 7 =
      some 3663 := by decide +kernel

/-- Chapter 3, cold time: a CHILLED tote with 120 s used at 10,000 is CLEAR to 11,379, at ALERT from 11,380
and BREACHED from 11,680. -/
theorem test_cold_standing_moves :
    standingOf (recordOf fields) .chilled (.known 120 10000) 11379 = some .clear ∧
    standingOf (recordOf fields) .chilled (.known 120 10000) 11380 = some .alert ∧
    standingOf (recordOf fields) .chilled (.known 120 10000) 11679 = some .alert ∧
    standingOf (recordOf fields) .chilled (.known 120 10000) 11680 = some .breached := by
  decide +kernel

/-- Chapter 3, cold time: a FROZEN tote with an UNKNOWN reference of 20,000. -/
theorem test_cold_standing_unknown :
    standingOf (recordOf fields) .frozen (.unknown 20000) 20000 = some .alert ∧
    coldUsed (recordOf fields) .frozen (.unknown 20000) 20150 = 750 ∧
    standingOf (recordOf fields) .frozen (.unknown 20000) 20300 = some .breached := by
  decide +kernel

/-- R50: the character of the arbitration byte 37 = 0 0 1 0 0 1 0 1 between its start and stop bits. -/
theorem test_character :
    characterBits 37 = [false, false, false, true, false, false, true, false, true, true] := by
  decide +kernel

/-- R50, R51: eleven quiet bits between two bytes of a frame do not end it, and twelve do. -/
theorem test_quiet_bits_in_a_frame :
    let f : Frame := ⟨9, 61204, .hold⟩
    let spaced (n : Nat) := spacedBits ((encodeFrame f).zip [0, n, 0, 11, 0, 3, 0, 0])
    decodeLine (spaced 11) = some f ∧ decodeLine (spaced 12) = none ∧
    bytesOfLine (spaced 12) = some ((encodeFrame f).take 2) := by decide +kernel

/-- Chapter 4's example: of the arbitration bytes 98, 37 and 41 the byte 37 wins, and 41 beats 98 at its second
bit. -/
theorem test_arbitration :
    lineLevel (characterBits 98) (characterBits 37) = characterBits 37 ∧
    lineLevel (characterBits 41) (characterBits 37) = characterBits 37 ∧
    lineLevel (characterBits 98) (characterBits 41) = characterBits 41 ∧
    firstMismatch (characterBits 98) (characterBits 41) = some 2 ∧
    lostArbitration (characterBits 98) (characterBits 37) = true ∧
    lostArbitration (characterBits 41) (characterBits 37) = true := by decide +kernel

/-- R50: the bytes of HOLD(61,204) from station 5 before its check. -/
theorem test_hold_bytes : (Frame.head ⟨5, 61204, .hold⟩) = [37, 6, 0, 0, 239, 20] := by
  decide +kernel

/-- R156, R157: the WAKE frame is code 10, length 0 and the check 246. -/
theorem test_wake_frame : decodeCommand [10, 0, 246] = some .wake := by decide +kernel

/-- R156: WAKE's three bytes come in, and its earlier reply goes out, most significant bit first. -/
theorem test_transaction_bit_order :
    let bits := [false, false, false, false, true, false, true, false,
      false, false, false, false, false, false, false, false,
      true, true, true, true, false, true, true, false]
    let t := after (.transaction bits)
      { inMode .rest work with link := { reply := [10, 0, 246], shiftedOut := [] } }
    t.mode = .active ∧ t.link = { reply := [10, 0, 246], shiftedOut := bits } := by
  decide +kernel

/-- R157: PLACE_ORDER 501 at position 3 with deadline 10,900, byte by byte. -/
theorem test_placeOrder_frame :
    decodeCommand [6, 7, 1, 245, 3, 0, 0, 42, 148, 60] = some (.placeOrder 501 3 10900) := by
  decide +kernel

/-- Chapter 2, the three-order example: cancelling tag 13 while 12 is ACTIVE removes the want record and
makes order 503 ready. -/
theorem test_cancel_last_workable_line :
    let s := ((loaded.setLineState 11 .done).setLineState 12 .active)
    let t := after (.cancelLine 13) s
    t.demand.wants = [] ∧ t.puts[11].map Order.ready = some true ∧
    t.bus.queue.map Frame.body = [.drop] := by decide +kernel

/-- Chapter 2: CLOSE_ORDER 504 removes the unplaced line 14. -/
theorem test_close_unplaced :
    (after (.closeOrder 504) loaded).demand.lines.map Line.tag = [11, 12, 13] := by decide +kernel

/-- Chapter 2, the second example, step 1: RELEASE_FACE keeps the put count and requests WANT. -/
theorem test_releaseFace_returns_line :
    let t := after .releaseFace presenting
    t.demand.lines.map (fun l => (l.state, l.puts)) = [(.waiting, 2)] ∧
    t.demand.wants.map WantRec.tote = [61204] ∧ t.lane.face = .releasing := by decide +kernel

/-- Chapter 2, the second example, step 4: one put at position 9 counts. -/
theorem test_beamBreak_counts :
    let t := after (.beamBreak 8) presenting
    t.demand.lines.map Line.puts = [3] ∧ t.picker.display = some 2 := by decide +kernel

/-- R136: the SHORT key with put count 2 of tag 40 raises LINE_SHORT with 40 × 256 + 2. -/
theorem test_shortKey_detail :
    (noticeRec (after .shortKey presenting).notices .lineShort).detail = 10242 := by
  decide +kernel

/-- R103: an unmatched read of a wanted tote at an able bench is taken at the read's count. -/
theorem test_reader_takes :
    (after (.readerEvent (.label 40117)) loaded).divert.records.map DivertRec.tote = [40117] := by
  decide +kernel

/-- Chapter 3, case 1: bench 9 has announced 4700 and is able; 4411 + 256 is less, so the tote is passed. -/
theorem test_reader_passes_to_a_rival :
    let b : Board := { work.board with
      stations := work.board.stations.set 9 { heard := true, able := true, age := 0 }
      entries := [{ station := 9, tote := 40117, weight := some 4700, holding := false, age := 0 }] }
    (after (.readerEvent (.label 40117)) { loaded with board := b }).divert.records = [] := by
  decide +kernel

/-- HOLD in the send slot, an attempt in progress with this count. -/
def sending (attempts : Nat) (q : List Frame) : State :=
  { work with bus := { work.bus with
      attempting := true
      slot := some { frame := ⟨5, 61204, .hold⟩, attempts }
      queue := q
      line := .frame
      meant := frameBits ⟨5, 61204, .hold⟩ } }

/-- R52: the first bit after the arbitration byte's character is read back as 1 where a start bit was sent: the
part stops driving there, the attempt is LOST and counted. -/
theorem test_attemptEnd_stops_at_the_mismatch :
    let t := after (.attemptEnd ((frameBits ⟨5, 61204, .hold⟩).take 10 ++ [true])) (sending 3 [])
    t.bus.driven.length = 11 ∧ t.bus.slot.map TxSlot.attempts = some 4 ∧
      t.bus.attempting = false := by decide +kernel

/-- R51: with another station's frame on the line the transmitter waits. -/
theorem test_sendAttempt_waits :
    let s : State := { work with bus := { work.bus with line := .frame, queue := [⟨5, 7, .hold⟩] } }
    (after .sendAttempt s).bus.attempting = false ∧
      (after .sendAttempt { s with bus := { s.bus with line := .gap } }).bus.attempting = true := by
  decide +kernel

/-- R118, R119: a tote leaves with the gap, and merges with its RELEASE from position 4200. -/
theorem test_merged_releases :
    ((after .merged (withFace work .leaving (some (ambientRec 7 .face)))).bus.queue.map
      fun f => f.body) = [.release ⟨0, 0, 0, 4200, 0⟩] := by decide +kernel

/-! ### The laws of Safety.lean from checks that evaluate -/

/-- OutputsLaw and AbleLaw, sensor by sensor. -/
def lawful (s : State) : Bool :=
  s.lane.drives == drivesOf s.lane &&
  allSensors.all (fun x =>
    (sensorOf s.lane.sensors x).time.isSome == (s.isBlocked x && !s.accounted x)) &&
  s.modeCtl.able == s.ableNow && s.queueRecords ≤ s.conf.c &&
  (s.mode != .unconfigured || s.queueRecords == 0)

theorem outputs_of {s : State} (h : lawful s = true) : OutputsLaw s := by
  simp only [lawful, allSensors, List.all_cons, List.all_nil, Bool.and_eq_true, beq_iff_eq] at h
  obtain ⟨⟨⟨⟨hd, h1, h2, h3, h4, h5, -⟩, -⟩, -⟩, -⟩ := h
  exact ⟨hd, fun x => by cases x <;> assumption⟩

theorem able_of {s : State} (h : lawful s = true) : AbleLaw s := by
  simp only [lawful, Bool.and_eq_true, Bool.or_eq_true, beq_iff_eq, bne_iff_ne,
    decide_eq_true_eq] at h
  obtain ⟨⟨⟨-, ha⟩, hc⟩, hu⟩ := h
  exact ⟨ha, fun _ => hc, fun he => hu.resolve_left (· he)⟩

/-- What holds of each of the five sensors holds of every sensor. -/
theorem every_sensor {p : Sensor → Prop} (h : ∀ x ∈ allSensors, p x) (x : Sensor) : p x :=
  h x (by cases x <;> decide)

theorem clear_of {s : State} (h : ∀ x ∈ allSensors, s.isBlocked x = false) : AllClear s :=
  every_sensor h

/-- PresentLaw of a face that presents nothing, with no line ACTIVE and the picker dark. -/
def dark (s : State) : Bool :=
  s.lane.face != .presenting &&
  s.demand.lines.all (fun l => l.state != .active &&
    (l.state != .suspended || isPlaced s.puts l.handle)) &&
  s.picker.active.isNone && s.picker.putLight.isNone && !s.picker.toteLight &&
  s.picker.display.isNone

/-- PresentLaw of a face that presents this line. -/
def presents (s : State) (l : Line) : Bool :=
  s.lane.face == .presenting && s.demand.lines.contains l && l.state == .active &&
  s.lane.faceRec.any (fun q => q.tote == l.tote) &&
  s.demand.lines.all (fun m =>
    (m.state != .active || m == l) &&
    (!(m.state == .active || m.state == .suspended) || isPlaced s.puts m.handle)) &&
  s.picker.active == positionOf s.puts l.handle && s.picker.putLight == s.picker.active &&
  s.picker.toteLight && s.picker.display == some (l.qty - l.puts)

theorem present_of_dark {s : State} (h : dark s = true) : PresentLaw s := by
  simp only [dark, Bool.and_eq_true, bne_iff_ne, ne_eq, List.all_eq_true, Bool.or_eq_true,
    Option.isNone_iff_eq_none, Bool.not_eq_true'] at h
  obtain ⟨⟨⟨⟨⟨hf, hl⟩, ha⟩, hp⟩, ht⟩, hd⟩ := h
  have hn : ∀ l ∈ s.demand.lines, l.state ≠ .active := fun l hm => (hl l hm).1
  refine ⟨⟨fun e => absurd e hf, fun ⟨l, hm, e⟩ => absurd e (hn l hm)⟩,
    fun l hm e => absurd e (hn l hm), fun l hm _ _ e _ => absurd e (hn l hm), fun l hm e => ?_,
    fun l hm e => absurd e (hn l hm), fun _ => ⟨ha, hp, ht, hd⟩⟩
  exact (hl l hm).2.resolve_left (fun n => e.elim (hn l hm) n)

theorem present_of {s : State} {l : Line} (h : presents s l = true) : PresentLaw s := by
  simp only [presents, Bool.and_eq_true, bne_iff_ne, ne_eq, List.all_eq_true, Bool.or_eq_true,
    beq_iff_eq, List.contains_iff_mem, Bool.not_eq_true', Bool.or_eq_false_iff] at h
  obtain ⟨⟨⟨⟨⟨⟨⟨⟨hf, hm⟩, hs⟩, hq⟩, hl⟩, ha⟩, hp⟩, ht⟩, hd⟩ := h
  have one : ∀ m ∈ s.demand.lines, m.state = .active → m = l :=
    fun m hm e => (hl m hm).1.resolve_left (· e)
  obtain ⟨q, hr, hqt⟩ : ∃ q, s.lane.faceRec = some q ∧ q.tote = l.tote := by
    cases e : s.lane.faceRec with
    | none => simp [e] at hq
    | some q => exact ⟨q, rfl, by simpa [e] using hq⟩
  refine ⟨⟨fun _ => ⟨l, hm, hs⟩, fun _ => hf⟩, fun m hm e => ⟨q, hr, ?_⟩,
    fun m hm n hn e e2 => (one m hm e).trans (one n hn e2).symm, fun m hm e => ?_,
    fun m hm e => ?_, fun e => absurd hf e⟩
  · rw [one m hm e, hqt]
  · rcases (hl m hm).2 with h | h
    · simp_all
    · exact h
  · rw [one m hm e]
    exact ⟨ha, hp, ht, hd⟩

/-- WantsLaw for a state without a workable line and without want records. -/
theorem wantsLaw_of_idle (s : State) (h : s.demand.wants = [])
    (hw : ∀ l ∈ s.demand.lines, isWorkable s.puts l = false) : WantsLaw s := by
  refine ⟨by simp [h], fun T => ?_⟩
  have : (s.demand.lines.filter fun l => l.tote == T && isWorkable s.puts l) = [] := by
    simp only [List.filter_eq_nil_iff]
    intro l hl
    simp [hw l hl]
  simp [h, hasWorkable, workableOf, this]

/-- WantsLaw, record by record and line by line. -/
def wanted (s : State) : Bool :=
  decide (s.demand.wants.map WantRec.tote).Nodup &&
  s.demand.wants.all (fun w => hasWorkable s.demand.lines s.puts w.tote) &&
  s.demand.lines.all (fun l =>
    !isWorkable s.puts l || s.demand.wants.any (fun w => w.tote == l.tote))

theorem wants_of {s : State} (h : wanted s = true) : WantsLaw s := by
  simp only [wanted, Bool.and_eq_true, decide_eq_true_eq, List.all_eq_true, Bool.or_eq_true,
    Bool.not_eq_true', List.any_eq_true, beq_iff_eq] at h
  obtain ⟨⟨hn, hw⟩, hl⟩ := h
  refine ⟨hn, fun T => ⟨fun ⟨w, hm, e⟩ => e ▸ hw w hm, fun hT => ?_⟩⟩
  simp only [hasWorkable, Bool.not_eq_true', List.isEmpty_eq_false_iff_exists_mem, workableOf,
    List.mem_filter, Bool.and_eq_true, beq_iff_eq] at hT
  obtain ⟨l, hm, e, hk⟩ := hT
  obtain h | ⟨w, h1, h2⟩ := hl l hm
  · simp [hk] at h
  · exact ⟨w, h1, h2.trans e⟩

/-! ### Witnesses of the statements' premises -/

theorem witness_StepTakesFront :
    ({ work with pending := [.wake, .rest] } : State).pending = [.wake, .rest] := by decide +kernel

/-- The lane jammed at the head sensor. -/
def jammed : State := { work with lane := { work.lane with jam := some .head } }

/-- A lane with these waits. -/
def waiting (w : Waits) : State := { work with lane := { work.lane with waits := w } }

/-- The beam of position 1 as given. -/
def withBeam (b : Beam) : State :=
  { work with picker := { work.picker with beams := work.picker.beams.set 0 b } }

/-- The entry sensor blocked, with its time at `n` milliseconds. -/
def entryHeld (n : Nat) : State :=
  { work with lane := { work.lane with
      sensors := { work.lane.sensors with entry := { blocked := true, time := some n } } } }

/-- Every wait below MOVE_TIME, one of them running. -/
theorem witness_IdleStep_waits :
    ∀ w, ∀ n ∈ waitOf (waiting { Waits.none with park := some 3998 }).lane.waits w,
      n + 1 < (waiting { Waits.none with park := some 3998 }).conf.moveTime := by
  intro w
  cases w <;> decide +kernel

/-- Every sensor time below MOVE_TIME, one of them running. -/
theorem witness_IdleStep_sensors :
    OutputsLaw (entryHeld 3998) ∧
    ∀ x, ∀ n ∈ (sensorOf (entryHeld 3998).lane.sensors x).time,
      n + 1 < (entryHeld 3998).conf.moveTime :=
  ⟨outputs_of (by decide +kernel), every_sensor (by decide +kernel)⟩

theorem witness_IdleStepIsOneMillisecond :
    State.reset.pending = [] ∧ State.reset.mode = .unconfigured ∧
    work.pending = [] ∧ work.mode ≠ .unconfigured ∧ work.lane.jam = none ∧
    jammed.lane.jam.isSome = true ∧ (entryHeld 3998).lane.jam = none ∧
    waitOf (waiting { Waits.none with head := some 3999 }).lane.waits .head =
      some ((waiting { Waits.none with head := some 3999 }).conf.moveTime - 1) ∧
    (sensorOf (entryHeld 3999).lane.sensors .entry).time =
      some ((entryHeld 3999).conf.moveTime - 1) ∧
    (withBeam ⟨true, false, 2999, 0⟩).picker.beams[(0 : PutIdx)].blocked = true ∧
    (withBeam ⟨false, true, 0, 2999⟩).picker.beams[(0 : PutIdx)].stuck = true ∧
    work.bus.rxOn = true ∧ work.bus.line = .gap := by decide +kernel

/-- No byte, a first byte of 0, a command frame and one of bad sum; no bit after them, and seven. -/
theorem witness_Transaction :
    (([] : List Byte) = [] ∨ ([] : List Byte).head? = some 0) ∧
    (([0, 5] : List Byte) = [] ∨ ([0, 5] : List Byte).head? = some 0) ∧
    [10, 0, 246] = encodeCommand .wake ∧
    ([10, 0, 0] : List Byte) = 10 :: [0, 0] ∧ (10 : Byte) ≠ 0 ∧ decodeCommand [10, 0, 0] = none ∧
    ([] : List Bool).length < 8 ∧ (List.replicate 7 true).length < 8 := by decide +kernel

/-- One frame for each failure: unknown code, wrong sum, one byte, wrong number of bytes, wrong length. -/
theorem witness_BadFrameIsAnswered :
    ((22 : Byte) ≠ 0 ∧ 21 < (22 : Byte).toNat ∧ byteSum [10, 0, 0] ≠ 0 ∧
      ([0] : List Byte).length ≠ (0 : Byte).toNat + 2) ∧
    ∀ c : LinkCommand, c.code = 10 → c.fieldBytes.length ≠ (1 : Byte).toNat := by
  refine ⟨by decide +kernel, fun c h => ?_⟩
  cases c <;> first | (simp [LinkCommand.fieldBytes]; done) | (revert h; simp [LinkCommand.code])

theorem witness_Unconfigured : State.reset.mode = .unconfigured ∧
    LinkCommand.wake.code ≠ 1 ∧ LinkCommand.wake.code ≠ 17 ∧ LinkCommand.wake.code ≠ 3 := by
  decide +kernel

theorem witness_ConfigurationHeld : StructuralValid fields ∧
    StructuralValid { fields with station := 31, loopLen := 64, pR := 63, pM := 0 } := by
  unfold StructuralValid; decide +kernel

theorem witness_Configure :
    work.mode ≠ .unconfigured ∧ State.reset.mode = .unconfigured ∧
    ¬ StructuralValid { fields with loopLen := 63 } ∧ ¬ StructuralValid { fields with station := 32 } ∧
    StructuralValid fields ∧ State.reset.bus.queue = [] ∧ State.reset.bus.slot = none ∧
    State.reset.lane.jam = none ∧ State.reset.laneEmpty = true ∧
    State.reset.notices.sources[NoticeSource.modeChanged.index].pending = false := by
  unfold StructuralValid; decide +kernel

theorem witness_Configure_clear_and_not :
    AllClear State.reset ∧ ¬ AllClear (State.reset.sensorLevel .park true) :=
  ⟨clear_of (by decide +kernel), fun h => absurd (h .park) (by decide +kernel)⟩

theorem witness_Restart : State.reset.mode = .unconfigured ∧ work.mode ≠ .unconfigured ∧
    0 < work.conf.c ∧ work.bus.attempting = false ∧ (sending 3 []).bus.attempting = true ∧
    (sending 3 []).mode ≠ .unconfigured := by decide +kernel

theorem witness_Restart_clear_and_not :
    AllClear work ∧ ¬ AllClear (work.sensorLevel .entry true) :=
  ⟨clear_of (by decide +kernel), fun h => absurd (h .entry) (by decide +kernel)⟩

theorem witness_configured : work.mode ≠ .unconfigured := by decide +kernel

/-- A record in every place of the lane: in flight, queued, at the face and in the park. -/
def stocked : State :=
  settled { work with
    divert := { work.divert with
      records := [{ tote := 40117, readCount := 0, takeTime := 9990
                    entry := some { cls := .frozen, cold := .known 120 9990, laps := 2 } }] }
    lane := { work.lane with
      queue := [rec 7 .chilled (.known 120 10000) .queued, ambientRec 8 .queued]
      face := .releasing
      faceRec := some (rec 9 .frozen (.unknown 9900) .face)
      parkRec := some { ambientRec 6 .park with savedTag := some 14 } } }

theorem witness_SetTimeKeepsIntervals :
    stocked.mode ≠ .unconfigured ∧ stocked.divert.records.length = 1 ∧
    stocked.lane.queue.length = 2 ∧ stocked.lane.faceRec.isSome = true ∧
    stocked.lane.parkRec.isSome = true ∧ (laneRecords stocked).length = 4 := by decide +kernel

/-- A want record announced at 4347: at 10,400 its weight lies 128 or more from that, and at 10,000 less. -/
theorem witness_SetTimeKeepsIntervals_wants :
    (loaded.mode ≠ .unconfigured ∧ loaded.demand.wants.map WantRec.weight = [4347] ∧
      (after (.setTime 10400) loaded).weightOf 40117 = some 4811 ∧
      (after (.setTime 10000) loaded).weightOf 40117 = some 4411 ∧
      elapsed 10400 (10000 + (10400 - loaded.clock)) < loaded.conf.refreshPeriod ∧
      loaded.bus.tx = .on) ∧ HasRoom loaded ∧ WantsLaw loaded :=
  ⟨by decide +kernel, by unfold HasRoom; decide +kernel, wants_of (by decide +kernel)⟩

/-- A tote RELEASING with this merge wait count. -/
def releasing (mergeWait : Nat) : State :=
  settled (withFace work .releasing (some { ambientRec 7 .face with mergeWait }))

theorem witness_TickCountsTheSecond :
    State.reset.mode = .unconfigured ∧ (releasing 29).mode ≠ .unconfigured ∧
    (releasing 29).lane.face = .releasing ∧
    (releasing 29).lane.faceRec = some { ambientRec 7 .face with mergeWait := 29 } ∧
    (releasing 29).conf.mergeWait ≤ 29 + 1 ∧ (ambientRec 7 .face).stallMark = false ∧
    (releasing 29).tracker.windowCount = 0 ∧
    ({ releasing 29 with tracker := { work.tracker with windowCount := 4 } } : State).lane.face =
      .releasing := by decide +kernel

/-- The three-order example with its wanted tote queued, CHILLED, at this bench time. -/
def cooling (clock : Clock) (alertMark : Bool) : State :=
  { loaded with
    clock
    lane := { loaded.lane with
      queue := [{ rec 40117 .chilled (.known 120 10000) .queued with alertMark }] } }

/-- R121, R42: the tick to 11,380 takes the tote to ALERT, its want record announced again, and the tick to
11,680 to BREACHED, its want record and open lines given up. -/
theorem test_tick_alerts_and_breaches :
    (let t := after .oneSecondTick (cooling 11379 false)
     (noticeRec t.notices .coldAlert).detail = 40117 ∧
      t.lane.queue.map (fun q => (q.alertMark, q.urgent)) = [(true, true)] ∧
      t.demand.wants.map WantRec.tote = [40117]) ∧
    (let t := after .oneSecondTick (cooling 11679 true)
     (noticeRec t.notices .coldBreach).detail = 40117 ∧ t.demand.wants = [] ∧
      t.demand.lines.map Line.state = [.held, .held, .held, .waiting] ∧
      t.bus.queue.map Frame.body = [.drop]) := by decide +kernel

/-- The three-order example with its tote announced at this weight. -/
def announcedAt (weight : Nat) : State :=
  { loaded with demand := { loaded.demand with
      wants := [{ tote := 40117, weight, time := 10000 }] } }

/-- R40 case 2: the tick to 10,001 makes the weight 4412, announced where 4284 was, and not where 4285 was. -/
theorem test_tick_announces_a_change_of_128 :
    (after .oneSecondTick (announcedAt 4284)).bus.queue.map Frame.body = [.want 4412] ∧
    (after .oneSecondTick (announcedAt 4284)).demand.wants =
      [{ tote := 40117, weight := 4412, time := 10001 }] ∧
    (after .oneSecondTick (announcedAt 4285)).bus.queue = [] := by decide +kernel

/-- A queued record that reaches ALERT at the new clock, and one that is BREACHED then, with open lines and a
want record; and want records a change of 128, less than it and a refresh period away. -/
theorem witness_TickCountsTheSecond_cold :
    (let s := cooling 11379 false
     let q := rec 40117 .chilled (.known 120 10000) .queued
     q ∈ laneRecords s ∧ q.alertMark = false ∧ 0 < coldRemaining s.conf q.cls q.cold (s.clock + 1) ∧
      coldRemaining s.conf q.cls q.cold (s.clock + 1) ≤ (alertMargin s.conf q.cls : Int)) ∧
    (let s := cooling 11679 true
     let q := { rec 40117 .chilled (.known 120 10000) .queued with alertMark := true }
     q ∈ laneRecords s ∧ q.breachMark = false ∧
      coldRemaining s.conf q.cls q.cold (s.clock + 1) ≤ 0 ∧
      (∃ l ∈ s.demand.lines, l.tote = 40117 ∧ l.state = .waiting) ∧ s.bus.tx = .on) ∧
    (OwnLaneLaw (cooling 11679 true) ∧ LinesLaw (cooling 11679 true) ∧
      HasRoom (cooling 11679 true) ∧ WantsLaw (cooling 11679 true)) ∧
    ((announcedAt 4284).mode ≠ .unconfigured ∧
      (after .oneSecondTick (announcedAt 4284)).weightOf 40117 = some 4412 ∧
      elapsed 10001 10000 < (announcedAt 4284).conf.refreshPeriod ∧
      (announcedAt 4284).conf.refreshPeriod ≤
        elapsed ({ announcedAt 4347 with clock := 10009 }.clock + 1) 10000) ∧
    OwnLaneLaw (announcedAt 4284) ∧ LinesLaw (announcedAt 4284) ∧ HasRoom (announcedAt 4284) ∧
    WantsLaw (announcedAt 4284) := by
  refine ⟨by decide +kernel, by decide +kernel,
    ⟨by unfold OwnLaneLaw; decide +kernel, by unfold LinesLaw; decide +kernel,
      by unfold HasRoom; decide +kernel, wants_of (by decide +kernel)⟩, by decide +kernel,
    by unfold OwnLaneLaw; decide +kernel, by unfold LinesLaw; decide +kernel,
    by unfold HasRoom; decide +kernel, wants_of (by decide +kernel)⟩
theorem witness_NoticeSettingsAndClear :
    work.mode ≠ .unconfigured ∧ (1 : Byte).toNat ≤ 1 ∧ (7 : Byte).toNat ≤ 7 ∧
    7 < (8 : Byte).toNat ∧ 1 < (2 : Byte).toNat ∧ 19 < (20 : Byte).toNat ∧
    (0 : Byte).toNat = 0 := by decide +kernel

/-- Two sources eligible at one level: the lower number is chosen. -/
def twoNotices : State := (work.raise .laneJam 5).raise .coldBreach 7

theorem witness_ReadNoticeChoosesTheHighest :
    twoNotices.mode ≠ .unconfigured ∧
    (let i : Fin 19 := 0
     twoNotices.notices.sources[i].pending = true ∧ twoNotices.notices.sources[i].enable = true ∧
     ∀ j : Fin 19, twoNotices.notices.sources[j].pending = true →
      twoNotices.notices.sources[j].enable = true →
      twoNotices.notices.sources[j].level < twoNotices.notices.sources[i].level ∨
        twoNotices.notices.sources[j].level = twoNotices.notices.sources[i].level ∧ i ≤ j) ∧
    (∀ j : Fin 19, work.notices.sources[j].pending = false ∨
      work.notices.sources[j].enable = false) := by decide +kernel

/-- All eight slots in use: a divert record, five queued records, the face and the park record. -/
def eightTotes : State :=
  { stocked with lane := { stocked.lane with
      queue := stocked.lane.queue ++
        [ambientRec 1 .queued, ambientRec 2 .queued, ambientRec 3 .queued] } }

theorem witness_ReadLaneSlots :
    stocked.mode ≠ .unconfigured ∧ (ownTotes stocked).length = 5 ∧
    (ownTotes eightTotes).length = 8 ∧ eightTotes.mode ≠ .unconfigured ∧
    stocked.divert.records[0]?.isSome = true ∧
    (stocked.lane.queue ++ stocked.lane.faceRec.toList ++ stocked.lane.parkRec.toList)[3]? =
      some { ambientRec 6 .park with savedTag := some 14 } := by decide +kernel

theorem witness_ReadStatusLineTrackAndConfig : loaded.mode ≠ .unconfigured ∧
    (∀ l ∈ loaded.demand.lines, l.tag ≠ 99) ∧
    (loaded.demand.lines.find? fun l => l.tag == 11) =
      some (line 11 40117 501 2 0 .normal .waiting) ∧
    work.mode ≠ .unconfigured ∧ work.cfg = some (recordOf fields) := by decide +kernel

theorem witness_ClaimWeight :
    (∃ l ∈ loaded.demand.lines, l.tote = 40117 ∧ l.state = .waiting) ∧
    (∃ l ∈ loaded.demand.lines, (deadlineOf loaded.puts l.handle).map
      (timeTo · loaded.clock) = some 900) := by decide +kernel

/-- ACTIVE with the three orders placed and no line. -/
def placed : State := { work with puts := threeOrders }

/-- ACTIVE with one line, of an unplaced handle. -/
def unplaced : State :=
  { work with demand := { lines := [line 14 52880 504 1 0 .normal .waiting], wants := [] } }

theorem witness_LoadLine_refusals :
    ((0 : Tag) = 0 ∨ isProduct work.conf 7 = false) ∧ isProduct work.conf 8388608 = false ∧
    isProduct work.conf 8388607 = true ∧ isProduct loaded.conf 40117 = true ∧
    (∃ l ∈ loaded.demand.lines, l.tag = 11) ∧ (99 : Byte).toNat ≤ 99 ∧
    (let full : State := { work with demand := { work.demand with
        lines := List.replicate 128 (line 9 7 501 1 1 .normal .done) } }
     (∀ l ∈ full.demand.lines, l.tag ≠ 5) ∧ 128 ≤ full.demand.lines.length) := by decide +kernel

theorem witness_LoadLine :
    (unplaced.mode ≠ .unconfigured ∧ isProduct unplaced.conf 7 = true ∧
      (∀ l ∈ unplaced.demand.lines, l.tag ≠ 15) ∧ unplaced.demand.lines.length < 128 ∧
      unplaced.inOwnLane 7 = false ∧ isPlaced unplaced.puts 504 = false ∧
      hasWorkable unplaced.demand.lines unplaced.puts 7 = false ∧
      (∃ l ∈ unplaced.demand.lines, l.handle = 504)) ∧
    (isPlaced placed.puts 501 = true ∧ positionOf placed.puts 501 = some 2 ∧
      (after (.loadLine 15 7 501 0 1 0) placed).weightOf 7 = some 3259 ∧
      placed.inOwnLane 7 = false ∧ placed.bus.tx = .on ∧ placed.bus.queue.length < 15) ∧
    ((∃ w ∈ loaded.demand.wants, w.tote = 40117) ∧ isPlaced loaded.puts 501 = true ∧
      (after (.loadLine 15 40117 501 0 1 1) loaded).weightOf 40117 = some 4475 ∧
      isProduct loaded.conf 40117 = true ∧ (∀ l ∈ loaded.demand.lines, l.tag ≠ 15)) ∧
    OutputsLaw unplaced ∧ AbleLaw unplaced ∧ WantsLaw unplaced ∧ WantsLaw placed ∧
    WantsLaw loaded :=
  ⟨by decide +kernel, by decide +kernel, by decide +kernel, outputs_of (by decide +kernel), able_of (by decide +kernel),
    wantsLaw_of_idle _ rfl (by decide +kernel), wantsLaw_of_idle _ rfl (by decide +kernel),
    wants_of (by decide +kernel)⟩

theorem witness_CancelLine :
    loaded.mode ≠ .unconfigured ∧ (∀ l ∈ loaded.demand.lines, l.tag ≠ 99) ∧
    (loaded.demand.lines.map Line.tag).Nodup ∧
    (loaded.demand.lines.find? fun l => l.tag == 11) =
      some (line 11 40117 501 2 0 .normal .waiting) ∧
    ((loaded.setLineState 11 .held).demand.lines.find? fun l => l.tag == 11) =
      some (line 11 40117 501 2 0 .normal .held) ∧
    ((loaded.setLineState 11 .short).demand.lines.find? fun l => l.tag == 11) =
      some (line 11 40117 501 2 0 .normal .short) ∧
    (presenting.demand.lines.find? fun l => l.tag == 40) =
      some (line 40 61204 610 5 2 .normal .active) ∧ presenting.picker.active = some 8 ∧
    loaded.inOwnLane 40117 = false := by decide +kernel

/-- Tote 40117 with one workable line, of order 503 at position 12, whose other line is DONE. -/
def lastLine : State :=
  { placed with demand :=
      { lines := [line 13 40117 503 3 0 .normal .waiting, line 16 7 503 1 1 .normal .done]
        wants := [{ tote := 40117, weight := 3259, time := 10000 }] } }

/-- Its last workable line goes and its order becomes ready; and a line of an unplaced handle. -/
theorem witness_CancelLine_last :
    (let s := lastLine
     let l := line 13 40117 503 3 0 .normal .waiting
     s.mode ≠ .unconfigured ∧ s.demand.lines.find? (fun l => l.tag == 13) = some l ∧
      (s.demand.lines.map Line.tag).Nodup ∧ s.inOwnLane 40117 = false ∧
      isPlaced s.puts 503 = true ∧
      (∀ m ∈ s.demand.lines, m.tote = l.tote → m.tag ≠ 13 → isWorkable s.puts m = false) ∧
      s.bus.tx = .on ∧ s.bus.queue.length < 15 ∧ positionOf s.puts l.handle = some 11 ∧
      s.puts[(11 : PutIdx)] = order 503 12000 ∧
      ∀ m ∈ s.demand.lines, m.handle = l.handle → m.tag ≠ 13 → m.state = .done) ∧
    (unplaced.demand.lines.find? (fun l => l.tag == 14) =
        some (line 14 52880 504 1 0 .normal .waiting) ∧ positionOf unplaced.puts 504 = none) ∧
    WantsLaw lastLine :=
  ⟨by decide +kernel, by decide +kernel, wants_of (by decide +kernel)⟩

/-- An order whose waiting line becomes workable, and one whose lines are all closed already. -/
theorem witness_PlaceOrder_want_and_ready :
    (unplaced.mode ≠ .unconfigured ∧ positionOf unplaced.puts 504 = none ∧
      unplaced.puts[(0 : PutIdx)] = none ∧
      (∃ l ∈ unplaced.demand.lines, l.tote = 52880 ∧ l.handle = 504 ∧ l.state = .waiting) ∧
      hasWorkable unplaced.demand.lines unplaced.puts 52880 = false ∧
      (after (.placeOrder 504 1 10900) unplaced).weightOf 52880 = some 3259 ∧
      unplaced.bus.tx = .on ∧ unplaced.bus.queue.length + unplaced.demand.lines.length < 16) ∧
    (let s := unplaced.setLineState 14 .short
     (∃ l ∈ s.demand.lines, l.handle = 504) ∧
      ∀ l ∈ s.demand.lines, l.handle = 504 →
        l.state = .done ∨ l.state = .short ∨ l.state = .cancelled) ∧ WantsLaw unplaced :=
  ⟨by decide +kernel, by decide +kernel, wantsLaw_of_idle _ rfl (by decide +kernel)⟩

theorem witness_PlaceOrder :
    (placed.mode ≠ .unconfigured ∧ (16 : Byte).toNat = (15 : PutIdx).val + 1 ∧
      16 < (17 : Byte).toNat ∧ positionOf placed.puts 501 = some 2 ∧
      positionOf placed.puts 600 = none ∧ placed.puts[(2 : PutIdx)] = order 501 10900 ∧
      placed.puts[(15 : PutIdx)] = none) ∧ LinesLaw placed ∧ WantsLaw placed :=
  ⟨by decide +kernel, by unfold LinesLaw; decide +kernel,
    wantsLaw_of_idle _ rfl (by decide +kernel)⟩

/-- A new deadline for an order with a waiting line of a wanted tote, queued in the lane: the weight changes by
less than 128 and by more, and the tote turns urgent or not. -/
theorem witness_PlaceOrder_deadline :
    (let s := { cooling 10000 false with demand := { loaded.demand with
        lines := loaded.demand.lines.map fun l => { l with prio := .express } } }
     positionOf s.puts 501 = some 2 ∧ s.puts[(2 : PutIdx)] = order 501 10900 ∧
      (∃ w ∈ s.demand.wants, ∃ l ∈ s.demand.lines,
        l.tote = w.tote ∧ l.handle = 501 ∧ l.state = .waiting ∧ l.prio = .express) ∧
      (∃ q ∈ laneRecords s, ∃ l ∈ s.demand.lines, l.tote = q.tote ∧ l.handle = 501) ∧
      timeTo 10600 s.clock ≤ (s.conf.urgentSlack : Int) ∧
      (s.conf.urgentSlack : Int) < timeTo 10601 s.clock) ∧
    ((after (.placeOrder 501 3 10900) loaded).weightOf 40117 = some 4411 ∧
      (after (.placeOrder 501 3 10800) loaded).weightOf 40117 = some 4511) ∧
    HasRoom loaded ∧ WantsLaw loaded :=
  ⟨by decide +kernel, by decide +kernel, by unfold HasRoom; decide +kernel,
    wants_of (by decide +kernel)⟩

theorem witness_CloseOrder :
    State.reset.mode = .unconfigured ∧ loaded.mode ≠ .unconfigured ∧
    positionOf loaded.puts 501 = some 2 ∧
    (∃ l ∈ loaded.demand.lines, l.handle = 501 ∧ l.state = .waiting) ∧
    positionOf loaded.puts 504 = none ∧ (∃ l ∈ loaded.demand.lines, l.handle = 504) ∧
    (∀ l ∈ loaded.demand.lines, l.handle ≠ 999) ∧ positionOf loaded.puts 999 = none ∧
    (∀ l ∈ (loaded.setLineState 13 .done).demand.lines, l.handle = 503 →
      l.state = .done ∨ l.state = .short ∨ l.state = .cancelled) := by decide +kernel

/-- The face presented with one ACTIVE line. -/
theorem presenting_lines : LinesLaw presenting := by unfold LinesLaw; decide +kernel

theorem presenting_present : PresentLaw presenting :=
  present_of (l := line 40 61204 610 5 2 .normal .active) (by decide +kernel)

theorem witness_ReleaseFace :
    (work.mode ≠ .unconfigured ∧ work.lane.face ≠ .presenting ∧ presenting.mode ≠ .unconfigured ∧
      presenting.lane.face = .presenting) ∧ LinesLaw presenting ∧ PresentLaw presenting :=
  ⟨by decide +kernel, presenting_lines, presenting_present⟩

/-- Three queued records, the first CHILLED and KNOWN. -/
def queued : State :=
  { work with lane := { work.lane with
      queue := [rec 7 .chilled (.known 120 10000) .queued, ambientRec 8 .queued,
        ambientRec 9 .queued] } }

/-- The presented line with this put count, while the queued tote 7 turns urgent at the next tick. -/
def overtaken (puts : Nat) : State :=
  { presenting with
    clock := 11379
    lane := { presenting.lane with queue := queued.lane.queue }
    demand := { lines := [line 40 61204 610 5 puts .normal .active], wants := [] }
    picker := { presenting.picker with display := some (5 - puts) } }

theorem overtaken_laws (puts : Nat) (h : puts = 0 ∨ puts = 2) :
    LinesLaw (overtaken puts) ∧ PresentLaw (overtaken puts) ∧ OwnLaneLaw (overtaken puts) ∧
    WantsLaw (overtaken puts) := by
  rcases h with rfl | rfl
  · exact ⟨by unfold LinesLaw; decide +kernel,
      present_of (l := line 40 61204 610 5 0 .normal .active) (by decide +kernel),
      by unfold OwnLaneLaw; decide +kernel, wantsLaw_of_idle _ rfl (by decide +kernel)⟩
  · exact ⟨by unfold LinesLaw; decide +kernel,
      present_of (l := line 40 61204 610 5 2 .normal .active) (by decide +kernel),
      by unfold OwnLaneLaw; decide +kernel, wantsLaw_of_idle _ rfl (by decide +kernel)⟩

/-- The queue head turns urgent at the new clock, and the presented tote is not urgent. -/
theorem witness_TickCountsTheSecond_preemption :
    (let s := overtaken 0
     let h := rec 7 .chilled (.known 120 10000) .queued
     s.mode = .active ∧ s.lane.jam = none ∧ s.lane.face = .presenting ∧ s.lane.parkRec = none ∧
      s.lane.faceRec = some (ambientRec 61204 .face) ∧ s.lane.queue = h :: queued.lane.queue.tail ∧
      h.urgent = false ∧
      coldRemaining s.conf h.cls h.cold (s.clock + 1) ≤ (alertMargin s.conf h.cls : Int) ∧
      (∀ l ∈ s.demand.lines, l.tote = 61204 → l.state = .active ∧ l.prio = .normal)) ∧
    (overtaken 2).demand.lines.map Line.puts = [2] ∧
    (after .oneSecondTick (overtaken 0)).lane.face = .parking ∧
    (after .oneSecondTick (overtaken 2)).lane.face = .presenting := by decide +kernel

/-- The presented tote is FROZEN and breached at the next tick. -/
def presentingAtLimit : State :=
  withFace presenting .presenting (some (rec 61204 .frozen (.known 899 10000) .face))

theorem witness_TickCountsTheSecond_presented :
    (let q := rec 61204 .frozen (.known 899 10000) .face
     q ∈ laneRecords presentingAtLimit ∧ q.breachMark = false ∧
      presentingAtLimit.lane.face = .presenting ∧
      coldRemaining presentingAtLimit.conf q.cls q.cold (presentingAtLimit.clock + 1) ≤ 0) ∧
    LinesLaw presentingAtLimit ∧ PresentLaw presentingAtLimit ∧ OwnLaneLaw presentingAtLimit ∧
    WantsLaw presentingAtLimit :=
  ⟨by decide +kernel, presenting_lines,
    present_of (l := line 40 61204 610 5 2 .normal .active) (by decide +kernel),
    by unfold OwnLaneLaw; decide +kernel, wantsLaw_of_idle _ rfl (by decide +kernel)⟩

theorem witness_Rest :
    (inMode .draining work).mode = .draining ∧ (inMode .sweeping work).mode = .sweeping ∧
    work.mode = .active ∧ work.bus.tx = .on ∧ work.bus.queue.length < 16 ∧ work.laneEmpty = true ∧
    queued.laneEmpty = false := by decide +kernel

/-- REST with an empty lane. -/
def resting : State := { inMode .rest work with bus := { work.bus with tx := .listenOnly } }

theorem witness_Wake :
    resting.mode = .rest ∧ resting.mode ≠ .unconfigured ∧ resting.bus.queue.length < 16 ∧
    (inMode .draining work).mode = .draining ∧ (inMode .sweeping work).mode = .sweeping := by
  decide +kernel

/-- The jammed lane with an EMPTY face, these queued and parked records and this head level. -/
def jammedWith (queue : List LaneRec) (parkRec : Option LaneRec) (head : Bool) : State :=
  { jammed with lane := { jammed.lane with
      queue, parkRec
      sensors := { jammed.lane.sensors with head := { blocked := head, time := none } } } }

theorem witness_ClearJam :
    work.lane.jam = none ∧ jammed.lane.jam ≠ none ∧ jammed.mode = .active ∧
    jammed.lane.face = .empty ∧ jammed.lane.preempted = false ∧ jammed.lane.queue = [] ∧
    jammed.lane.parkRec = none ∧
    (withFace jammed .leaving (some (ambientRec 7 .face))).lane.face ≠ .empty ∧
    (withFace jammed .leaving (some (ambientRec 7 .face))).lane.face ≠ .releasing ∧
    (let s := withFace jammed .releasing (some (ambientRec 7 .face))
     s.lane.face = .releasing ∧ s.lane.gap = false ∧
      (after (.mergeGap true) s).lane.gap = true ∧
      (after (.mergeGap true) s).lane.face = .releasing) ∧
    (jammedWith [] (some (ambientRec 7 .park)) false).lane.parkRec = some (ambientRec 7 .park) ∧
    (jammedWith [ambientRec 7 .queued] none true).lane.queue = ambientRec 7 .queued :: [] ∧
    (jammedWith [ambientRec 7 .queued] none true).isBlocked .head = true ∧
    (jammedWith [ambientRec 7 .queued] none false).isBlocked .head = false := by decide +kernel

theorem witness_ClearJam_sweep :
    (let s := inMode .sweeping jammed
     s.mode = .sweeping ∧ s.laneEmpty = true ∧ s.lane.preempted = false ∧ s.lane.jam ≠ none) ∧
    AllClear (inMode .sweeping jammed) :=
  ⟨by decide +kernel, clear_of (by decide +kernel)⟩

/-- One expected arrival that the count has passed by this much. -/
def passedBy (n : Nat) (lock : LockState) (misses attempts : Nat) : State :=
  { work with tracker := { work.tracker with
      eal := [{ tote := 7, expected := 0 - BitVec.ofNat 16 n, cls := .ambient
                cold := .known 0 10000, laps := 1 }]
      lock, misses, attempts } }

theorem witness_TrackerLock :
    (∀ e ∈ (passedBy 40 .locked 0 0).tracker.eal.head?,
      signed16 ((passedBy 40 .locked 0 0).count - e.expected) ≤
        ((passedBy 40 .locked 0 0).conf.wWin : Int)) ∧
    (∀ e ∈ (passedBy 41 .locked 0 0).tracker.eal,
      ((passedBy 41 .locked 0 0).conf.wWin : Int) <
        signed16 ((passedBy 41 .locked 0 0).count - e.expected)) ∧
    (passedBy 41 .locked 1 0).tracker.misses + 1 < (passedBy 41 .locked 1 0).conf.missLimit ∧
    (passedBy 41 .locked 2 0).conf.missLimit ≤ (passedBy 41 .locked 2 0).tracker.misses + 1 ∧
    (passedBy 41 .seeking 0 18).tracker.attempts + 1 <
      (passedBy 41 .seeking 0 18).conf.attemptLimit ∧
    (passedBy 41 .confirming 0 19).conf.attemptLimit ≤
      (passedBy 41 .confirming 0 19).tracker.attempts + 1 := by decide +kernel

/-- One divert record in flight, read at count 0, with this entry part. -/
def inFlightOf (entry : Option EntryPart) (count : Count) : State :=
  { work with
    count
    divert := { work.divert with
      records := [{ tote := 40117, readCount := 0, takeTime := 10000, entry }] } }

/-- One divert record in flight, read at count 0, with a KNOWN entry part. -/
def inFlight (count : Count) : State :=
  inFlightOf (some { cls := .ambient, cold := .known 120 10000, laps := 0 }) count

theorem inFlight_lawful : lawful (inFlight 0) = true ∧ lawful (inFlight 200) = true := by
  decide +kernel

theorem inFlight_ownLane : OwnLaneLaw (inFlight 0) ∧ OwnLaneLaw (inFlight 200) := by
  unfold OwnLaneLaw; decide +kernel

/-- R106: the pulse to count 200 raises DIVERT_FAIL, requests RELEASE and expects the tote at 6000. -/
theorem test_pulse_times_out :
    let t := after .encoderPulse (inFlight 199)
    (noticeRec t.notices .divertFail).detail = 40117 ∧
      t.bus.queue.map Frame.body = [.release ⟨0, 120, 0, 1500, 0⟩] ∧
      t.tracker.eal.map (fun e => (e.tote, e.expected, e.laps)) = [(40117, 6000, 1)] := by
  decide +kernel

/-- R83, R91: the pulse that takes an expected arrival 41 counts past is the third miss. -/
theorem test_pulse_misses :
    let t := after .encoderPulse (passedBy 40 .locked 2 0)
    t.tracker.lock = .seeking ∧ t.tracker.eal = [] ∧
      (noticeRec t.notices .trackLost).detail = 7 := by decide +kernel

/-- A record that times out at the new count, in a lane with nothing else, and in DRAINING. -/
theorem witness_PulseMovesTheCount :
    (State.reset.mode = .unconfigured ∧ (inFlight 199).mode ≠ .unconfigured ∧
      (∀ d ∈ (inFlight 199).divert.records,
        signed16 ((inFlight 199).count + 1 - d.readCount) ≥
          ((inFlight 199).conf.divertReach : Int)) ∧
      (inFlight 199).bus.tx = .on ∧ (inFlight 199).bus.queue.length + 1 < 16 ∧
      (inFlight 199).tracker.eal = [] ∧
      signed16 ((inFlight 199).count + 1 - (0 + BitVec.ofNat 16 (inFlight 199).conf.loopLen)) ≤
        ((inFlight 199).conf.wWin : Int) ∧
      lawful (inFlight 199) = true ∧ lawful (inMode .draining (inFlight 199)) = true ∧
      (inMode .draining (inFlight 199)).laneEmpty = false) ∧
    OutputsLaw (inMode .draining (inFlight 199)) ∧ AbleLaw (inMode .draining (inFlight 199)) ∧
    OwnLaneLaw (inMode .draining (inFlight 199)) :=
  ⟨by decide +kernel, outputs_of (by decide +kernel), able_of (by decide +kernel),
    by unfold OwnLaneLaw; decide +kernel⟩

/-- At the new count the one expected arrival is overdue, with the lock at and short of its limits, and is not
overdue; no divert record is in flight. -/
theorem witness_PulseMovesTheCount_overdue :
    (let s := passedBy 40 .locked 2 0
     (∀ e ∈ s.tracker.eal, (s.conf.wWin : Int) < signed16 (s.count + 1 - e.expected)) ∧
      (s.tracker.eal.map EalEntry.tote).Nodup ∧ s.tracker.eal.length = 1 ∧
      s.divert.records = [] ∧ s.mode ≠ .unconfigured ∧
      s.conf.missLimit ≤ s.tracker.misses + 1) ∧
    (passedBy 40 .locked 1 0).tracker.misses + 1 < (passedBy 40 .locked 1 0).conf.missLimit ∧
    (passedBy 40 .seeking 0 18).tracker.attempts + 1 <
      (passedBy 40 .seeking 0 18).conf.attemptLimit ∧
    (passedBy 40 .confirming 0 19).conf.attemptLimit ≤
      (passedBy 40 .confirming 0 19).tracker.attempts + 1 ∧
    (let s := passedBy 39 .locked 0 0
     (∀ e ∈ s.tracker.eal, -(s.conf.wWin : Int) ≤ signed16 (e.expected - (s.count + 1))) ∧
      s.tracker.eal.length + s.divert.records.length ≤ 32) ∧
    OwnLaneLaw (passedBy 39 .locked 0 0) := by unfold OwnLaneLaw; decide +kernel

theorem witness_DivertTimeout :
    ((inFlight 199).mode ≠ .unconfigured ∧ (inFlight 199).mode ≠ .draining ∧
      (inFlight 199).bus.tx = .on ∧ (inFlight 199).bus.queue.length < 15 ∧
      signed16 ((inFlight 199).count - 0) < ((inFlight 199).conf.divertReach : Int) ∧
      ((inFlight 200).conf.divertReach : Int) ≤ signed16 ((inFlight 200).count - 0) ∧
      signed16 ((inFlight 200).count - (0 + BitVec.ofNat 16 (inFlight 200).conf.loopLen)) ≤
        ((inFlight 200).conf.wWin : Int) ∧ (inFlight 200).tracker.eal = []) ∧
    OutputsLaw (inFlight 200) ∧ AbleLaw (inFlight 200) ∧ OwnLaneLaw (inFlight 200) :=
  ⟨by decide +kernel, outputs_of inFlight_lawful.2, able_of inFlight_lawful.2, inFlight_ownLane.2⟩

/-- The same without an entry part, with an UNKNOWN one, and in DRAINING with nothing else in the lane. -/
theorem witness_DivertTimeout_entries :
    (let s := inFlightOf none 200
     lawful s = true ∧ (s.divert.records.head?.map DivertRec.entry) = some none) ∧
    (let s := inFlightOf (some { cls := .frozen, cold := .unknown 9990, laps := 3 }) 200
     lawful s = true ∧ s.divert.records.length = 1) ∧
    (let s := inMode .draining (inFlight 200)
     lawful s = true ∧ s.mode = .draining ∧ s.lane.queue = [] ∧ s.lane.parkRec = none ∧
      s.lane.face = .empty ∧ s.bus.tx = .on) := by decide +kernel

/-- The refresh period of 10 s has run, in the count and since the last announcement, with this transmit
queue. -/
def dueState (q : List Frame) : State :=
  { loaded with
    clock := 10010
    bus := { loaded.bus with queue := q }
    board := { loaded.board with refreshCount := 10 } }

/-- The transmit queue of chapter 4's example: two HOLDs, and WANTs after them. -/
def fullQueue (n : Nat) : List Frame :=
  [⟨5, 1, .hold⟩, ⟨5, 2, .hold⟩] ++
    (List.range n).map fun i => ⟨5, BitVec.ofNat 32 (10 + i), .want 100⟩

/-- Sixteen HOLDs. -/
def sixteenHolds : List Frame :=
  (List.range 16).map fun i => ⟨5, BitVec.ofNat 32 (10 + i), .hold⟩

theorem witness_StaleAndRefresh :
    work.board.refreshCount < work.conf.refreshPeriod ∧ (dueState []).mode ≠ .unconfigured ∧
    (dueState []).conf.refreshPeriod ≤ (dueState []).board.refreshCount ∧
    (dueState []).bus.tx = .on ∧
    (dueState []).bus.queue.length + 1 + (ownTotes (dueState [])).length ≤ 16 ∧
    (dueState []).wantOf 40117 = some { tote := 40117, weight := 4347, time := 10000 } ∧
    (dueState []).weightOf 40117 = some 4421 ∧
    (dueState []).conf.refreshPeriod ≤ elapsed (dueState []).clock 10000 ∧
    elapsed 10009 10000 < (dueState []).conf.refreshPeriod := by decide +kernel

/-- STATE and WANT on a full queue without their key: a WANT to give way, or none. -/
theorem witness_StaleAndRefresh_full :
    (let s := dueState (fullQueue 14)
     16 ≤ s.bus.queue.length ∧ s.lane.queue = [] ∧ s.lane.faceRec = none ∧ s.lane.parkRec = none ∧
      (∀ g ∈ s.bus.queue, frameKey g ≠ .state) ∧
      (∀ g ∈ s.bus.queue, frameKey g ≠ .wantDrop 40117) ∧
      s.bus.queue = fullQueue 13 ++ (⟨5, 23, .want 100⟩ : Frame) :: []) ∧
    (let s := dueState sixteenHolds
     16 ≤ s.bus.queue.length ∧ (∀ g ∈ s.bus.queue, frameKey g ≠ .state) ∧
      ∀ g ∈ s.bus.queue, g.body.lineClass ≠ 3) := by decide +kernel

/-- A face tote whose HOLD is asked for at a due refresh, with this queue. -/
def dueFace (q : List Frame) : State := withFace (dueState q) .arriving (some (ambientRec 11 .face))

/-- Keys that are queued already: STATE's, WANT's and HOLD's; and a full queue with STATE's alone. -/
theorem witness_StaleAndRefresh_replaced :
    (let s := dueState [⟨5, 0, .state 0⟩, ⟨5, 40117, .drop⟩]
     (∃ g ∈ s.bus.queue, frameKey g = .state) ∧
      (∃ g ∈ s.bus.queue, frameKey g = .wantDrop 40117) ∧ s.bus.tx = .on) ∧
    (let s := dueFace [⟨5, 0, .state 0⟩, ⟨5, 11, .release ⟨0, 0, 0, 0, 0⟩⟩]
     s.lane.faceRec = some (ambientRec 11 .face) ∧ s.lane.queue = [] ∧ s.lane.parkRec = none ∧
      ∃ g ∈ s.bus.queue, frameKey g = .holdRelease 11) ∧
    (let s := dueFace (⟨5, 0, .state 0⟩ :: (fullQueue 13))
     16 ≤ s.bus.queue.length ∧ (∀ g ∈ s.bus.queue, frameKey g ≠ .holdRelease 11) ∧
      s.bus.queue =
        (⟨5, 0, .state 0⟩ :: fullQueue 12) ++ (⟨5, 22, .want 100⟩ : Frame) :: []) ∧
    (let s := dueFace (⟨5, 0, .state 0⟩ :: sixteenHolds.drop 2)
     (∀ g ∈ s.bus.queue, frameKey g ≠ .holdRelease 11) ∧
      ∀ g ∈ s.bus.queue, g.body.lineClass ≠ 3) := by decide +kernel

theorem witness_ColdMonitor :
    (let s : State := { queued with clock := 11380 }
     let q := rec 7 .chilled (.known 120 10000) .queued
     s.laneRecOf 7 = some q ∧ q.cls ≠ .ambient ∧
      0 < coldRemaining s.conf q.cls q.cold s.clock ∧
      coldRemaining s.conf q.cls q.cold s.clock ≤ (alertMargin s.conf q.cls : Int) ∧
      q.alertMark = false ∧ q.cold.isKnown = true) ∧
    (let s : State := { queued with clock := 11680 }
     let q := rec 7 .chilled (.known 120 10000) .queued
     s.laneRecOf 7 = some q ∧ coldRemaining s.conf q.cls q.cold s.clock ≤ 0 ∧
      q.breachMark = false) := by decide +kernel

/-- The presented tote is FROZEN and breached. -/
def presentingBreached : State :=
  { withFace presenting .presenting (some (rec 61204 .frozen (.known 900 10000) .face)) with
    clock := 10000 }

theorem witness_ColdMonitor_presented :
    (presentingBreached.laneRecOf 61204 = some (rec 61204 .frozen (.known 900 10000) .face) ∧
      coldRemaining presentingBreached.conf .frozen (.known 900 10000) presentingBreached.clock ≤ 0 ∧
      presentingBreached.lane.face = .presenting ∧
      presentingBreached.lane.faceRec.map LaneRec.tote = some 61204) ∧
    LinesLaw presentingBreached ∧ PresentLaw presentingBreached :=
  ⟨by decide +kernel, presenting_lines,
    present_of (l := line 40 61204 610 5 2 .normal .active) (by decide +kernel)⟩

theorem witness_MergeGapAndStall :
    ((releasing 0).lane.face = .releasing ∧ (releasing 0).lane.jam = none ∧
      (releasing 0).mode ≠ .unconfigured ∧ (releasing 30).conf.mergeWait ≤ 30 ∧
      (releasing 30).lane.faceRec = some { ambientRec 7 .face with mergeWait := 30 } ∧
      29 < (releasing 29).conf.mergeWait) ∧
    lawful (releasing 0) = true ∧ OutputsLaw work ∧ AbleLaw work :=
  ⟨by decide +kernel, by decide +kernel, outputs_of (by decide +kernel), able_of (by decide +kernel)⟩

/-- One wait runs, and no other time. -/
theorem witness_LaneJams :
    (waiting { Waits.none with head := some 0 }).lane.jam = none ∧
    waitOf (waiting { Waits.none with head := some 0 }).lane.waits .head = some 0 ∧
    (∀ v, v ≠ .head → waitOf (waiting { Waits.none with head := some 0 }).lane.waits v = none) ∧
    (∀ x, (sensorOf (waiting { Waits.none with head := some 0 }).lane.sensors x).time = none) ∧
    OutputsLaw (waiting { Waits.none with head := some 0 }) :=
  ⟨rfl, rfl, fun v hv => by cases v <;> first | rfl | exact absurd rfl hv,
    every_sensor (by decide +kernel), outputs_of (by decide +kernel)⟩

/-- One sensor time runs, and no wait. -/
theorem witness_LaneJams_sensor :
    (sensorOf (entryHeld 10).lane.sensors .entry).time = some 10 ∧
    (entryHeld 10).lane.jam = none ∧ (∀ v, waitOf (entryHeld 10).lane.waits v = none) ∧
    (∀ y, y ≠ .entry → (sensorOf (entryHeld 10).lane.sensors y).time = none) ∧
    OutputsLaw (entryHeld 10) :=
  ⟨rfl, rfl, fun v => by cases v <;> rfl, every_sensor (by decide +kernel),
    outputs_of (by decide +kernel)⟩

theorem witness_PickTimers :
    (let s : State := { work with picker := { work.picker with
        settles := (work.picker.settles.set 0 (some 1)).set 1 (some 800) } }
     s.mode ≠ .unconfigured ∧ s.picker.settles[(0 : PutIdx)] = some 1 ∧
      s.picker.settles[(1 : PutIdx)] = some 800 ∧ max 1 1 < 800) ∧
    work.picker.settles[(0 : PutIdx)] = none ∧
    (withBeam ⟨true, false, 0, 0⟩).picker.beams[(0 : PutIdx)].blocked = true ∧
    (withBeam ⟨false, true, 3000, 0⟩).picker.beams[(0 : PutIdx)].stuck = true := by decide +kernel

theorem witness_ReceivePath :
    ((∀ c ∈ ([] : List (Byte × Nat)), c.2 < 12) ∧
      (let cs := (encodeFrame ⟨9, 40117, .hold⟩).zip [0, 11, 3, 0, 0, 11, 1, 11]
       (∀ c ∈ cs, c.2 < 12) ∧ cs.map Prod.fst = encodeFrame ⟨9, 40117, .hold⟩ ∧ cs ≠ []) ∧
      ([true, false] : List Bool)[8]? ≠ some true ∧
      (List.replicate 20 false)[8]? ≠ some true) ∧
    ([5] : List Byte).length < 2 ∧ kindForm (8 : Byte).toNat ≠ some (8, 0) ∧
    kindForm (6 : Byte).toNat ≠ some (8, 2) ∧ State.reset.bus.rxOn = false ∧
    work.bus.rxOn = true ∧ work.bus.ownStation = some 5 ∧ work.bus.ownStation ≠ some 9 ∧
    isProduct work.conf 8388608 = false ∧ 5631 < (5632 : BitVec 16).toNat ∧
    work.conf.loopLen ≤ (6000 : BitVec 16).toNat := by decide +kernel

theorem witness_accepted_frames :
    work.bus.rxOn = true ∧ work.bus.ownStation ≠ some 9 ∧ isProduct work.conf 40117 = true ∧
    (1 : Byte).toNat ≤ 1 ∧ (5631 : BitVec 16).toNat ≤ 5631 := by decide +kernel

def interest (x : StationNo) (T : ToteNo) (w : Nat) (age : Nat) : InterestEntry :=
  { station := x, tote := T, weight := some w, holding := false, age }

/-- A full board: sixty holding entries, and chapter 5's four that are not. -/
def crowdedBoard : State :=
  { work with board := { work.board with
      entries := ((List.range 60).map fun i =>
          { station := 1, tote := BitVec.ofNat 32 (1000 + i), weight := none, holding := true
            age := 0 }) ++
        [interest 3 72001 310 14, interest 7 72001 310 6, interest 3 72450 860 2,
          interest 11 80312 2210 9] } }

theorem witness_StateAndDropFrames :
    crowdedBoard.bus.rxOn = true ∧ crowdedBoard.bus.ownStation ≠ some 1 ∧
    isProduct crowdedBoard.conf 1000 = true ∧
    (∃ o ∈ crowdedBoard.board.entries, o.station = 1 ∧ o.tote = 1000 ∧ o.holding = true) ∧
    (∀ o ∈ crowdedBoard.board.entries, ¬ (o.station = 3 ∧ o.tote = 1000)) := by decide +kernel

theorem witness_WantFrame :
    BoardLaw work ∧ BoardLaw crowdedBoard ∧ crowdedBoard.board.entries.length = 64 ∧
    (∀ o ∈ crowdedBoard.board.entries, ¬ (o.station = 14 ∧ o.tote = 90004)) ∧
    (let o := interest 3 72001 310 14
     o ∈ crowdedBoard.board.entries ∧
      ∀ e ∈ crowdedBoard.board.entries, ∀ u ∈ e.weight, e ≠ o → e.holding = false →
        310 < u ∨ 310 = u ∧ (e.age < o.age ∨ e.age = o.age ∧
          (o.station < e.station ∨ o.station = e.station ∧ o.tote.toNat < e.tote.toNat))) ∧
    (∀ o ∈ crowdedBoard.board.entries, o.holding = false → ∀ v ∈ o.weight, 310 ≤ v) := by
  unfold BoardLaw; decide +kernel

theorem witness_HoldAndReturnFrames :
    (inFlight 0).inOwnLane 40117 = true ∧ (inFlight 0).inOwnLane 7 = false ∧
    crowdedBoard.board.entries.any (fun o => o.station == 7 && o.tote == 72001) = true := by
  decide +kernel

theorem witness_ReleaseAndInfeedFrames :
    (let a : Announcement := ⟨1, 120, 0, 0, 64000⟩
     let s : State := { work with count := 64010 }
     a.cls = classCode .chilled ∧ a.position.toNat < s.conf.loopLen ∧
      s.conf.pR < s.conf.loopLen ∧ s.inOwnLane 40117 = false ∧ s.tracker.eal.length < 32 ∧
      signed16 (s.count - (a.count + BitVec.ofNat 16 1500)) ≤ (s.conf.wWin : Int)) ∧
    (let s : State := { work with count := 1541 }
     (s.conf.wWin : Int) < signed16 (s.count - (0 + BitVec.ofNat 16 1500)) ∧
      signed16 (s.count - (0 + BitVec.ofNat 16 1500 + BitVec.ofNat 16 s.conf.loopLen)) ≤
        (s.conf.wWin : Int)) ∧
    (let s : State := { work with count := 7541 }
     (s.conf.wWin : Int) <
      signed16 (s.count - (0 + BitVec.ofNat 16 1500 + BitVec.ofNat 16 s.conf.loopLen))) := by
  decide +kernel

/-- Thirty-two expected arrivals, a hundred counts apart, the farthest 3200 counts ahead. -/
def crowdedArrivals : State :=
  { work with tracker := { work.tracker with
      eal := (List.range 32).map fun i =>
        { tote := BitVec.ofNat 32 (100 + i), expected := BitVec.ofNat 16 (100 * (i + 1))
          cls := .ambient, cold := .known 0 10000, laps := 0 } } }

/-- A prediction at 1500 is nearer than the farthest entry, and one at 3200 is not. -/
theorem witness_ReleaseAndInfeedFrames_crowded :
    crowdedArrivals.tracker.eal =
      crowdedArrivals.tracker.eal.take 31 ++
        [{ tote := 131, expected := 3200, cls := .ambient, cold := .known 0 10000, laps := 0 }] ∧
    32 ≤ crowdedArrivals.tracker.eal.length ∧
    (∀ i ∈ crowdedArrivals.tracker.eal, i.tote ≠ 40117) ∧
    signed16 (1500 - crowdedArrivals.count) < signed16 (3200 - crowdedArrivals.count) ∧
    signed16 (3200 - crowdedArrivals.count) ≤
      signed16 (0 + 1700 + BitVec.ofNat 16 1500 - crowdedArrivals.count) := by decide +kernel

theorem witness_SendAttempts :
    (sending 0 []).bus.line = .frame ∧ State.reset.bus.tx = .off ∧ resting.bus.tx = .listenOnly ∧
    (sending 0 []).bus.attempting = true ∧ (work.bus.slot = none ∧ work.bus.queue = []) ∧
    work.bus.tx = .on ∧ work.bus.attempting = false ∧
    (work.bus.line = .gap ∧ work.bus.rxOn = true) ∧
    (let s := dueState (fullQueue 2)
     let f : Frame := ⟨5, 1, .hold⟩
     s.bus.slot = none ∧ f ∈ s.bus.queue ∧
      (∀ g ∈ s.bus.queue, f.body.lineClass ≤ g.body.lineClass) ∧
      (s.bus.queue.find? fun g => decide (g.body.lineClass = f.body.lineClass)) = some f ∧
      ∀ g ∈ s.bus.queue, 1 ≤ g.body.lineClass) ∧
    (let s := after (.attemptEnd [false, false, false, false]) (sending 3 [])
     s.bus.slot.isSome = true ∧ s.bus.attempting = false ∧ s.bus.tx = .on ∧
      s.lineIdled.bus.line = .idle) := by decide +kernel

/-- The HOLD of station 5 begins 0 0 0 1, of which bit 3 is a 1 of the arbitration byte; bit 12 is a 0 of the
second character. -/
theorem witness_AttemptEnds :
    work.bus.attempting = false ∧
    (let s := sending 15 []
     let f : Frame := ⟨5, 61204, .hold⟩
     let bits := frameBits f
     s.bus.attempting = true ∧ s.bus.slot = some { frame := f, attempts := 15 } ∧
      s.bus.meant = bits ∧ s.bus.slotDoomed = false ∧ 16 ≤ 15 + 1 ∧
      bits = bits.take 5 ++ bits.drop 5 ∧ bits.drop 5 ≠ [] ∧
      bits = [false, false, false] ++ true :: bits.drop 4 ∧
      bits = bits.take 12 ++ false :: bits.drop 13) ∧
    (after .restart (sending 3 [])).bus.slotDoomed = true ∧ 14 + 1 < 16 ∧
    (∃ f ∈ (sending 14 [⟨5, 61204, .release ⟨0, 0, 0, 0, 0⟩⟩]).bus.queue,
      frameKey f = frameKey ⟨5, 61204, .hold⟩) ∧
    (Frame.arbitrationByte ⟨5, 61204, .hold⟩).toNat <
      (Frame.arbitrationByte ⟨9, 61204, .hold⟩).toNat := by decide +kernel

theorem witness_ReaderEventPassedAtOnce :
    ((inFlight 0).mode ≠ .unconfigured ∧ toteKind (inFlight 0).conf 4286578688 = .service ∧
      toteKind (inFlight 0).conf 4286578687 = .nonCanonical ∧
      toteKind (inFlight 0).conf 0 = .unknown ∧ (inFlight 0).tracker.lock ≠ .locked ∧
      toteKind (inFlight 0).conf 40117 = .product ∧ (inFlight 0).inOwnLane 40117 = true ∧
      (∀ e ∈ (inFlight 0).tracker.eal, e.tote ≠ 40117)) ∧
    OutputsLaw (inFlight 0) ∧ AbleLaw (inFlight 0) :=
  ⟨by decide +kernel, outputs_of inFlight_lawful.1, able_of inFlight_lawful.1⟩

/-- An expected arrival of this tote, `n` counts behind the count 0. -/
def arrival (tote : ToteNo) (n : Nat) : EalEntry :=
  { tote, expected := 0 - BitVec.ofNat 16 n, cls := .chilled, cold := .unknown 9000, laps := 1 }

/-- These arrivals and this lock, in the given state. -/
def expecting (s : State) (lock : LockState) (eal : List EalEntry) : State :=
  { s with tracker := { s.tracker with eal, lock } }

/-- A failed read in LOCKED with two entries in the window, and with none. -/
theorem witness_ReaderEventPassedAtOnce_locked :
    (let s := expecting work .locked [arrival 6 60, arrival 7 40, arrival 8 (65536 - 40)]
     lawful s = true ∧ s.tracker.eal = [arrival 6 60] ++ arrival 7 40 :: [] ++
        arrival 8 (65536 - 40) :: [] ∧
      |signed16 (s.count - (arrival 7 40).expected)| ≤ (s.conf.wWin : Int) ∧
      |signed16 (s.count - (arrival 8 (65536 - 40)).expected)| ≤ (s.conf.wWin : Int)) ∧
    (let s := expecting work .locked [arrival 7 41]
     s.tracker.lock = .locked ∧
      ∀ e ∈ s.tracker.eal, (s.conf.wWin : Int) < |signed16 (s.count - e.expected)|) := by
  decide +kernel

/-- The three-order example with bench 9 able and its announcement. -/
def rival (w : Nat) : State :=
  { loaded with board := { loaded.board with
      stations := loaded.board.stations.set 9 { heard := true, able := true, age := 0 }
      entries := [interest 9 40117 w 0] } }

theorem rival_lawful : lawful (rival 4667) = true ∧ lawful (rival 4668) = true := by
  decide +kernel

theorem witness_TakeTest :
    ((rival 4667).mode = .active ∧ (rival 4667).modeCtl.able = true ∧
      toteKind (rival 4667).conf 40117 = .product ∧ (rival 4667).inOwnLane 40117 = false ∧
      (∀ e ∈ (rival 4667).tracker.eal, e.tote ≠ 40117) ∧
      (rival 4667).weightOf 40117 = some 4411 ∧ 4667 ≤ 4411 + (rival 4667).conf.g ∧
      4411 + (rival 4668).conf.g < 4668 ∧ 1 < (rival 4668).conf.lapLimit ∧
      (rival 4668).tracker.eal.length < 32 ∧
      signed16
          ((rival 4668).count - ((rival 4668).count + BitVec.ofNat 16 (rival 4668).conf.loopLen)) ≤
        ((rival 4668).conf.wWin : Int) ∧
      (rival 4667).divert.records.length + (rival 4667).lane.queue.length + 1 <
        (rival 4667).conf.c) ∧
    OutputsLaw (rival 4667) ∧ AbleLaw (rival 4667) ∧ OutputsLaw (rival 4668) ∧
    AbleLaw (rival 4668) :=
  ⟨by decide +kernel, outputs_of rival_lawful.1, able_of rival_lawful.1, outputs_of rival_lawful.2,
    able_of rival_lawful.2⟩

/-- The grounds for passing it: another mode, no weight, and a bench that is not able. -/
theorem witness_TakeTest_passed :
    (∀ s ∈ [inMode .draining loaded, inMode .sweeping loaded, inMode .rest loaded, work,
        settled { loaded with lane := jammed.lane }],
      lawful s = true ∧ s.mode ≠ .unconfigured ∧ toteKind s.conf 40117 = .product ∧
      s.inOwnLane 40117 = false ∧ (∀ e ∈ s.tracker.eal, e.tote ≠ 40117)) ∧
    (inMode .draining loaded).mode ≠ .active ∧ work.mode = .active ∧
    work.weightOf 40117 = none ∧
    (let s := settled { loaded with lane := jammed.lane }
     s.mode = .active ∧ s.weightOf 40117 = some 4411 ∧ s.modeCtl.able = false) := by
  decide +kernel

/-- REST with these arrivals and this lock. -/
def restExpecting (lock : LockState) (run misses : Nat) (eal : List EalEntry) : State :=
  { expecting resting lock eal with
    tracker := { (expecting resting lock eal).tracker with run, misses } }

theorem witness_MatchedReadIsPassed :
    (let e := arrival 7 40
     let s := restExpecting .confirming 3 0 [arrival 8 60, e, arrival 9 3]
     lawful s = true ∧ s.mode ≠ .unconfigured ∧ s.mode ≠ .active ∧
      toteKind s.conf e.tote = .product ∧ s.inOwnLane e.tote = false ∧ e ∈ s.tracker.eal ∧
      (s.tracker.eal.map EalEntry.tote).Nodup ∧ s.tracker.eal.length ≤ 32 ∧
      signed16 (s.count - (s.count + BitVec.ofNat 16 s.conf.loopLen)) ≤ (s.conf.wWin : Int) ∧
      |signed16 (s.count - e.expected)| ≤ (s.conf.wWin : Int) ∧
      s.conf.lockRun ≤ s.tracker.run + 1) ∧
    (let e := arrival 7 41
     let s := restExpecting .locked 4 2 [e]
     (s.conf.wWin : Int) < |signed16 (s.count - e.expected)| ∧
      s.conf.missLimit ≤ s.tracker.misses + 1) := by decide +kernel

/-- In ACTIVE: no line of the tote, and a lane that is jammed. -/
theorem witness_MatchedReadIsPassed_in_active :
    (let s := expecting work .seeking [arrival 7 40]
     lawful s = true ∧ s.mode = .active ∧ s.modeCtl.able = true ∧ s.weightOf 7 = none ∧
      s.inOwnLane 7 = false ∧ arrival 7 40 ∈ s.tracker.eal ∧
      |signed16 (s.count - (arrival 7 40).expected)| ≤ (s.conf.wWin : Int)) ∧
    (let s := expecting (settled { loaded with lane := jammed.lane }) .seeking [arrival 40117 40]
     lawful s = true ∧ s.mode = .active ∧ s.modeCtl.able = false ∧
      s.weightOf 40117 = some 4411) := by decide +kernel

/-- A failed read in LOCKED with one entry of three in the window. -/
theorem witness_MatchedReadIsPassed_by_position :
    let e := arrival 7 40
    let s := restExpecting .locked 4 0 [arrival 8 60, e, arrival 9 (65536 - 41)]
    s.tracker.lock = .locked ∧ |signed16 (s.count - e.expected)| ≤ (s.conf.wWin : Int) ∧
      (∀ f ∈ s.tracker.eal, f ≠ e → (s.conf.wWin : Int) < |signed16 (s.count - f.expected)|) ∧
      lawful s = true ∧ toteKind s.conf 0 = .unknown := by decide +kernel

/-- The rival's tote is expected too, in LOCKED, with another arrival out of the window. -/
def rivalExpected (w laps : Nat) : State :=
  expecting (rival w) .locked [{ arrival 40117 3 with laps }, arrival 7 (65536 - 900)]

/-- Taken at the tie with the rival, and on last call by the entry's laps; passed to the stronger rival. -/
theorem witness_ExpectedToteInActive :
    (let s := rivalExpected 4667 0
     let e := { arrival 40117 3 with laps := 0 }
     lawful s = true ∧ s.mode = .active ∧ s.modeCtl.able = true ∧ s.inOwnLane 40117 = false ∧
      e ∈ s.tracker.eal ∧ (s.tracker.eal.map EalEntry.tote).Nodup ∧ s.tracker.eal.length ≤ 32 ∧
      s.weightOf 40117 = some 4411 ∧ toteKind s.conf 40117 = .product ∧
      s.tracker.lock = .locked ∧ |signed16 (s.count - e.expected)| ≤ (s.conf.wWin : Int) ∧
      (∀ f ∈ s.tracker.eal, f ≠ e → (s.conf.wWin : Int) < |signed16 (s.count - f.expected)|) ∧
      (∀ i ∈ s.board.entries, ∀ v ∈ i.weight, v ≤ 4411 + s.conf.g) ∧
      s.divert.records.length + s.lane.queue.length + 1 < s.conf.c) ∧
    (let s := rivalExpected 4668 0
     4411 + s.conf.g < 4668 ∧ 0 + 1 < s.conf.lapLimit ∧
      (∃ i ∈ s.board.entries, i.tote = 40117 ∧ s.board.stations[i.station].heard = true ∧
        s.board.stations[i.station].able = true) ∧
      signed16 (s.count - (s.count + BitVec.ofNat 16 s.conf.loopLen)) ≤ (s.conf.wWin : Int) ∧
      s.conf.lapLimit ≤ s.conf.lapLimit - 1 + 1 ∧
      lawful (rivalExpected 4668 (s.conf.lapLimit - 1)) = true) := by decide +kernel

/-- Another tote leaves the face. -/
def busyFace (s : State) : State := settled (withFace s .leaving (some (ambientRec 90 .face)))

/-- A divert record with this entry part, while another tote leaves the face. -/
def entering (entry : Option EntryPart) : State := busyFace (inFlightOf entry 0)

theorem witness_EntrySeen :
    (let s := entering (some { cls := .ambient, cold := .known 120 10000, laps := 0 })
     lawful s = true ∧ s.mode ≠ .unconfigured ∧ s.lane.face ≠ .empty ∧ s.lane.face ≠ .presenting ∧
      s.bus.tx = .on ∧ s.bus.queue.length < 15 ∧ s.divert.records.map DivertRec.tote = [40117]) ∧
    OwnLaneLaw (entering (some { cls := .ambient, cold := .known 120 10000, laps := 0 })) := by
  unfold OwnLaneLaw; decide +kernel

/-- The other entries: FROZEN at ALERT and BREACHED, UNKNOWN and absent; and the other modes. -/
theorem witness_EntrySeen_entries :
    (let s := entering (some { cls := .frozen, cold := .known 700 10000, laps := 0 })
     lawful s = true ∧ 0 < coldRemaining s.conf .frozen (.known 700 10000) s.clock ∧
      coldRemaining s.conf .frozen (.known 700 10000) s.clock ≤
        (alertMargin s.conf .frozen : Int)) ∧
    (let s := entering (some { cls := .frozen, cold := .known 900 10000, laps := 0 })
     lawful s = true ∧ coldRemaining s.conf .frozen (.known 900 10000) s.clock ≤ 0) ∧
    lawful (entering (some { cls := .frozen, cold := .unknown 10000, laps := 1 })) = true ∧
    lawful (entering none) = true ∧
    lawful (settled (inMode .draining (entering none))) = true ∧
    lawful (settled (inMode .sweeping (entering none))) = true ∧
    (busyFace work).divert.records = [] ∧
    (busyFace work).lane.queue.length < (busyFace work).conf.c := by decide +kernel

/-- The lane holds its C = 4 queue records, none of them expected. -/
def fullLane : State :=
  settled { work with
    lane := { work.lane with
      queue := [ambientRec 1 .queued, ambientRec 2 .queued, ambientRec 3 .queued,
        ambientRec 4 .queued]
      face := .releasing, faceRec := some (ambientRec 9 .face) } }

theorem witness_EntrySeen_stray :
    (lawful fullLane = true ∧ fullLane.divert.records = [] ∧
      fullLane.conf.c ≤ fullLane.lane.queue.length ∧ fullLane.lane.jam = none) ∧
    OwnLaneLaw fullLane := by
  unfold OwnLaneLaw; decide +kernel

/-- The same record in flight with the face EMPTY: this record in the park, the park left and the lane
jammed as given. -/
def entersEmpty (parkRec : Option LaneRec) (preempted : Bool) (jam : Option Sensor) : State :=
  settled { inFlight 0 with lane := { (inFlight 0).lane with parkRec, preempted, jam } }

/-- The fill: the parked tote, the new record at a head sensor blocked or clear, after a park, and none in a
jammed lane; a stray, and a full lane. -/
theorem witness_EntrySeen_fill :
    (∀ s ∈ [entersEmpty (some (ambientRec 5 .park)) false none, entersEmpty none false none,
        entersEmpty (some (ambientRec 5 .park)) true none, entersEmpty none false (some .park),
        after .headBlocked (entersEmpty none false none)],
      lawful s = true ∧ s.mode = .active ∧ s.lane.face = .empty ∧ s.bus.tx = .on ∧
      s.bus.queue.length < 15 ∧ s.divert.records.map DivertRec.tote = [40117] ∧
      (ownTotes s).Nodup ∧ ∀ e ∈ s.tracker.eal, e.tote ∉ ownTotes s) ∧
    (after .headBlocked (entersEmpty none false none)).isBlocked .head = true ∧
    lawful (settled (inMode .draining (entersEmpty none false none))) = true ∧
    (lawful work = true ∧ work.lane.face = .empty ∧ work.divert.records = [] ∧
      work.lane.queue.length < work.conf.c) ∧
    (let s := settled (withFace fullLane .empty none)
     lawful s = true ∧ s.conf.c ≤ s.lane.queue.length) := by decide +kernel

theorem witness_EntrySeen_fill_ownLane :
    OwnLaneLaw (entersEmpty (some (ambientRec 5 .park)) false none) ∧
    OwnLaneLaw (after .headBlocked (entersEmpty none false none)) ∧ OwnLaneLaw work := by
  unfold OwnLaneLaw; decide +kernel

/-- REST with the sensors clear, and with the head sensor blocked; SWEEPING with the sensors clear. -/
theorem witness_StrayEntryIsSwept :
    (∀ s ∈ [resting, after .headBlocked resting, inMode .sweeping work],
      (s.mode = .rest ∨ s.mode = .sweeping) ∧ s.divert.records = [] ∧ s.lane.queue = [] ∧
      s.lane.parkRec = none ∧ s.lane.face = .empty ∧ s.lane.faceRec = none ∧
      s.lane.jam = none ∧ s.lane.preempted = false ∧ 0 < s.conf.c ∧ s.bus.queue.length < 16 ∧
      lawful s = true ∧ ∀ x ∈ allSensors, x ≠ .entry → x ≠ .head → s.isBlocked x = false) ∧
    (let s := after (.sensorBlocked .park) resting
     s.mode = .rest ∧ s.isBlocked .park = true ∧ s.lane.face = .empty ∧ lawful s = true) ∧
    resting.mode = .rest ∧ resting.bus.tx = .listenOnly ∧ resting.isBlocked .head = false ∧
    (after .headBlocked resting).isBlocked .head = true := by decide +kernel

/-- The queue of `queued` with the face in this state and this record in the park. -/
def facing (face : FaceState) (parkRec : Option LaneRec) (preempted : Bool) : State :=
  { queued with lane := { queued.lane with face, parkRec, preempted } }

theorem witness_FaceIsFilled :
    queued.mode = .active ∧ queued.lane.jam = none ∧ queued.lane.face = .empty ∧
    queued.lane.queue = rec 7 .chilled (.known 120 10000) .queued :: queued.lane.queue.tail ∧
    queued.lane.parkRec = none ∧
    (let s := facing .empty (some (ambientRec 5 .park)) true
     s.lane.face = .empty ∧ s.lane.preempted = true ∧ s.lane.parkRec.isSome = true) ∧
    (let s := facing .empty (some (ambientRec 5 .park)) false
     s.lane.face = .empty ∧ s.lane.parkRec = some (ambientRec 5 .park) ∧
      s.lane.preempted = false) ∧
    (let s := facing .parking (some (ambientRec 5 .park)) false
     s.lane.face = .parking ∧ s.lane.queue ≠ [] ∧ s.isBlocked .head = false ∧
      (s.sensorLevel .head true).isBlocked .head = true) ∧
    (let s : State := { work with lane := { work.lane with
        face := .parking, parkRec := some (ambientRec 5 .park) } }
     s.lane.face = .parking ∧ s.lane.queue = []) ∧
    (facing .presenting none false).lane.face ≠ .empty ∧
    (inMode .draining queued).mode = .draining := by decide +kernel

/-- Tote 40117 arriving at the face in the three-order example. -/
def arriving : State := withFace loaded .arriving (some (ambientRec 40117 .face))

theorem witness_FaceArrived :
    (arriving.mode = .active ∧ arriving.lane.jam = none ∧
      arriving.lane.face = .arriving ∧ arriving.lane.faceRec = some (ambientRec 40117 .face) ∧
      arriving.lane.headUrgent = false ∧
      laneStanding arriving.conf arriving.clock (ambientRec 40117 .face) ≠ some .breached ∧
      (∀ m ∈ arriving.demand.lines, m.tote = 40117 → m.state ≠ .suspended) ∧
      (arriving.demand.lines.find? fun m => decide (m.tote = 40117) && isWorkable arriving.puts m) =
        some (line 11 40117 501 2 0 .normal .waiting) ∧
      (∀ m ∈ arriving.demand.lines, m.state ≠ .active) ∧
      (∀ p ∈ arriving.lane.queue, p.tote ≠ 40117) ∧
      hasWorkable arriving.demand.lines arriving.puts 52880 = false) ∧ LinesLaw arriving := by
  unfold LinesLaw; decide +kernel

/-- The same tote, with an urgent tote behind it and this record in the park. -/
def arrivingPreempted (parkRec : Option LaneRec) : State :=
  { arriving with lane := { arriving.lane with
      parkRec, queue := [{ ambientRec 8 .queued with urgent := true }] } }

theorem witness_FaceArrived_parked :
    let s := arrivingPreempted none
    s.lane.headUrgent = true ∧ (ambientRec 40117 .face).urgent = false ∧
    (ambientRec 40117 .face).source = .queue ∧ s.lane.parkRec = none ∧
    hasWorkable s.demand.lines s.puts 40117 = true ∧
    s.lane.face = .arriving ∧ s.lane.jam = none := by decide +kernel

/-- The arriving tote has its line 11 SUSPENDED. -/
def arrivingSuspended (m : BenchMode) : State := inMode m (arriving.setLineState 11 .suspended)

theorem witness_ArrivalsAndPreemption :
    ((inMode .sweeping arriving).mode = .sweeping ∧ (inMode .draining arriving).mode = .draining ∧
      (inMode .draining arriving).lane.face = .arriving ∧
      (inMode .draining arriving).lane.jam = none ∧
      (∀ l ∈ (inMode .draining arriving).demand.lines, l.tote = 40117 → l.state ≠ .suspended)) ∧
    (let s := arrivingSuspended .draining
     s.demand.lines.find? (fun m => decide (m.state = .suspended ∧ m.tote = 40117)) =
        some (line 11 40117 501 2 0 .normal .suspended) ∧
      (∀ m ∈ s.demand.lines, m.state ≠ .active) ∧
      laneStanding s.conf s.clock (ambientRec 40117 .face) ≠ some .breached) ∧
    (let s := arrivingPreempted (some (ambientRec 5 .park))
     s.lane.queue = { ambientRec 8 .queued with urgent := true } :: [] ∧
      s.lane.parkRec = some (ambientRec 5 .park) ∧
      hasWorkable s.demand.lines s.puts 40117 = true ∧
      (∀ m ∈ s.demand.lines, m.state ≠ .active)) ∧
    LinesLaw (arrivingSuspended .draining) := by
  unfold LinesLaw; decide +kernel

/-- Tote 61204 presented with this put count, and a FROZEN tote near its limit in flight. -/
def presentingWith (puts : Nat) : State :=
  { presenting with
    demand := { lines := [line 40 61204 610 5 puts .normal .active], wants := [] }
    picker := { presenting.picker with display := some (5 - puts) }
    divert := (inFlightOf (some { cls := .frozen, cold := .known 700 10000, laps := 0 }) 0).divert }

theorem presentingWith_laws (puts : Nat) (h : puts = 0 ∨ puts = 2) :
    LinesLaw (presentingWith puts) ∧ PresentLaw (presentingWith puts) ∧
    OwnLaneLaw (presentingWith puts) := by
  rcases h with rfl | rfl
  · exact ⟨by unfold LinesLaw; decide +kernel,
      present_of (l := line 40 61204 610 5 0 .normal .active) (by decide +kernel),
      by unfold OwnLaneLaw; decide +kernel⟩
  · exact ⟨by unfold LinesLaw; decide +kernel,
      present_of (l := line 40 61204 610 5 2 .normal .active) (by decide +kernel),
      by unfold OwnLaneLaw; decide +kernel⟩

theorem witness_ArrivalsAndPreemption_third_moment :
    let s := presentingWith 0
    s.mode = .active ∧ s.lane.jam = none ∧ s.lane.face = .presenting ∧
    s.lane.faceRec = some (ambientRec 61204 .face) ∧ (ambientRec 61204 .face).urgent = false ∧
    s.lane.queue = [] ∧ s.lane.parkRec = none ∧
    line 40 61204 610 5 0 .normal .active ∈ s.demand.lines ∧
    s.divert.records.map DivertRec.tote = [40117] ∧
    0 < coldRemaining s.conf .frozen (.known 700 10000) s.clock ∧
    coldRemaining s.conf .frozen (.known 700 10000) s.clock ≤ (alertMargin s.conf .frozen : Int) := by
  decide +kernel

theorem witness_Merged :
    OwnLaneLaw (busyFace work) ∧
    let s := busyFace work
    lawful s = true ∧ s.mode = .active ∧ s.lane.face = .leaving ∧
    s.lane.faceRec = some (ambientRec 90 .face) ∧ s.lane.jam = none ∧ s.lane.preempted = false ∧
    s.lane.queue = [] ∧ s.lane.parkRec = none ∧ s.divert.records = [] ∧ s.bus.tx = .on ∧
    s.bus.queue.length < 15 ∧ s.tracker.eal = [] ∧ s.conf.pM < s.conf.loopLen ∧
    s.conf.loopLen ≤ 32767 := by unfold OwnLaneLaw; decide +kernel

/-- A tote parked behind it, one queued with the head sensor blocked and clear, a drain and a sweep. -/
theorem witness_Merged_behind :
    lawful (settled (withFace work .leaving (some (rec 9 .frozen (.unknown 9900) .face)))) = true ∧
    OwnLaneLaw (busyFace (facing .leaving (some (ambientRec 5 .park)) false)) ∧
    OwnLaneLaw (busyFace queued) ∧
    (let s := busyFace (facing .leaving (some (ambientRec 5 .park)) false)
     lawful s = true ∧ s.lane.parkRec = some (ambientRec 5 .park)) ∧
    (let s := busyFace queued
     lawful s = true ∧ s.lane.queue ≠ [] ∧ s.lane.parkRec = none ∧ s.isBlocked .head = false) ∧
    (let s := busyFace { queued with lane := { queued.lane with
        sensors := { queued.lane.sensors with head := { blocked := true, time := none } } } }
     lawful s = true ∧ s.isBlocked .head = true) ∧
    lawful (busyFace (inMode .draining work)) = true ∧
    lawful (busyFace (inMode .sweeping work)) = true ∧
    (∀ x ∈ allSensors, (busyFace (inMode .sweeping work)).isBlocked x = false) := by
  unfold OwnLaneLaw; decide +kernel

/-- Sweeping, with the entry sensor blocked and these sensors too. -/
def sweepingOver (blocked : List Sensor) : State :=
  settled ((Sensor.entry :: blocked).foldl (fun s x => s.sensorLevel x true) (inMode .sweeping work))

/-- R128: over a blocked entry sensor each sensor brings its stray, the face or exit sensor first. -/
theorem test_sweep_over_a_blocked_entry :
    let found (x : Sensor) (others : List Sensor) :=
      let t := after (.sensorBlocked x) (sweepingOver others)
      (t.mode, t.lane.face, t.lane.faceRec.map fun q => (q.tote, q.source))
    found .face [] = (.sweeping, .releasing, some (0, .queue)) ∧
    found .park [] = (.sweeping, .arriving, some (0, .park)) ∧
    found .head [] = (.sweeping, .arriving, some (0, .queue)) ∧
    found .exit [.park] = (.sweeping, .releasing, some (0, .queue)) := by decide +kernel

/-- A sweep over a blocked entry sensor, with no record and with a stray queued by ENTRY_SEEN; and a lane of
which one sensor alone is blocked. -/
theorem witness_SensorsAndSweep :
    (∀ s ∈ [sweepingOver [], after .entrySeen (inMode .sweeping work)],
      s.mode = .sweeping ∧ s.lane.face = .empty ∧ s.lane.jam = none ∧ s.lane.preempted = false ∧
      s.isBlocked .entry = true ∧ s.lane.parkRec = none) ∧
    (sweepingOver []).lane.queue = [] ∧
    (after .entrySeen (inMode .sweeping work)).lane.queue.length = 1 ∧
    (let s := (inMode .sweeping work).sensorLevel .park true
     s.mode = .sweeping ∧ s.laneEmpty = true ∧ s.lane.jam = none ∧
      ∀ y ∈ allSensors, y ≠ .park → s.isBlocked y = false) := by decide +kernel

/-- The ACTIVE line one put short of its quantity. -/
def lastPut : State :=
  { presenting with
    demand := { lines := [line 40 61204 610 5 4 .normal .active], wants := [] }
    picker := { presenting.picker with display := some 1 } }

theorem lastPut_present : PresentLaw lastPut :=
  present_of (l := line 40 61204 610 5 4 .normal .active) (by decide +kernel)

theorem witness_BeamBreak :
    (presenting.mode ≠ .unconfigured ∧
      (withBeam ⟨false, true, 3000, 0⟩).picker.beams[(0 : PutIdx)].stuck = true ∧
      presenting.picker.beams[(8 : PutIdx)].stuck = false ∧
      presenting.picker.settles[(8 : PutIdx)] = none ∧ presenting.picker.active = some 8 ∧
      (∀ l ∈ work.demand.lines, l.state ≠ .active) ∧
      line 40 61204 610 5 2 .normal .active ∈ presenting.demand.lines ∧ 2 + 1 < 5 ∧
      line 40 61204 610 5 4 .normal .active ∈ lastPut.demand.lines ∧ 4 + 1 = 5 ∧
      (after .shortKey presenting).picker.settles[(8 : PutIdx)] ≠ none) ∧
    LinesLaw presenting ∧ PresentLaw presenting ∧ LinesLaw lastPut ∧ PresentLaw lastPut :=
  ⟨by decide +kernel, presenting_lines, presenting_present, by unfold LinesLaw; decide +kernel,
    lastPut_present⟩

/-- The tote has one more line to work, and a last put to its ACTIVE one. -/
def nextLine : State :=
  { lastPut with demand :=
      { lines := lastPut.demand.lines ++ [line 41 61204 610 1 0 .normal .waiting]
        wants := [{ tote := 61204, weight := 4159, time := 10000 }] } }

theorem witness_BeamBreak_boundary :
    (let s := nextLine
     let m := line 41 61204 610 1 0 .normal .waiting
     s.mode = .active ∧ s.lane.headUrgent = false ∧ s.lane.queue = [] ∧
      s.picker.settles[(8 : PutIdx)] = none ∧ s.picker.active = some 8 ∧
      (∀ n ∈ s.demand.lines, n.tote = 61204 → n.state ≠ .suspended) ∧
      m ∈ s.demand.lines ∧ m.tote = 61204 ∧ isWorkable s.puts m = true ∧
      (∀ n ∈ s.demand.lines, n.tote = 61204 → isWorkable s.puts n = true → n = m) ∧
      s.bus.tx = .on ∧ s.bus.queue.length < 15) ∧
    (positionOf lastPut.puts 610 = some 8 ∧ lastPut.puts[(8 : PutIdx)] = order 610 20000 ∧
      (∀ m ∈ lastPut.demand.lines, m.handle = 610 → m.tag = 40) ∧
      positionOf presenting.puts 610 = some 8) ∧
    LinesLaw nextLine ∧ PresentLaw nextLine ∧ WantsLaw nextLine :=
  ⟨by decide +kernel, by decide +kernel, by unfold LinesLaw; decide +kernel,
    present_of (l := line 40 61204 610 5 4 .normal .active) (by decide +kernel),
    wants_of (by decide +kernel)⟩

theorem witness_BeamClearAndShortKey :
    ((∀ l ∈ work.demand.lines, l.state ≠ .active) ∧ presenting.mode ≠ .unconfigured ∧
      line 40 61204 610 5 2 .normal .active ∈ presenting.demand.lines) ∧
    LinesLaw presenting ∧ PresentLaw presenting :=
  ⟨by decide +kernel, presenting_lines, presenting_present⟩

/-- One put short, with an urgent tote at the queue's head and this park record. -/
def lastPutBefore (parkRec : Option LaneRec) : State :=
  { lastPut with lane := { lastPut.lane with
      parkRec
      queue := [{ rec 7 .chilled (.known 1700 10000) .queued with urgent := true }] } }

/-- R135: the last put of the tote releases it, parks it before an urgent head, or has the park refused. -/
theorem test_line_boundary :
    let t := after (.beamBreak 8) lastPut
    let u := after .shortKey (lastPutBefore none)
    let v := after (.cancelLine 40) (lastPutBefore (some (ambientRec 9 .park)))
    t.lane.face = .releasing ∧ u.lane.face = .parking ∧
      u.lane.parkRec.map (fun q => (q.tote, q.savedTag)) = some (61204, none) ∧
      v.lane.face = .releasing ∧ (noticeRec v.notices .parkRefused).detail = 7 := by
  decide +kernel

/-- A boundary with no next line, with one, before an urgent head with the park empty and occupied, and in
DRAINING. -/
theorem witness_BoundaryFollows :
    (lastPut.lane.faceRec = some (ambientRec 61204 .face) ∧ lastPut.mode = .active ∧
      Answered lastPut 61204 = none ∧ lastPut.lane.queue = [] ∧ lastPut.lane.parkRec = none ∧
      Answered nextLine 61204 = some (line 41 61204 610 1 0 .normal .waiting)) ∧
    (let s := lastPutBefore none
     s.mode = .active ∧ s.lane.jam = none ∧ s.lane.headUrgent = true ∧ s.lane.parkRec = none ∧
      s.lane.faceRec = some (ambientRec 61204 .face) ∧
      (∀ l ∈ s.demand.lines, l.prio = .normal) ∧
      ∀ p ∈ s.lane.queue ++ s.lane.parkRec.toList, p.tote ≠ 61204) ∧
    (lastPutBefore (some (ambientRec 9 .park))).lane.parkRec ≠ none ∧
    (inMode .draining lastPut).mode = .draining ∧
    (line 40 61204 610 5 4 .normal .active).state = .active ∧
    (lastPut.demand.lines.find? fun l => l.tag == 40) =
      some (line 40 61204 610 5 4 .normal .active) := by decide +kernel

theorem witness_BoundaryFollows_laws :
    (LinesLaw (lastPutBefore none) ∧ PresentLaw (lastPutBefore none)) ∧
    LinesLaw (inMode .draining lastPut) ∧ PresentLaw (inMode .draining lastPut) :=
  ⟨⟨by unfold LinesLaw; decide +kernel,
      present_of (l := line 40 61204 610 5 4 .normal .active) (by decide +kernel)⟩,
    by unfold LinesLaw; decide +kernel,
    present_of (l := line 40 61204 610 5 4 .normal .active) (by decide +kernel)⟩

/-! The laws hold at states from which a step exists. -/

theorem witness_step_from_reset : step State.reset = .next State.reset := rfl

theorem witness_TransmitAndNoticeLawsKept :
    TxQueueLaw work ∧ TransmitterLaw (sending 3 []) ∧ NoticesLaw work ∧
    AttemptLaw (sending 3 []) :=
  ⟨by unfold TxQueueLaw; decide +kernel, by unfold TransmitterLaw; decide +kernel,
    by unfold NoticesLaw; decide +kernel, fun _ => ⟨⟨_, rfl, rfl⟩, rfl, .inl rfl⟩,
    fun h => (by cases h), fun x h => (by cases h; decide), fun h => (by cases h)⟩

theorem witness_DemandLawsKept :
    LinesLaw presenting ∧ PutMapLaw work ∧ WantsLaw presenting ∧ ReadyLaw work := by
  refine ⟨presenting_lines, fun j k o p h => ?_, wantsLaw_of_idle _ rfl (by decide +kernel),
    fun k o h => ?_⟩ <;> exact absurd h (by simp [work, State.reset, putsReset])

theorem witness_TrackingLawsKept :
    BoardLaw crowdedBoard ∧ TransmitterLaw (passedBy 40 .seeking 0 0) ∧
    EalLaw (passedBy 40 .seeking 0 0) ∧ OwnLaneLaw (inFlight 0) ∧
    LockLaw (passedBy 40 .seeking 0 0) := by
  refine ⟨by unfold BoardLaw; decide +kernel, by unfold TransmitterLaw; decide +kernel,
    by unfold EalLaw; decide +kernel, inFlight_ownLane.1, fun h => (by cases h), fun _ => ?_⟩
  exact ⟨by decide +kernel, by decide +kernel, by decide +kernel, rfl, by decide +kernel⟩

theorem witness_LaneLawsKept :
    LaneLaw presenting ∧ PresentLaw presenting ∧ LinesLaw presenting ∧ PresentLaw stocked ∧
    AbleLaw work ∧ OutputsLaw work :=
  ⟨by unfold LaneLaw; decide +kernel, presenting_present, presenting_lines,
    present_of_dark (by decide +kernel), able_of (by decide +kernel), outputs_of (by decide +kernel)⟩

end Sys2Proof.Tests
end

section
/-! PROOFS. Which notice sources an operation may raise (R162), and which frames it may request (R54 to R57):
two relations that follow a chain of operations as `SameExcept` does. -/

namespace Sys2Proof.Machine

/-! ### The sources that may be raised (R162) -/

theorem NoticeSource.index_injective : Function.Injective NoticeSource.index := by
  have key : Function.LeftInverse (fun i : Fin 19 => allSources[i]) NoticeSource.index := by
    intro n
    cases n <;> rfl
  exact key.injective

/-- Between `s` and `t` no source outside `ns` took an event, and no pending flag was cleared. -/
def RaisesOnly (ns : List NoticeSource) (s t : State) : Prop :=
  ∀ n : NoticeSource, (n ∉ ns → SourceKept n s t) ∧
    (s.notices.sources[n.index].pending = true → t.notices.sources[n.index].pending = true)

theorem RaisesOnly.of_notices_eq {ns : List NoticeSource} {s t : State}
    (h : t.notices = s.notices) : RaisesOnly ns s t := fun n => by simp [SourceKept, h]

theorem RaisesOnly.refl (ns : List NoticeSource) (s : State) : RaisesOnly ns s s :=
  .of_notices_eq rfl

theorem RaisesOnly.trans {ns : List NoticeSource} {s t u : State} (h : RaisesOnly ns s t)
    (k : RaisesOnly ns t u) : RaisesOnly ns s u := fun n =>
  ⟨fun hn => ((k n).1 hn).trans ((h n).1 hn), fun hp => (k n).2 ((h n).2 hp)⟩

theorem RaisesOnly.mono {ms ns : List NoticeSource} {s t : State} (h : RaisesOnly ms s t)
    (hs : ms ⊆ ns) : RaisesOnly ns s t := fun n =>
  ⟨fun hn => (h n).1 fun hm => hn (hs hm), (h n).2⟩

theorem RaisesOnly.foldl {α : Type} {ns : List NoticeSource} {f : State → α → State}
    (hf : ∀ s a, RaisesOnly ns s (f s a)) (l : List α) (s : State) :
    RaisesOnly ns s (l.foldl f s) := by
  induction l generalizing s with
  | nil => exact .refl _ _
  | cons a l ih => exact (hf s a).trans (ih _)

theorem SameExcept.raisesOnly {bs : List Block} {ns : List NoticeSource} {s t : State}
    (h : SameExcept bs s t) (hb : Block.notices ∉ bs) : RaisesOnly ns s t :=
  .of_notices_eq (h.notices_eq hb)

theorem State.raise_raisesOnly (s : State) (n : NoticeSource) (d : BitVec 32) :
    RaisesOnly [n] s (s.raise n d) := by
  obtain ⟨others, -, -, fresh, again⟩ := s.raise_once n d
  intro m
  have kept : m ≠ n → SourceKept m s (s.raise n d) := fun h =>
    others m.index (NoticeSource.index_injective.ne h)
  refine ⟨fun h => kept (by simpa using h), fun hp => ?_⟩
  by_cases h : m = n
  · subst h
    rw [again hp]
    exact hp
  · rw [kept h]
    exact hp

theorem State.raise_pending (s : State) (n : NoticeSource) (d : BitVec 32) :
    (s.raise n d).notices.sources[n.index].pending = true := by
  obtain ⟨-, -, -, fresh, again⟩ := s.raise_once n d
  cases h : s.notices.sources[n.index].pending with
  | false => rw [fresh h]
  | true => rw [again h]; exact h

theorem State.request_raisesOnly (s : State) (T : ToteNo) (b : FrameBody) :
    RaisesOnly [.frameAbandoned] s (s.request T b) := by
  unfold State.request
  dsimp only
  split
  · split
    · exact ((s.withTx_frame _).raisesOnly (by simp)).trans (State.raise_raisesOnly _ _ _)
    · exact (s.withTx_frame _).raisesOnly (by simp)
  · exact .refl _ _

theorem State.requestState_raisesOnly (s : State) :
    RaisesOnly [.frameAbandoned] s s.requestState := s.request_raisesOnly _ _

theorem State.announce_raisesOnly (s : State) (T : ToteNo) (W : Nat) :
    RaisesOnly [.frameAbandoned] s (s.announce T W) :=
  ((s.withWants_frame _).raisesOnly (by simp)).trans (State.request_raisesOnly _ _ _)

theorem State.checkWant_raisesOnly (s : State) (T : ToteNo) :
    RaisesOnly [.frameAbandoned] s (s.checkWant T) := by
  unfold State.checkWant
  split
  · split
    · exact s.announce_raisesOnly _ _
    · exact .refl _ _
  · exact .refl _ _

theorem State.deriveWant_raisesOnly (s : State) (T : ToteNo) :
    RaisesOnly [.frameAbandoned] s (s.deriveWant T) := by
  unfold State.deriveWant
  split
  · exact ((s.withWants_frame _).raisesOnly (by simp)).trans (State.request_raisesOnly _ _ _)
  · exact ((s.withWants_frame _).raisesOnly (by simp)).trans (State.request_raisesOnly _ _ _)
  · exact s.checkWant_raisesOnly _
  · exact .refl _ _

theorem State.reready_raisesOnly (s : State) (h : Handle) :
    RaisesOnly [.orderReady] s (s.reready h) := by
  unfold State.reready
  split
  · exact .refl _ _
  · split
    · exact .refl _ _
    · dsimp only
      split
      · exact RaisesOnly.trans (.of_notices_eq rfl) (State.raise_raisesOnly _ _ _)
      · exact .of_notices_eq rfl

theorem State.preemptCheck_raisesOnly (s : State) :
    RaisesOnly [.parkRefused] s s.preemptCheck := by
  unfold State.preemptCheck
  split
  · split
    · exact s.parkFace_frame.raisesOnly (by simp)
    · split
      · exact .refl _ _
      · exact ((s.withLane_frame _).raisesOnly (by simp)).trans (State.raise_raisesOnly _ _ _)
    · exact .refl _ _
  · exact .refl _ _

theorem State.reurgent_raisesOnly (s : State) (p : ToteNo → Bool) :
    RaisesOnly [.parkRefused] s (s.reurgent p) := by
  unfold State.reurgent State.headTurnedUrgent
  dsimp only
  split
  · split
    · exact ((s.updRecs_frame _).raisesOnly (by simp)).trans (State.preemptCheck_raisesOnly _)
    · exact (s.updRecs_frame _).raisesOnly (by simp)
  · exact (s.updRecs_frame _).raisesOnly (by simp)

theorem State.settleLane_raisesOnly (s : State) :
    RaisesOnly [.frameAbandoned] s s.settleLane := by
  unfold State.settleLane
  dsimp only
  split
  · exact (s.withLane_frame _).raisesOnly (by simp)
  · exact (((s.withLane_frame _).trans (State.withModeCtl_frame _ _)).raisesOnly (by simp)).trans
      (State.requestState_raisesOnly _)

theorem State.refreshWork_raisesOnly (s : State) :
    RaisesOnly [.frameAbandoned] s s.refreshWork := by
  unfold State.refreshWork State.refresh
  split
  · exact (RaisesOnly.of_notices_eq
        (t := { s with board := { s.board with refreshCount := 0 } }) rfl).trans
      ((State.requestState_raisesOnly _).trans
        (RaisesOnly.foldl (fun s T => s.request_raisesOnly T .hold) _ _))
  · exact .refl _ _

theorem State.countRefresh_raisesOnly (s : State) :
    RaisesOnly [.frameAbandoned] s s.countRefresh :=
  (RaisesOnly.of_notices_eq rfl).trans (State.refreshWork_raisesOnly _)

/-! ### The frames that may be requested (R54 to R57) -/

/-- The queue has room for a frame of every key in `L` that it does not hold yet. -/
def RoomFor (L : List TxKey) (s : State) : Prop :=
  s.bus.queue.length + (L.filter fun k => s.bus.queue.all fun g => frameKey g != k).length ≤ 16

/-- Between `s` and `t` only frames with keys in `K` were requested. -/
structure Requests (K : TxKey → Prop) (s t : State) : Prop where
  tx : t.bus.tx = s.bus.tx
  ownStation : t.bus.ownStation = s.bus.ownStation
  new : ∀ f ∈ t.bus.queue, f ∈ s.bus.queue ∨ K (frameKey f)
  room : ∀ L, (∀ k, K k → k ∈ L) → RoomFor L s → RoomFor L t
  kept : ∀ L, (∀ k, K k → k ∈ L) → RoomFor L s →
    ∀ f ∈ s.bus.queue, ¬ K (frameKey f) → f ∈ t.bus.queue

theorem Requests.of_bus_eq {K : TxKey → Prop} {s t : State} (h : t.bus = s.bus) :
    Requests K s t where
  tx := by rw [h]
  ownStation := by rw [h]
  new f hf := .inl (h ▸ hf)
  room L _ hr := by unfold RoomFor at *; rwa [h]
  kept L _ _ f hf _ := by rwa [h]

theorem Requests.refl (K : TxKey → Prop) (s : State) : Requests K s s := .of_bus_eq rfl

theorem Requests.mono {J K : TxKey → Prop} {s t : State} (h : Requests J s t)
    (hk : ∀ k, J k → K k) : Requests K s t where
  tx := h.tx
  ownStation := h.ownStation
  new f hf := (h.new f hf).imp_right (hk _)
  room L hL := h.room L fun k hj => hL k (hk k hj)
  kept L hL hr f hf hn := h.kept L (fun k hj => hL k (hk k hj)) hr f hf fun hj => hn (hk _ hj)

theorem Requests.trans {K : TxKey → Prop} {s t u : State} (h : Requests K s t)
    (k : Requests K t u) : Requests K s u where
  tx := k.tx.trans h.tx
  ownStation := k.ownStation.trans h.ownStation
  new f hf := (k.new f hf).elim (h.new f) .inr
  room L hL hr := k.room L hL (h.room L hL hr)
  kept L hL hr f hf hn := k.kept L hL (h.room L hL hr) f (h.kept L hL hr f hf hn) hn

theorem SameExcept.requests {bs : List Block} {K : TxKey → Prop} {s t : State}
    (h : SameExcept bs s t) (hb : Block.bus ∉ bs) : Requests K s t := .of_bus_eq (h.bus_eq hb)

/-- The key of a request's frame, which its sender has no part in (R55). -/
def requestKey (T : ToteNo) (b : FrameBody) : TxKey :=
  frameKey { sender := 0, tote := T, body := b }

theorem frameKey_eq_requestKey (f : Frame) : frameKey f = requestKey f.tote f.body := by
  obtain ⟨_, _, body⟩ := f
  cases body <;> rfl

/-- What the queue holds after it met a frame is the frame or was there (R55, R57). -/
theorem mem_enqueue {q : List Frame} {f g : Frame} (h : g ∈ (enqueue q f).1) : g ∈ q ∨ g = f := by
  unfold enqueue at h
  split at h
  · obtain ⟨x, hx, e⟩ := List.mem_map.mp h
    split at e
    · exact .inr e.symm
    · exact .inl (e ▸ hx)
  · split at h
    · simpa using h
    · split at h
      · exact .inl h
      · split at h
        · rcases List.mem_append.mp h with h | h
          · exact .inl (List.mem_reverse.mp (List.mem_of_mem_eraseP (List.mem_reverse.mp h)))
          · exact .inr (by simpa using h)
        · exact .inl h

/-- A frame whose key is queued takes that frame's place (R55). -/
theorem enqueue_of_key {q : List Frame} {f : Frame} (h : ∃ g ∈ q, frameKey g = frameKey f) :
    (enqueue q f).1 = q.map fun g => if frameKey g = frameKey f then f else g := by
  have : (q.any fun g => frameKey g == frameKey f) = true := by simpa using h
  simp [enqueue, this]

/-- A frame whose key is not queued joins a queue that is not full (R55). -/
theorem enqueue_of_room {q : List Frame} {f : Frame} (h : ¬ ∃ g ∈ q, frameKey g = frameKey f)
    (hq : q.length < 16) : (enqueue q f).1 = q ++ [f] := by
  have : (q.any fun g => frameKey g == frameKey f) = false := by simpa using h
  simp [enqueue, this, hq]

theorem State.request_bus_off {s : State} (h : s.bus.tx ≠ .on) (T : ToteNo) (b : FrameBody) :
    s.request T b = s := by
  simp [State.request, h]

theorem State.request_queue {s : State} (h : s.bus.tx = .on) (T : ToteNo) (b : FrameBody) :
    (s.request T b).bus =
      { s.bus with queue := (enqueue s.bus.queue
          { sender := s.bus.ownStation.getD 0, tote := T, body := b }).1 } := by
  unfold State.request
  rw [if_pos h]
  dsimp only
  split <;> rfl

/-- A frame of a key in `L` meets a queue with room for `L`: nothing is dropped, the frame is queued and
the room stays. -/
theorem enqueue_with_room {L : List TxKey} {s : State} {f : Frame} (hL : frameKey f ∈ L)
    (hr : RoomFor L s) {t : State} (ht : t.bus.queue = (enqueue s.bus.queue f).1) :
    RoomFor L t ∧ f ∈ t.bus.queue ∧
      ∀ g ∈ s.bus.queue, frameKey g ≠ frameKey f → g ∈ t.bus.queue := by
  unfold RoomFor at *
  by_cases h : ∃ g ∈ s.bus.queue, frameKey g = frameKey f
  · rw [enqueue_of_key h] at ht
    have keys : t.bus.queue.map frameKey = s.bus.queue.map frameKey := by
      rw [ht, List.map_map]
      refine List.map_congr_left fun g _ => ?_
      by_cases e : frameKey g = frameKey f <;> simp [e]
    have all : ∀ k, (t.bus.queue.all fun g => frameKey g != k) =
        s.bus.queue.all fun g => frameKey g != k := fun k => by
      have := congrArg (List.all · (· != k)) keys
      simpa [List.all_map, Function.comp_def] using this
    refine ⟨?_, ?_, fun g hg hne => ?_⟩
    · have len : t.bus.queue.length = s.bus.queue.length := by rw [ht, List.length_map]
      simpa only [all, len] using hr
    · obtain ⟨g, hg, e⟩ := h
      rw [ht]
      exact List.mem_map.mpr ⟨g, hg, if_pos e⟩
    · rw [ht]
      exact List.mem_map.mpr ⟨g, hg, if_neg hne⟩
  · have fresh : frameKey f ∈ L.filter fun k => s.bus.queue.all fun g => frameKey g != k := by
      simp only [List.mem_filter, List.all_eq_true, bne_iff_ne]
      exact ⟨hL, fun g hg e => h ⟨g, hg, e⟩⟩
    have pos := List.length_pos_of_mem fresh
    rw [enqueue_of_room h (by omega)] at ht
    refine ⟨?_, by simp [ht], fun g hg _ => by simp [ht, hg]⟩
    have less : (L.filter fun k => t.bus.queue.all fun g => frameKey g != k).length <
        (L.filter fun k => s.bus.queue.all fun g => frameKey g != k).length := by
      have split : (L.filter fun k => t.bus.queue.all fun g => frameKey g != k) =
          (L.filter fun k => s.bus.queue.all fun g => frameKey g != k).filter
            fun k => frameKey f != k := by
        rw [List.filter_filter]
        refine List.filter_congr fun k _ => ?_
        simp [ht, Bool.and_comm]
      rw [split]
      exact List.length_filter_lt_length_iff_exists.mpr ⟨_, fresh, by simp⟩
    simp only [ht, List.length_append, List.length_singleton] at *
    omega

theorem State.request_requests (s : State) (T : ToteNo) (b : FrameBody) :
    Requests (· = requestKey T b) s (s.request T b) := by
  by_cases h : s.bus.tx = .on
  · have hb := s.request_queue h T b
    have hq := congrArg Bus.queue hb
    have key := frameKey_eq_requestKey { sender := s.bus.ownStation.getD 0, tote := T, body := b }
    refine ⟨by rw [hb], by rw [hb], fun f hf => ?_, fun L hL hr => ?_, fun L hL hr f hf hne => ?_⟩
    · rw [hq] at hf
      exact (mem_enqueue hf).imp_right fun e => by rw [e]; exact key
    · exact (enqueue_with_room (by rw [key]; exact hL _ rfl) hr hq).1
    · exact (enqueue_with_room (by rw [key]; exact hL _ rfl) hr hq).2.2 f hf (by rwa [key])
  · rw [s.request_bus_off h]
    exact .refl _ _

/-- With the transmitter ON and room for its key, a requested frame is queued. -/
theorem State.request_queued {s : State} {L : List TxKey} {T : ToteNo} {b : FrameBody}
    (h : s.bus.tx = .on) (hL : requestKey T b ∈ L) (hr : RoomFor L s) :
    { sender := s.bus.ownStation.getD 0, tote := T, body := b } ∈ (s.request T b).bus.queue :=
  (enqueue_with_room (by rw [frameKey_eq_requestKey]; exact hL) hr
    (congrArg Bus.queue (s.request_queue h T b))).2.1

theorem State.requestState_requests (s : State) : Requests (· = .state) s s.requestState :=
  s.request_requests 0 (.state _)

theorem State.settleLane_requests (s : State) : Requests (· = .state) s s.settleLane := by
  unfold State.settleLane
  dsimp only
  split
  · exact (s.withLane_frame _).requests (by simp)
  · exact (((s.withLane_frame _).trans (State.withModeCtl_frame _ _)).requests (by simp)).trans
      (State.requestState_requests _)

theorem holds_requests (Ts : List ToteNo) (s : State) :
    Requests (fun k => ∃ T ∈ Ts, k = .holdRelease T) s
      (Ts.foldl (fun s T => s.request T .hold) s) := by
  induction Ts generalizing s with
  | nil => exact .refl _ _
  | cons T Ts ih =>
    exact ((s.request_requests T .hold).mono fun k e => ⟨T, .head _, e⟩).trans
      ((ih _).mono fun k ⟨U, hU, e⟩ => ⟨U, .tail _ hU, e⟩)

/-- A refresh requests STATE and a HOLD of each tote of the lane (R77). -/
theorem State.countRefresh_requests (s : State) :
    Requests (fun k => k = .state ∨ ∃ T ∈ laneTotes s.lane, k = .holdRelease T) s
      s.countRefresh := by
  unfold State.countRefresh State.refreshWork State.refresh
  split
  · refine (Requests.of_bus_eq (by rfl)).trans
      (((State.requestState_requests _).mono fun k e => .inl e).trans
        ((holds_requests _ _).mono fun k ⟨T, hT, e⟩ => .inr ⟨T, ?_, e⟩))
    simp only [holdTotes, List.mem_filter, List.map_append, List.mem_append] at hT
    simp only [laneTotes, List.map_append, List.mem_append]
    exact hT.1.elim (fun h => h.elim (.inl ∘ .inr) .inr) (.inl ∘ .inl)
  · exact .of_bus_eq rfl

end Sys2Proof.Machine
end

section
/-! PROOFS. What the weights and the urgent test read: the lines and orders, and how a change of line states
shows in them (R17, R36 to R38, R47). -/

namespace Sys2Proof.Machine

/-! ### The Put Map (R31, R35) -/

/-- Every position holds the same handle with the same deadline. -/
def SameOrders (p q : Vector (Option Order) 16) : Prop :=
  ∀ k : PutIdx, (q[k].map fun o => (o.handle, o.deadline)) = p[k].map fun o => (o.handle, o.deadline)

theorem SameOrders.refl (p : Vector (Option Order) 16) : SameOrders p p := fun _ => rfl

theorem SameOrders.trans {p q r : Vector (Option Order) 16} (h : SameOrders p q)
    (k : SameOrders q r) : SameOrders p r := fun i => (k i).trans (h i)

theorem SameOrders.positionOf_eq {p q : Vector (Option Order) 16} (h : SameOrders p q)
    (x : Handle) : positionOf q x = positionOf p x := by
  have any (k : PutIdx) : (q[k].any fun o => o.handle == x) = p[k].any fun o => o.handle == x := by
    have := congrArg (Option.any fun a : Handle × Clock => a.1 == x) (h k)
    simpa [Option.any_map, Function.comp_def] using this
  simp only [positionOf, any]

theorem SameOrders.isPlaced_eq {p q : Vector (Option Order) 16} (h : SameOrders p q)
    (x : Handle) : isPlaced q x = isPlaced p x := by
  rw [isPlaced, isPlaced, h.positionOf_eq]

theorem SameOrders.deadlineOf_eq {p q : Vector (Option Order) 16} (h : SameOrders p q)
    (x : Handle) : deadlineOf q x = deadlineOf p x := by
  have deadline (k : PutIdx) : q[k].map Order.deadline = p[k].map Order.deadline := by
    have := congrArg (Option.map Prod.snd) (h k)
    simpa [Function.comp_def] using this
  simp only [deadlineOf, h.positionOf_eq, deadline]

/-- Readiness is a flag beside the handle and its deadline (R34). -/
theorem State.reready_orders (s : State) (h : Handle) : SameOrders s.puts (s.reready h).puts := by
  unfold State.reready
  split
  · exact .refl _
  · next k _ =>
    split
    · exact .refl _
    · next o ho =>
      have stored : SameOrders s.puts
          (s.puts.set k (some { o with ready := orderReady s.demand.lines h })) := by
        intro j
        by_cases e : k = j
        · subst e
          simp at ho
          simp [ho]
        · have : k.val ≠ j.val := fun x => e (Fin.ext x)
          simp [this]
      dsimp only
      split
      · rw [(State.raise_frame _ _ _).puts_eq (by simp)]
        exact stored
      · exact stored

theorem SameOrders.foldl_reready (hs : List Handle) (s : State) :
    SameOrders s.puts (hs.foldl State.reready s).puts := by
  induction hs generalizing s with
  | nil => exact .refl _
  | cons h hs ih => exact (s.reready_orders h).trans (ih _)

/-! ### Lines that change state -/

/-- A line of a tote in `B` is HELD where a breach holds it (R28). -/
def heldIf (B : ToteNo → Bool) (l : Line) : Line :=
  if B l.tote && l.state.breachable then { l with state := .held } else l

@[simp] theorem heldIf_tote (B : ToteNo → Bool) (l : Line) : (heldIf B l).tote = l.tote := by
  unfold heldIf
  split <;> rfl

@[simp] theorem heldIf_tag (B : ToteNo → Bool) (l : Line) : (heldIf B l).tag = l.tag := by
  unfold heldIf
  split <;> rfl

theorem heldIf_of_breachable {B : ToteNo → Bool} {l : Line} (hB : B l.tote = true)
    (h : l.state.breachable = true) : heldIf B l = { l with state := .held } := by
  simp [heldIf, hB, h]

theorem heldIf_of_not {B : ToteNo → Bool} {l : Line} (hB : B l.tote = false) :
    heldIf B l = l := by
  simp [heldIf, hB]

theorem heldIf_of_closed {B : ToteNo → Bool} {l : Line} (h : l.state.breachable = false) :
    heldIf B l = l := by
  simp [heldIf, h]

/-- No line of a tote in `B` stays WAITING, ACTIVE or SUSPENDED. -/
theorem heldIf_not_breachable {B : ToteNo → Bool} {l : Line} (hB : B l.tote = true) :
    (heldIf B l).state.breachable = false := by
  cases h : l.state.breachable with
  | true => rw [heldIf_of_breachable hB h]; rfl
  | false => rw [heldIf_of_closed h]; exact h

theorem heldIf_heldIf (B C : ToteNo → Bool) (l : Line) :
    heldIf C (heldIf B l) = heldIf (fun T => B T || C T) l := by
  cases hB : B l.tote with
  | true =>
    rw [heldIf_of_closed (heldIf_not_breachable hB)]
    simp [heldIf, hB]
  | false =>
    rw [heldIf_of_not hB]
    simp [heldIf, hB]

theorem lineFacts_map {f : Line → Line}
    (hf : ∀ l, { f l with state := .waiting } = { l with state := .waiting }) (ls : List Line) :
    lineFacts (ls.map f) = lineFacts ls := by
  simp [lineFacts, hf]

theorem lineFacts_heldIf (B : ToteNo → Bool) (ls : List Line) :
    lineFacts (ls.map (heldIf B)) = lineFacts ls :=
  lineFacts_map (fun l => by unfold heldIf; split <;> rfl) ls

theorem State.setLineState_facts (s : State) (tag : Tag) (st : LineState) :
    lineFacts (s.setLineState tag st).demand.lines = lineFacts s.demand.lines :=
  lineFacts_map (fun l => by split <;> rfl) _

/-- Two lines with one tag are one line (R18). -/
theorem eq_of_tag_eq {ls : List Line} (h : (ls.map Line.tag).Nodup) {l m : Line} (hl : l ∈ ls)
    (hm : m ∈ ls) (e : l.tag = m.tag) : l = m := List.inj_on_of_nodup_map h hl hm e

/-! ### Workable lines and the claim weight (R17, R36) -/

/-- The workable lines of T stand as they were, where every line that changed is workable neither before
nor after. -/
theorem workableOf_map {ls : List Line} {p q : Vector (Option Order) 16} {T : ToteNo}
    {f : Line → Line} (hp : SameOrders p q)
    (hf : ∀ l ∈ ls, f l = l ∨
      (l.tote = T → l.state ≠ .waiting) ∧ ((f l).tote = T → (f l).state ≠ .waiting)) :
    workableOf (ls.map f) q T = workableOf ls p T := by
  induction ls with
  | nil => rfl
  | cons l ls ih =>
    have rest := ih fun m hm => hf m (.tail _ hm)
    unfold workableOf at rest ⊢
    rw [List.map_cons, List.filter_cons, List.filter_cons, rest]
    rcases hf l (.head _) with e | ⟨h1, h2⟩
    · rw [e, isWorkable, isWorkable, hp.isPlaced_eq]
    · have n1 : (l.tote == T && isWorkable p l) = false := by
        simp only [isWorkable, Bool.and_eq_false_iff, beq_eq_false_iff_ne]
        by_cases e : l.tote = T
        · exact .inr (.inl (h1 e))
        · exact .inl e
      have n2 : ((f l).tote == T && isWorkable q (f l)) = false := by
        simp only [isWorkable, Bool.and_eq_false_iff, beq_eq_false_iff_ne]
        by_cases e : (f l).tote = T
        · exact .inr (.inl (h2 e))
        · exact .inl e
      simp [n1, n2]

/-- The weight is worked out of the workable lines and their orders' deadlines (R36). -/
theorem claimWeight_congr {ls ms : List Line} {p q : Vector (Option Order) 16} {T : ToteNo}
    (hp : SameOrders p q) (hw : workableOf ms q T = workableOf ls p T) (t : Clock) :
    claimWeight ms q t T = claimWeight ls p t T := by
  unfold claimWeight
  simp only [hw, slacks, hp.deadlineOf_eq]

theorem claimWeight_isSome (ls : List Line) (p : Vector (Option Order) 16) (t : Clock)
    (T : ToteNo) : (claimWeight ls p t T).isSome = hasWorkable ls p T := by
  unfold claimWeight hasWorkable
  cases workableOf ls p T <;> rfl

theorem hasWorkable_iff {ls : List Line} {p : Vector (Option Order) 16} {T : ToteNo} :
    hasWorkable ls p T = true ↔
      ∃ l ∈ ls, l.tote = T ∧ l.state = .waiting ∧ isPlaced p l.handle = true := by
  simp [hasWorkable, workableOf, isWorkable]

/-! ### The urgent test (R47) -/

/-- The smallest slack lies within the limit exactly where one does. -/
theorem min_within_iff (xs : List Int) (b : Int) :
    (∃ a, xs.min? = some a ∧ a ≤ b) ↔ ∃ x ∈ xs, x ≤ b := by
  constructor
  · rintro ⟨a, h, hb⟩
    exact ⟨a, (List.min?_eq_some_iff.mp h).1, hb⟩
  · rintro ⟨x, hx, hb⟩
    cases h : xs.min? with
    | none =>
      rw [List.min?_eq_none_iff] at h
      simp [h] at hx
    | some a => exact ⟨a, rfl, ((List.min?_eq_some_iff.mp h).2 x hx).trans hb⟩

/-- The record is watched and its remaining time is used up (R44, R121). -/
theorem laneStanding_breached_iff (r : Record) (t : Clock) (q : LaneRec) :
    laneStanding r t q = some .breached ↔
      (q.tote ≠ 0 ∧ q.cls ≠ .ambient) ∧ coldRemaining r q.cls q.cold t ≤ 0 := by
  by_cases h0 : q.tote = 0
  · rw [laneStanding, if_pos h0]
    exact ⟨nofun, fun h => absurd h0 h.1.1⟩
  · rw [laneStanding, if_neg h0, standingOf]
    by_cases ha : q.cls = .ambient
    · simp [ha]
    · simp only [ha, if_false, ne_eq, h0, not_false_eq_true, and_self, true_and]
      split
      · next h => simpa using h
      · split <;> simp <;> omega

/-- The record is watched and its remaining time lies in the alert margin (R44, R121). -/
theorem laneStanding_alert_iff (r : Record) (t : Clock) (q : LaneRec) :
    laneStanding r t q = some .alert ↔
      (q.tote ≠ 0 ∧ q.cls ≠ .ambient) ∧ 0 < coldRemaining r q.cls q.cold t ∧
        coldRemaining r q.cls q.cold t ≤ (alertMargin r q.cls : Int) := by
  by_cases h0 : q.tote = 0
  · rw [laneStanding, if_pos h0]
    exact ⟨nofun, fun h => absurd h0 h.1.1⟩
  · rw [laneStanding, if_neg h0, standingOf]
    by_cases ha : q.cls = .ambient
    · simp [ha]
    · simp only [ha, if_false, ne_eq, h0, not_false_eq_true, and_self, true_and]
      split
      · next h => simpa using fun h2 => absurd h2 (by omega)
      · next h =>
        split
        · next h2 => simpa using ⟨by omega, h2⟩
        · next h2 => simpa using fun _ => by omega

theorem isUrgent_iff (r : Record) (ls : List Line) (p : Vector (Option Order) 16) (t : Clock)
    (q : LaneRec) :
    isUrgent r ls p t q = true ↔ q.tote ≠ 0 ∧
      ((laneStanding r t q = some .alert ∨ laneStanding r t q = some .breached) ∨
        ∃ a, expressSlack ls p t q.tote = some a ∧ a ≤ (r.urgentSlack : Int)) := by
  unfold isUrgent
  rw [Bool.and_eq_true, Bool.or_eq_true, bne_iff_ne]
  refine and_congr_right fun _ => or_congr ?_ ?_
  · cases laneStanding r t q with
    | none => simp
    | some st => cases st <;> simp
  · cases expressSlack ls p t q.tote with
    | none => simp
    | some a => simp

theorem expressSlack_within_iff (ls : List Line) (p : Vector (Option Order) 16) (t : Clock)
    (T : ToteNo) (b : Int) :
    (∃ a, expressSlack ls p t T = some a ∧ a ≤ b) ↔
    ∃ l ∈ ls, l.tote = T ∧ l.state = .waiting ∧ l.prio = .express ∧
      ∃ u, deadlineOf p l.handle = some u ∧ timeTo u t ≤ b := by
  have placed (x : Handle) (u : Clock) (h : deadlineOf p x = some u) : isPlaced p x = true := by
    unfold deadlineOf at h
    unfold isPlaced
    cases e : positionOf p x with
    | none => simp [e] at h
    | some k => rfl
  unfold expressSlack
  rw [min_within_iff]
  simp only [slacks, List.mem_filterMap, List.mem_filter, workableOf, isWorkable, Bool.and_eq_true,
    beq_iff_eq, Option.map_eq_some_iff]
  constructor
  · rintro ⟨_, ⟨l, ⟨⟨hl, hT, hs, -⟩, he⟩, u, hu, rfl⟩, hb⟩
    exact ⟨l, hl, hT, hs, he, u, hu, hb⟩
  · rintro ⟨l, hl, hT, hs, he, u, hu, hb⟩
    exact ⟨_, ⟨l, ⟨⟨hl, hT, hs, placed _ _ hu⟩, he⟩, u, hu, rfl⟩, hb⟩

/-- The model's urgent test in the words of the statements (R47). -/
theorem State.urgentNow_iff (s : State) (q : LaneRec) : s.urgentNow q = true ↔ UrgentIn s q := by
  unfold State.urgentNow UrgentIn
  rw [isUrgent_iff, expressSlack_within_iff, laneStanding_alert_iff, laneStanding_breached_iff]
  refine and_congr_right fun h0 => or_congr_left ?_
  constructor
  · rintro (⟨⟨-, hc⟩, -, h⟩ | ⟨⟨-, hc⟩, h⟩)
    · exact ⟨hc, h⟩
    · exact ⟨hc, by omega⟩
  · rintro ⟨hc, h⟩
    by_cases hb : coldRemaining s.conf q.cls q.cold s.clock ≤ 0
    · exact .inr ⟨⟨h0, hc⟩, hb⟩
    · exact .inl ⟨⟨h0, hc⟩, by omega, h⟩

/-- The urgent test reads the configuration, the clock, the deadlines and the tote's WAITING lines. -/
theorem UrgentIn.congr {s t : State} {q : LaneRec} (hcfg : t.cfg = s.cfg)
    (hclock : t.clock = s.clock) (hputs : SameOrders s.puts t.puts)
    (hlines : ∀ l, l.tote = q.tote → l.state = .waiting →
      (l ∈ t.demand.lines ↔ l ∈ s.demand.lines)) :
    UrgentIn t q ↔ UrgentIn s q := by
  unfold UrgentIn State.conf
  rw [hcfg, hclock]
  refine and_congr_right fun _ => or_congr_right ?_
  constructor <;> rintro ⟨l, hl, hT, hs, hp, u, hu, hb⟩
  · exact ⟨l, (hlines l hT hs).mp hl, hT, hs, hp, u, by rwa [← hputs.deadlineOf_eq], hb⟩
  · exact ⟨l, (hlines l hT hs).mpr hl, hT, hs, hp, u, by rwa [hputs.deadlineOf_eq], hb⟩

end Sys2Proof.Machine
end

section
/-! PROOFS. The Cold Monitor (R121, R122): what the working of one record does to each part of the state. -/

namespace Sys2Proof.Machine

/-! ### The lane and its records -/

/-- The lane with every record changed alike. -/
def Lane.mapRecs (f : LaneRec → LaneRec) (l : Lane) : Lane :=
  { l with queue := l.queue.map f, faceRec := l.faceRec.map f, parkRec := l.parkRec.map f }

theorem Lane.mapRecs_mapRecs (f g : LaneRec → LaneRec) (l : Lane) :
    (l.mapRecs f).mapRecs g = l.mapRecs fun q => g (f q) := by
  simp [Lane.mapRecs, Function.comp_def]

theorem Lane.mapRecs_id {f : LaneRec → LaneRec} (hf : ∀ q, f q = q) (l : Lane) :
    l.mapRecs f = l := by
  have : f = id := funext hf
  simp [Lane.mapRecs, this]

/-- The lane whose face has entered RELEASING, or LEAVING with the gap present and no jam (R118). -/
def Lane.released (l : Lane) : Lane :=
  { l with
    face := if l.gap = true ∧ l.jam = none then .leaving else .releasing
    faceRec := l.faceRec.map fun q => { q with mergeWait := 0, stallMark := false }
    waits := if l.gap = true ∧ l.jam = none then { l.waits with merge := some 0 } else l.waits }

theorem State.beginRelease_lane (s : State) : s.beginRelease.lane = s.lane.released := by
  cases h : s.lane.gap <;> cases k : s.lane.jam <;>
    simp [State.beginRelease, State.tryLeave, Lane.released, h, k]

theorem Lane.released_face (l : Lane) :
    l.released.face = .releasing ∨ l.released.face = .leaving := by
  unfold Lane.released
  dsimp only
  split
  · exact .inr rfl
  · exact .inl rfl

/-- A record with what the Cold Monitor and the urgent test go by and set; the rest at its first value. -/
def LaneRec.watched (q : LaneRec) : LaneRec :=
  { q with stage := .queued, refusalMark := false, stallMark := false, source := .queue,
           savedTag := none, mergeWait := 0 }

/-- The lane's records by what the Cold Monitor and the urgent test go by and set. -/
def Lane.watched (l : Lane) : List LaneRec :=
  (l.queue ++ l.faceRec.toList ++ l.parkRec.toList).map LaneRec.watched

theorem Lane.watched_eq (s : State) : s.lane.watched = (laneRecords s).map LaneRec.watched := rfl

theorem Lane.watched_mapRecs {f : LaneRec → LaneRec} (hf : ∀ q, (f q).watched = f q.watched)
    (l : Lane) : (l.mapRecs f).watched = l.watched.map f := by
  have opt (o : Option LaneRec) :
      (o.map f).toList.map LaneRec.watched = (o.toList.map LaneRec.watched).map f := by
    cases o <;> simp [hf]
  simp [Lane.watched, Lane.mapRecs, opt, hf]

theorem Lane.watched_released (l : Lane) : l.released.watched = l.watched := by
  unfold Lane.watched Lane.released
  cases l.faceRec <;> simp [LaneRec.watched]

theorem laneTotes_eq_watched (l : Lane) : laneTotes l = l.watched.map LaneRec.tote := by
  simp [laneTotes, Lane.watched, LaneRec.watched, Function.comp_def]

/-! ### The marks that fall due (R121) -/

/-- The record's ALERT is to be noticed. -/
def alertsNow (r : Record) (t : Clock) (q : LaneRec) : Bool :=
  decide (laneStanding r t q = some .alert) && !q.alertMark && q.cold.isKnown

/-- The record's breach is to be noticed. -/
def breachesNow (r : Record) (t : Clock) (q : LaneRec) : Bool :=
  laneStanding r t q == some .breached && !q.breachMark

/-- The record of T is at ALERT and its alert mark clear (R121). -/
def State.alertDue (s : State) (T : ToteNo) : Bool :=
  (s.laneRecOf T).any (alertsNow s.conf s.clock)

theorem State.coldAlertWork_eq (s : State) (T : ToteNo) :
    s.coldAlertWork T =
      if s.alertDue T then
        (s.updRec T fun q => { q with alertMark := true }).raise .coldAlert T
      else s := by
  unfold State.coldAlertWork State.alertDue alertsNow
  cases s.laneRecOf T with
  | none => rfl
  | some q => simp [and_assoc]

/-- A mark once set, the same ALERT is not noticed again. -/
theorem alertsNow_marked (r : Record) (t : Clock) (q : LaneRec) (b : Bool) :
    alertsNow r t { q with alertMark := q.alertMark || alertsNow r t q, breachMark := b } =
      false := by
  change (decide (laneStanding r t q = some .alert) && !(q.alertMark ||
    (decide (laneStanding r t q = some .alert) && !q.alertMark && q.cold.isKnown)) &&
    q.cold.isKnown) = false
  generalize decide (laneStanding r t q = some .alert) = a
  cases a <;> cases q.alertMark <;> cases q.cold.isKnown <;> rfl

theorem breachesNow_marked (r : Record) (t : Clock) (q : LaneRec) (a : Bool) :
    breachesNow r t { q with alertMark := a, breachMark := q.breachMark || breachesNow r t q } =
      false := by
  change (laneStanding r t q == some .breached && !(q.breachMark ||
    (laneStanding r t q == some .breached && !q.breachMark))) = false
  generalize (laneStanding r t q == some .breached) = b
  cases b <;> cases q.breachMark <;> rfl

theorem any_find_watched (p : LaneRec → Bool) (hp : ∀ q, p q.watched = p q) (s : State)
    (T : ToteNo) :
    (s.lane.watched.find? fun q => q.tote == T).any p = (s.laneRecOf T).any p := by
  unfold State.laneRecOf Lane.watched
  rw [List.find?_map, Option.any_map]
  congr 1
  exact funext hp

theorem State.alertDue_eq (s : State) (T : ToteNo) :
    s.alertDue T =
      (s.lane.watched.find? fun q => q.tote == T).any (alertsNow s.conf s.clock) :=
  (any_find_watched _ (fun _ => rfl) s T).symm

theorem State.breachDue_eq (s : State) (T : ToteNo) :
    s.breachDue T =
      (s.lane.watched.find? fun q => q.tote == T).any (breachesNow s.conf s.clock) :=
  (any_find_watched _ (fun _ => rfl) s T).symm

theorem any_find_zero {p : LaneRec → Bool} (hp : ∀ q, p q = true → q.tote ≠ 0) (qs : List LaneRec) :
    (qs.find? fun q => q.tote == 0).any p = false := by
  cases h : qs.find? fun q => q.tote == 0 with
  | none => rfl
  | some q =>
    have := List.find?_some h
    simp only [beq_iff_eq] at this
    rw [Option.any_some, Bool.eq_false_iff]
    exact fun e => hp q e this

theorem watched_tote_of_alertsNow {r : Record} {t : Clock} {q : LaneRec}
    (h : alertsNow r t q = true) : q.tote ≠ 0 := by
  simp only [alertsNow, Bool.and_eq_true, decide_eq_true_eq, laneStanding_alert_iff] at h
  exact h.1.1.1.1

theorem watched_tote_of_breachesNow {r : Record} {t : Clock} {q : LaneRec}
    (h : breachesNow r t q = true) : q.tote ≠ 0 := by
  simp only [breachesNow, Bool.and_eq_true, beq_iff_eq, laneStanding_breached_iff] at h
  exact h.1.1.1

/-- Strays are not watched (R121). -/
@[simp] theorem State.alertDue_zero (s : State) : s.alertDue 0 = false :=
  any_find_zero (fun _ => watched_tote_of_alertsNow) _

@[simp] theorem State.breachDue_zero (s : State) : s.breachDue 0 = false :=
  any_find_zero (fun _ => watched_tote_of_breachesNow) _

/-- A record with the marks that its tote's working sets. -/
def State.coldMark (s : State) (q : LaneRec) : LaneRec :=
  { q with alertMark := q.alertMark || s.alertDue q.tote
           breachMark := q.breachMark || s.breachDue q.tote }

/-- A record after the working of these totes. -/
def State.markIn (s : State) (Ts : List ToteNo) (q : LaneRec) : LaneRec :=
  if q.tote ∈ Ts then s.coldMark q else q

theorem State.markIn_of_mem {s : State} {Ts : List ToteNo} {q : LaneRec} (h : q.tote ∈ Ts) :
    s.markIn Ts q = s.coldMark q := if_pos h

theorem State.markIn_of_not_mem {s : State} {Ts : List ToteNo} {q : LaneRec} (h : q.tote ∉ Ts) :
    s.markIn Ts q = q := if_neg h

@[simp] theorem State.markIn_tote (s : State) (Ts : List ToteNo) (q : LaneRec) :
    (s.markIn Ts q).tote = q.tote := by
  unfold State.markIn
  split <;> rfl

@[simp] theorem State.markIn_urgent (s : State) (Ts : List ToteNo) (q : LaneRec) :
    (s.markIn Ts q).urgent = q.urgent := by
  unfold State.markIn
  split <;> rfl

theorem State.markIn_watched (s : State) (Ts : List ToteNo) (q : LaneRec) :
    (s.markIn Ts q).watched = s.markIn Ts q.watched := by
  by_cases h : q.tote ∈ Ts
  · rw [markIn_of_mem h, markIn_of_mem (q := q.watched) h]
    rfl
  · rw [markIn_of_not_mem h, markIn_of_not_mem (q := q.watched) h]

/-! ### The working of an ALERT -/

theorem State.coldAlertWork_lane (s : State) (T : ToteNo) :
    (s.coldAlertWork T).lane = s.lane.mapRecs fun q =>
      if q.tote = T then { q with alertMark := q.alertMark || s.alertDue T } else q := by
  rw [State.coldAlertWork_eq]
  cases s.alertDue T with
  | true =>
    rw [if_pos rfl, (State.raise_frame _ _ _).lane_eq (by simp)]
    simp only [Bool.or_true]
    rfl
  | false =>
    rw [if_neg (by simp)]
    exact (Lane.mapRecs_id (fun q => by simp) _).symm

theorem State.coldAlertWork_breachDue (s : State) (T U : ToteNo) :
    (s.coldAlertWork T).breachDue U = s.breachDue U := by
  have frame := s.coldAlertWork_frame T
  have hc : (s.coldAlertWork T).conf = s.conf := by rw [State.conf, frame.cfg_eq (by simp)]; rfl
  rw [State.breachDue_eq, State.breachDue_eq, hc, frame.clock_eq (by simp), s.coldAlertWork_lane,
    Lane.watched_mapRecs (fun q => by by_cases h : q.tote = T <;> simp [h, LaneRec.watched]),
    List.find?_map, Option.any_map]
  have tote : (fun q : LaneRec => q.tote == U) ∘ (fun q : LaneRec =>
      if q.tote = T then { q with alertMark := q.alertMark || s.alertDue T } else q) =
      fun q => q.tote == U := by
    funext q
    by_cases h : q.tote = T <;> simp [h]
  rw [tote]
  congr 1
  funext q
  by_cases h : q.tote = T
  · simp only [if_pos h]
    rfl
  · simp only [if_neg h]

theorem State.coldAlertWork_raised (s : State) (T : ToteNo) :
    RaisedFor .coldAlert (if s.alertDue T = true then [T] else []) s (s.coldAlertWork T) ∧
    RaisesOnly [.coldAlert] s (s.coldAlertWork T) := by
  rw [State.coldAlertWork_eq]
  cases s.alertDue T with
  | true => exact ⟨State.raise_for (s.updRec T _) _ _,
      ((s.updRec_frame T _).raisesOnly (by simp)).trans (State.raise_raisesOnly _ _ _)⟩
  | false => exact ⟨rfl, .refl _ _⟩

/-! ### A breach (R28, R122) -/

/-- The breach mark set in the record of T. -/
def breachMarkOf (T : ToteNo) (q : LaneRec) : LaneRec :=
  if q.tote = T then { q with breachMark := true } else q

@[simp] theorem breachMarkOf_tote (T : ToteNo) (q : LaneRec) : (breachMarkOf T q).tote = q.tote := by
  unfold breachMarkOf
  split <;> rfl

/-- A breach up to the end of the line's work: the mark and the notice, the lines HELD and the lights
off. -/
def State.holdLines (s : State) (T : ToteNo) : State :=
  let u := ((s.updRec T fun q => { q with breachMark := true }).raise .coldBreach T).withLines
    (s.demand.lines.map (heldIf (· == T)))
  if s.demand.lines.any fun l => l.tote == T && l.state == .active then u.leaveActive else u

/-- A breach up to the release of the face: the want record and readiness after the lines. -/
def State.holdTote (s : State) (T : ToteNo) : State :=
  ((s.demand.lines.filter fun l => l.tote == T && l.state.breachable).map Line.handle).foldl
    State.reready ((s.holdLines T).deriveWant T)

theorem any_active_hit (ls : List Line) (T : ToteNo) :
    ((ls.filter fun l => l.tote == T && l.state.breachable).any fun l => l.state == .active) =
      ls.any fun l => l.tote == T && l.state == .active := by
  rw [List.any_filter]
  congr 1
  funext l
  cases l.state <;> simp [LineState.breachable]

theorem State.breach_eq (s : State) (T : ToteNo) :
    s.breach T =
      if (s.holdTote T).lane.face == .presenting &&
        (s.holdTote T).lane.faceRec.any fun q => q.tote == T
      then (s.holdTote T).beginRelease else s.holdTote T := by
  unfold State.holdTote State.holdLines
  rw [← any_active_hit]
  rfl

theorem State.holdLines_frame (s : State) (T : ToteNo) :
    SameExcept [.lane, .notices, .demand, .picker] s (s.holdLines T) := by
  have h := ((s.updRec_frame T fun q => { q with breachMark := true }).trans
    (State.raise_frame _ .coldBreach T)).trans
    (State.withLines_frame _ (s.demand.lines.map (heldIf (· == T))))
  unfold State.holdLines
  dsimp only
  split
  · exact h.step (State.leaveActive_frame _) (by simp) (by simp)
  · exact h.mono (by simp)

theorem State.holdLines_demand (s : State) (T : ToteNo) :
    (s.holdLines T).demand = { s.demand with lines := s.demand.lines.map (heldIf (· == T)) } := by
  unfold State.holdLines
  dsimp only
  split <;> rfl

theorem State.holdLines_lane (s : State) (T : ToteNo) :
    (s.holdLines T).lane = s.lane.mapRecs (breachMarkOf T) := by
  unfold State.holdLines
  dsimp only
  split <;> rfl

/-- The lights go off with the tote's ACTIVE line and stay without one (R132). -/
theorem State.holdLines_picker (s : State) (T : ToteNo) :
    ((∃ l ∈ s.demand.lines, l.tote = T ∧ l.state = .active) →
      (s.holdLines T).picker.active = none ∧ (s.holdLines T).picker.toteLight = false ∧
      (s.holdLines T).picker.display = none ∧ (s.holdLines T).picker.putLight = none) ∧
    ((∀ l ∈ s.demand.lines, l.tote = T → l.state ≠ .active) →
      (s.holdLines T).picker = s.picker) := by
  unfold State.holdLines
  dsimp only
  split
  · next h =>
    simp only [List.any_eq_true, Bool.and_eq_true, beq_iff_eq] at h
    obtain ⟨l, hl, hT, ha⟩ := h
    exact ⟨fun _ => ⟨rfl, rfl, rfl, rfl⟩, fun hn => absurd ha (hn l hl hT)⟩
  · next h =>
    simp only [List.any_eq_true, Bool.and_eq_true, beq_iff_eq] at h
    exact ⟨fun hx => absurd hx h, fun _ => rfl⟩

theorem State.holdLines_raised (s : State) (T : ToteNo) :
    RaisedFor .coldBreach [T] s (s.holdLines T) ∧
    RaisesOnly [.coldBreach] s (s.holdLines T) := by
  have mark := s.updRec_frame T fun q => { q with breachMark := true }
  have raised := State.raise_for (s.updRec T fun q => { q with breachMark := true }) .coldBreach T
  have only := (mark.raisesOnly (ns := [.coldBreach]) (by simp)).trans
    (State.raise_raisesOnly _ .coldBreach T)
  unfold State.holdLines
  dsimp only
  split
  · exact ⟨raised, only⟩
  · exact ⟨raised, only⟩

/-- The breached tote has no weight left (R39). -/
theorem State.holdLines_weightOf (s : State) (T : ToteNo) : (s.holdLines T).weightOf T = none := by
  have none_workable : hasWorkable (s.holdLines T).demand.lines (s.holdLines T).puts T = false := by
    rw [Bool.eq_false_iff]
    intro h
    rw [hasWorkable_iff, State.holdLines_demand] at h
    obtain ⟨m, hm, hT, hs, -⟩ := h
    obtain ⟨l, -, rfl⟩ := List.mem_map.mp hm
    rw [heldIf_tote] at hT
    have := heldIf_not_breachable (B := (· == T)) (l := l) (by simpa using hT)
    simp [hs, LineState.breachable] at this
  have := claimWeight_isSome (s.holdLines T).demand.lines (s.holdLines T).puts
    (s.holdLines T).clock T
  rw [none_workable, Option.isSome_eq_false_iff, Option.isNone_iff_eq_none] at this
  exact this

/-- A tote without a weight loses its want record with a DROP, where it has one (R29). -/
theorem State.deriveWant_of_no_weight {s : State} {T : ToteNo} (h : s.weightOf T = none) :
    (s.deriveWant T).demand =
      { s.demand with wants := s.demand.wants.filter fun w => w.tote != T } ∧
    Requests (fun k => k = .wantDrop T ∧ ∃ w ∈ s.demand.wants, w.tote = T) s (s.deriveWant T) ∧
    ∀ L, s.bus.tx = .on → (∃ w ∈ s.demand.wants, w.tote = T) → .wantDrop T ∈ L → RoomFor L s →
      { sender := s.bus.ownStation.getD 0, tote := T, body := .drop } ∈
        (s.deriveWant T).bus.queue := by
  unfold State.deriveWant
  cases hw : s.wantOf T with
  | none =>
    have absent : ∀ w ∈ s.demand.wants, w.tote ≠ T := by
      simpa [State.wantOf] using hw
    rw [h]
    refine ⟨?_, .refl _ _, fun L _ ⟨w, hm, e⟩ => absurd e (absent w hm)⟩
    have : (s.demand.wants.filter fun w => w.tote != T) = s.demand.wants :=
      List.filter_eq_self.mpr fun w hm => by simpa using absent w hm
    rw [this]
  | some w =>
    have present : ∃ w ∈ s.demand.wants, w.tote = T :=
      ⟨w, List.mem_of_find?_eq_some hw, by simpa using List.find?_some hw⟩
    rw [h]
    refine ⟨?_, ?_, fun L htx _ hL hr => ?_⟩
    · rw [(State.request_frame _ _ _).demand_eq (by simp)]
      rfl
    · exact (Requests.of_bus_eq (by rfl)).trans
        ((State.request_requests _ _ _).mono fun k e => ⟨e, present⟩)
    · exact State.request_queued (s := s.withWants _) htx hL hr

theorem State.holdTote_frames (s : State) (T : ToteNo) :
    SameExcept [.demand, .bus, .notices] (s.holdLines T) ((s.holdLines T).deriveWant T) ∧
    SameExcept [.puts, .notices] ((s.holdLines T).deriveWant T) (s.holdTote T) :=
  ⟨State.deriveWant_frame _ _, SameExcept.foldl State.reready_frame _ _⟩

theorem State.holdTote_lane (s : State) (T : ToteNo) :
    (s.holdTote T).lane = s.lane.mapRecs (breachMarkOf T) := by
  obtain ⟨h1, h2⟩ := s.holdTote_frames T
  rw [h2.lane_eq (by simp), h1.lane_eq (by simp), s.holdLines_lane]

/-- The release at the end of a breach touches the lane alone. -/
theorem State.breach_release_frame (s : State) (T : ToteNo) :
    SameExcept [.lane] (s.holdTote T) (s.breach T) := by
  rw [State.breach_eq]
  split
  · exact State.beginRelease_frame _
  · exact .refl _ _

theorem State.breach_demand (s : State) (T : ToteNo) :
    (s.breach T).demand =
      { lines := s.demand.lines.map (heldIf (· == T))
        wants := s.demand.wants.filter fun w => w.tote != T } := by
  obtain ⟨-, h2⟩ := s.holdTote_frames T
  rw [(s.breach_release_frame T).demand_eq (by simp), h2.demand_eq (by simp),
    (State.deriveWant_of_no_weight (s.holdLines_weightOf T)).1, s.holdLines_demand]

theorem State.breach_picker_eq (s : State) (T : ToteNo) :
    (s.breach T).picker = (s.holdLines T).picker := by
  obtain ⟨h1, h2⟩ := s.holdTote_frames T
  rw [(s.breach_release_frame T).picker_eq (by simp), h2.picker_eq (by simp), h1.picker_eq (by simp)]

theorem State.breach_orders (s : State) (T : ToteNo) : SameOrders s.puts (s.breach T).puts := by
  rw [(s.breach_release_frame T).puts_eq (by simp)]
  have h := SameOrders.foldl_reready
    ((s.demand.lines.filter fun l => l.tote == T && l.state.breachable).map Line.handle)
    ((s.holdLines T).deriveWant T)
  rwa [(s.holdTote_frames T).1.puts_eq (by simp), (s.holdLines_frame T).puts_eq (by simp)] at h

theorem State.breach_requests (s : State) (T : ToteNo) :
    Requests (fun k => k = .wantDrop T ∧ ∃ w ∈ s.demand.wants, w.tote = T) s (s.breach T) ∧
    ∀ L, s.bus.tx = .on → (∃ w ∈ s.demand.wants, w.tote = T) → .wantDrop T ∈ L → RoomFor L s →
      { sender := s.bus.ownStation.getD 0, tote := T, body := .drop } ∈ (s.breach T).bus.queue := by
  obtain ⟨-, requests, queued⟩ := State.deriveWant_of_no_weight (s.holdLines_weightOf T)
  have before : (s.holdLines T).bus = s.bus := (s.holdLines_frame T).bus_eq (by simp)
  have after : (s.breach T).bus = ((s.holdLines T).deriveWant T).bus := by
    rw [(s.breach_release_frame T).bus_eq (by simp), (s.holdTote_frames T).2.bus_eq (by simp)]
  rw [s.holdLines_demand] at requests queued
  refine ⟨((Requests.of_bus_eq before).trans requests).trans (.of_bus_eq after),
    fun L htx hw hL hr => ?_⟩
  have := queued L (by rwa [before]) hw hL (by unfold RoomFor at *; rwa [before])
  rwa [before, ← after] at this

theorem State.breach_raised (s : State) (T : ToteNo) :
    RaisedFor .coldBreach [T] s (s.breach T) ∧
    RaisesOnly [.coldBreach, .frameAbandoned, .orderReady] s (s.breach T) := by
  obtain ⟨raised, only⟩ := s.holdLines_raised T
  have later : RaisesOnly [.frameAbandoned, .orderReady] (s.holdLines T) (s.breach T) :=
    (((State.deriveWant_raisesOnly _ T).mono (by simp)).trans
      ((RaisesOnly.foldl State.reready_raisesOnly _ _).mono (by simp))).trans
      ((s.breach_release_frame T).raisesOnly (by simp))
  exact ⟨raised.append (es := []) ((later .coldBreach).1 (by simp)),
    (only.mono (by simp)).trans (later.mono (by simp))⟩

/-- A breach of the presented tote releases it from the face (R122). -/
theorem State.breach_lane (s : State) (T : ToteNo) :
    (s.lane.face = .presenting ∧ (∃ q ∈ s.lane.faceRec, q.tote = T) →
      (s.breach T).lane = (s.lane.mapRecs (breachMarkOf T)).released) ∧
    (¬ (s.lane.face = .presenting ∧ ∃ q ∈ s.lane.faceRec, q.tote = T) →
      (s.breach T).lane = s.lane.mapRecs (breachMarkOf T)) := by
  have any : (s.holdTote T).lane.faceRec.any (fun q => q.tote == T) =
      s.lane.faceRec.any fun q => q.tote == T := by
    rw [s.holdTote_lane]
    unfold Lane.mapRecs
    rw [Option.any_map]
    congr 1
    funext q
    simp
  have face : (s.holdTote T).lane.face = s.lane.face := by rw [s.holdTote_lane]; rfl
  rw [State.breach_eq, any, face]
  by_cases h : s.lane.face = .presenting ∧ ∃ q ∈ s.lane.faceRec, q.tote = T
  · have : (s.lane.face == .presenting && s.lane.faceRec.any fun q => q.tote == T) = true := by
      obtain ⟨hf, q, hq, e⟩ := h
      simp only [Option.mem_def] at hq
      simp [hf, hq, e]
    rw [if_pos this, State.beginRelease_lane, s.holdTote_lane]
    exact ⟨fun _ => rfl, fun hn => absurd h hn⟩
  · have : ¬ (s.lane.face == .presenting && s.lane.faceRec.any fun q => q.tote == T) = true := by
      rw [Bool.and_eq_true, beq_iff_eq, Option.any_eq_true]
      rintro ⟨hf, q, hq, e⟩
      exact h ⟨hf, q, hq, by simpa using e⟩
    rw [if_neg this, s.holdTote_lane]
    exact ⟨fun hp => absurd hp h, fun _ => rfl⟩

end Sys2Proof.Machine
end

section
/-! PROOFS. The Cold Monitor's working of a list of totes (R121): what it comes to, part by part. -/

namespace Sys2Proof.Machine

/-! ### One tote -/

/-- The tote is among these and its breach is due. -/
def State.breachIn (s : State) (Ts : List ToteNo) (U : ToteNo) : Bool :=
  decide (U ∈ Ts) && s.breachDue U

theorem State.breachIn_single_of_due {s : State} {T : ToteNo} (h : s.breachDue T = true) :
    s.breachIn [T] = (· == T) := by
  funext U
  by_cases e : U = T <;> simp [State.breachIn, e, h]

theorem State.breachIn_single_of_not_due {s : State} {T : ToteNo} (h : s.breachDue T = false) :
    s.breachIn [T] = fun _ => false := by
  funext U
  by_cases e : U = T <;> simp [State.breachIn, e, h]

/-- The working of T takes its presented tote from the face. -/
def State.coldReleases (s : State) (T : ToteNo) : Prop :=
  s.breachDue T = true ∧ s.lane.face = .presenting ∧ ∃ q ∈ s.lane.faceRec, q.tote = T

theorem State.coldWork_eq (s : State) (T : ToteNo) :
    s.coldWork T = if s.breachDue T then (s.coldAlertWork T).breach T else s.coldAlertWork T := by
  rw [State.coldWork, State.coldBreachWork, State.coldAlertWork_breachDue]

theorem State.coldWork_of_due {s : State} {T : ToteNo} (h : s.breachDue T = true) :
    s.coldWork T = (s.coldAlertWork T).breach T := by
  rw [State.coldWork_eq, if_pos h]

theorem State.coldWork_of_not_due {s : State} {T : ToteNo} (h : s.breachDue T = false) :
    s.coldWork T = s.coldAlertWork T := by
  rw [State.coldWork_eq, h]
  rfl

theorem State.coldWork_conf (s : State) (T : ToteNo) : (s.coldWork T).conf = s.conf := by
  rw [State.conf, (s.coldWork_frame T).cfg_eq (by simp)]
  rfl

theorem State.coldWork_demand (s : State) (T : ToteNo) :
    (s.coldWork T).demand =
      { lines := s.demand.lines.map (heldIf (s.breachIn [T]))
        wants := s.demand.wants.filter fun w => !s.breachIn [T] w.tote } := by
  have alert := (s.coldAlertWork_frame T).demand_eq (by simp)
  cases h : s.breachDue T with
  | true =>
    rw [State.coldWork_of_due h, State.breach_demand, alert, State.breachIn_single_of_due h]
    rfl
  | false =>
    have same : heldIf (fun _ => false) = id := funext fun l => heldIf_of_not rfl
    rw [State.coldWork_of_not_due h, alert, State.breachIn_single_of_not_due h, same]
    simp

theorem State.coldWork_lane (s : State) (T : ToteNo) :
    (s.coldReleases T → (s.coldWork T).lane = (s.lane.mapRecs (s.markIn [T])).released) ∧
    (¬ s.coldReleases T → (s.coldWork T).lane = s.lane.mapRecs (s.markIn [T])) := by
  have present : (∃ q ∈ (s.coldAlertWork T).lane.faceRec, q.tote = T) ↔
      ∃ q ∈ s.lane.faceRec, q.tote = T := by
    rw [s.coldAlertWork_lane]
    cases hq : s.lane.faceRec with
    | none => simp [Lane.mapRecs, hq]
    | some q => by_cases e : q.tote = T <;> simp [Lane.mapRecs, hq, e]
  have face : (s.coldAlertWork T).lane.face = s.lane.face := by rw [s.coldAlertWork_lane]; rfl
  cases h : s.breachDue T with
  | true =>
    have marks : (s.coldAlertWork T).lane.mapRecs (breachMarkOf T) =
        s.lane.mapRecs (s.markIn [T]) := by
      rw [s.coldAlertWork_lane, Lane.mapRecs_mapRecs]
      congr 1
      funext q
      by_cases e : q.tote = T
      · subst e
        simp [State.markIn, State.coldMark, breachMarkOf, h]
      · simp [State.markIn, breachMarkOf, e]
    have lane := (s.coldAlertWork T).breach_lane T
    rw [marks, face, present] at lane
    rw [State.coldWork_of_due h]
    exact ⟨fun hr => lane.1 hr.2, fun hr => lane.2 fun hx => hr ⟨h, hx⟩⟩
  | false =>
    refine ⟨fun hr => absurd hr.1 (by simp [h]), fun _ => ?_⟩
    rw [State.coldWork_of_not_due h, s.coldAlertWork_lane]
    congr 1
    funext q
    by_cases e : q.tote = T
    · subst e
      simp [State.markIn, State.coldMark, h]
    · simp [State.markIn, e]

theorem State.coldWork_watched (s : State) (T : ToteNo) :
    (s.coldWork T).lane.watched = s.lane.watched.map (s.markIn [T]) := by
  obtain ⟨released, stays⟩ := s.coldWork_lane T
  by_cases h : s.coldReleases T
  · rw [released h, Lane.watched_released, Lane.watched_mapRecs (s.markIn_watched _)]
  · rw [stays h, Lane.watched_mapRecs (s.markIn_watched _)]

theorem find_tote_markIn (s : State) (Ts : List ToteNo) (U : ToteNo) (qs : List LaneRec) :
    ((qs.map (s.markIn Ts)).find? fun q => q.tote == U) =
      (qs.find? fun q => q.tote == U).map (s.markIn Ts) := by
  rw [List.find?_map]
  congr 2
  funext q
  simp

/-- What the working of T no longer finds at T's record it finds at the other totes' as before. -/
theorem State.any_find_markIn {s : State} {T : ToteNo} {p : LaneRec → Bool}
    (done : ∀ q, (s.lane.watched.find? fun q => q.tote == T) = some q → p (s.coldMark q) = false)
    (U : ToteNo) :
    ((s.lane.watched.map (s.markIn [T])).find? fun q => q.tote == U).any p =
      (U != T && (s.lane.watched.find? fun q => q.tote == U).any p) := by
  rw [find_tote_markIn, Option.any_map]
  cases h : s.lane.watched.find? fun q => q.tote == U with
  | none => simp
  | some q =>
    have tote : q.tote = U := by simpa using List.find?_some h
    by_cases e : U = T
    · have mem : q.tote ∈ [T] := by simp [tote, e]
      have marked : p (s.markIn [T] q) = false := by
        rw [State.markIn_of_mem mem]
        exact done q (e ▸ h)
      simp [marked, e]
    · have mem : q.tote ∉ [T] := by simp [tote, e]
      simp [State.markIn_of_not_mem mem, bne_iff_ne.mpr e]

/-- Its own mark set, a tote's ALERT is not due again; another tote's is as it was. -/
theorem State.coldWork_alertDue (s : State) (T U : ToteNo) :
    (s.coldWork T).alertDue U = (U != T && s.alertDue U) := by
  rw [State.alertDue_eq, s.coldWork_watched, s.coldWork_conf,
    (s.coldWork_frame T).clock_eq (by simp), s.alertDue_eq U]
  refine State.any_find_markIn (fun q h => ?_) U
  have tote : q.tote = T := by simpa using List.find?_some h
  have due : s.alertDue q.tote = alertsNow s.conf s.clock q := by
    rw [s.alertDue_eq, tote, h, Option.any_some]
  rw [State.coldMark, due]
  exact alertsNow_marked _ _ _ _

theorem State.coldWork_breachDue (s : State) (T U : ToteNo) :
    (s.coldWork T).breachDue U = (U != T && s.breachDue U) := by
  rw [State.breachDue_eq, s.coldWork_watched, s.coldWork_conf,
    (s.coldWork_frame T).clock_eq (by simp), s.breachDue_eq U]
  refine State.any_find_markIn (fun q h => ?_) U
  have tote : q.tote = T := by simpa using List.find?_some h
  have due : s.breachDue q.tote = breachesNow s.conf s.clock q := by
    rw [s.breachDue_eq, tote, h, Option.any_some]
  rw [State.coldMark, due]
  exact breachesNow_marked _ _ _ _

theorem State.breachIn_cons (s : State) (T : ToteNo) (Ts : List ToteNo) (U : ToteNo) :
    (s.breachIn [T] U || (s.coldWork T).breachIn Ts U) = s.breachIn (T :: Ts) U := by
  unfold State.breachIn
  rw [s.coldWork_breachDue]
  by_cases e : U = T
  · simp [e]
  · simp [e, bne_iff_ne.mpr e]

theorem State.markIn_cons (s : State) (T : ToteNo) (Ts : List ToteNo) (q : LaneRec) :
    (s.coldWork T).markIn Ts (s.markIn [T] q) = s.markIn (T :: Ts) q := by
  by_cases e : q.tote = T
  · subst e
    rw [State.markIn_of_mem (s := s) (Ts := [q.tote]) (by simp),
      State.markIn_of_mem (s := s) (Ts := q.tote :: Ts) (by simp)]
    have done : (s.coldWork q.tote).coldMark (s.coldMark q) = s.coldMark q := by
      have tote : (s.coldMark q).tote = q.tote := rfl
      rw [State.coldMark, tote, s.coldWork_alertDue, s.coldWork_breachDue]
      simp only [bne_self_eq_false, Bool.false_and, Bool.or_false]
      rfl
    unfold State.markIn
    split
    · exact done
    · rfl
  · rw [State.markIn_of_not_mem (s := s) (Ts := [T]) (by simpa using e)]
    unfold State.markIn State.coldMark
    rw [s.coldWork_alertDue, s.coldWork_breachDue]
    simp [e, bne_iff_ne.mpr e]

theorem State.coldWork_orders (s : State) (T : ToteNo) : SameOrders s.puts (s.coldWork T).puts := by
  have alert := (s.coldAlertWork_frame T).puts_eq (by simp)
  cases h : s.breachDue T with
  | true => rw [State.coldWork_of_due h, ← alert]; exact State.breach_orders _ _
  | false => rw [State.coldWork_of_not_due h, alert]; exact .refl _

/-- A due breach requests DROP of a wanted tote, and nothing else is requested (R29). -/
theorem State.coldWork_requests (s : State) (T : ToteNo) :
    Requests (fun k => ∃ w ∈ s.demand.wants, k = .wantDrop w.tote ∧ w.tote = T ∧
      s.breachDue w.tote = true) s (s.coldWork T) := by
  have alert := s.coldAlertWork_frame T
  cases h : s.breachDue T with
  | true =>
    rw [State.coldWork_of_due h]
    refine (alert.requests (by simp)).trans ((State.breach_requests _ T).1.mono ?_)
    rintro k ⟨e, w, hw, hT⟩
    rw [alert.demand_eq (by simp)] at hw
    exact ⟨w, hw, by rw [e, hT], hT, by rwa [hT]⟩
  | false =>
    rw [State.coldWork_of_not_due h]
    exact alert.requests (by simp)

theorem State.coldWork_drop {s : State} {T : ToteNo} {L : List TxKey} (h : s.breachDue T = true)
    (htx : s.bus.tx = .on) (hw : ∃ w ∈ s.demand.wants, w.tote = T) (hL : .wantDrop T ∈ L)
    (hr : RoomFor L s) :
    { sender := s.bus.ownStation.getD 0, tote := T, body := .drop } ∈ (s.coldWork T).bus.queue := by
  have alert := s.coldAlertWork_frame T
  have bus := alert.bus_eq (by simp)
  have := (State.breach_requests (s.coldAlertWork T) T).2 L (by rwa [bus])
    (by rwa [alert.demand_eq (by simp)]) hL (by unfold RoomFor at *; rwa [bus])
  rwa [bus, ← State.coldWork_of_due h] at this

/-- The working of T raises COLD_ALERT and COLD_BREACH of T where they are due (R121). -/
theorem State.coldWork_raised (s : State) (T : ToteNo) :
    RaisedFor .coldAlert (if s.alertDue T = true then [T] else []) s (s.coldWork T) ∧
    RaisedFor .coldBreach (if s.breachDue T = true then [T] else []) s (s.coldWork T) ∧
    RaisesOnly [.coldAlert, .coldBreach, .frameAbandoned, .orderReady] s (s.coldWork T) := by
  obtain ⟨alert, alertOnly⟩ := s.coldAlertWork_raised T
  have keptBreach : RaisedFor .coldBreach [] s (s.coldAlertWork T) :=
    (alertOnly .coldBreach).1 (by simp)
  cases h : s.breachDue T with
  | true =>
    obtain ⟨breach, breachOnly⟩ := (s.coldAlertWork T).breach_raised T
    rw [State.coldWork_of_due h]
    have keptAlert : RaisedFor .coldAlert [] (s.coldAlertWork T) ((s.coldAlertWork T).breach T) :=
      (breachOnly .coldAlert).1 (by simp)
    refine ⟨?_, keptBreach.append breach,
      (alertOnly.mono (by simp)).trans (breachOnly.mono (by simp))⟩
    have := alert.append keptAlert
    rwa [List.append_nil] at this
  | false =>
    rw [State.coldWork_of_not_due h]
    exact ⟨alert, keptBreach, alertOnly.mono (by simp)⟩

/-- The lights go off with the ACTIVE line of a tote whose breach is due, and stay otherwise (R141). -/
theorem State.coldWork_picker (s : State) (T : ToteNo) :
    (s.breachDue T = true → (∃ l ∈ s.demand.lines, l.tote = T ∧ l.state = .active) →
      (s.coldWork T).picker.active = none ∧ (s.coldWork T).picker.toteLight = false ∧
      (s.coldWork T).picker.display = none ∧ (s.coldWork T).picker.putLight = none) ∧
    ((s.breachDue T = true → ∀ l ∈ s.demand.lines, l.tote = T → l.state ≠ .active) →
      (s.coldWork T).picker = s.picker) := by
  have alert := s.coldAlertWork_frame T
  have lights := (s.coldAlertWork T).holdLines_picker T
  rw [alert.demand_eq (by simp), alert.picker_eq (by simp), ← State.breach_picker_eq] at lights
  cases h : s.breachDue T with
  | true =>
    rw [State.coldWork_of_due h]
    exact ⟨fun _ => lights.1, fun hn => lights.2 (hn rfl)⟩
  | false =>
    rw [State.coldWork_of_not_due h]
    exact ⟨nofun, fun _ => alert.picker_eq (by simp)⟩

/-! ### A list of totes -/

/-- The Cold Monitor's working of these totes in turn. -/
def State.coldWorks (s : State) (Ts : List ToteNo) : State := Ts.foldl State.coldWork s

theorem State.coldTick_eq (s : State) : s.coldTick = s.coldWorks (laneTotes s.lane) := rfl

@[simp] theorem State.coldWorks_cons (s : State) (T : ToteNo) (Ts : List ToteNo) :
    s.coldWorks (T :: Ts) = (s.coldWork T).coldWorks Ts := rfl

theorem State.coldWorks_frame (s : State) (Ts : List ToteNo) :
    SameExcept [.demand, .bus, .notices, .picker, .lane, .puts] s (s.coldWorks Ts) :=
  SameExcept.foldl State.coldWork_frame _ _

theorem State.coldWorks_demand (s : State) (Ts : List ToteNo) :
    (s.coldWorks Ts).demand =
      { lines := s.demand.lines.map (heldIf (s.breachIn Ts))
        wants := s.demand.wants.filter fun w => !s.breachIn Ts w.tote } := by
  induction Ts generalizing s with
  | nil =>
    have same : heldIf (s.breachIn []) = id :=
      funext fun l => heldIf_of_not (by simp [State.breachIn])
    rw [same]
    simp [State.breachIn, State.coldWorks]
  | cons T Ts ih =>
    have hit : (fun U => s.breachIn [T] U || (s.coldWork T).breachIn Ts U) = s.breachIn (T :: Ts) :=
      funext (s.breachIn_cons T Ts)
    rw [State.coldWorks_cons, ih, s.coldWork_demand, List.map_map, List.filter_filter, ← hit]
    congr 1
    · exact List.map_congr_left fun l _ => heldIf_heldIf _ _ l
    · exact List.filter_congr fun w _ => by rw [Bool.not_or, Bool.and_comm]

theorem State.coldWorks_watched (s : State) (Ts : List ToteNo) :
    (s.coldWorks Ts).lane.watched = s.lane.watched.map (s.markIn Ts) := by
  induction Ts generalizing s with
  | nil =>
    have same : s.markIn [] = id := funext fun q => State.markIn_of_not_mem (by simp)
    rw [same, List.map_id]
    rfl
  | cons T Ts ih =>
    rw [State.coldWorks_cons, ih, s.coldWork_watched, List.map_map]
    exact List.map_congr_left fun q _ => s.markIn_cons T Ts q

/-- Where no presented tote is breached the working only sets marks. -/
theorem State.coldWorks_lane_stays {s : State} {Ts : List ToteNo}
    (h : ∀ T ∈ Ts, ¬ s.coldReleases T) :
    (s.coldWorks Ts).lane = s.lane.mapRecs (s.markIn Ts) := by
  induction Ts generalizing s with
  | nil => exact (Lane.mapRecs_id (fun q => State.markIn_of_not_mem (by simp)) _).symm
  | cons T Ts ih =>
    have lane := (s.coldWork_lane T).2 (h T (.head _))
    have rest : ∀ U ∈ Ts, ¬ (s.coldWork T).coldReleases U := by
      rintro U hU ⟨due, face, q, hq, e⟩
      rw [s.coldWork_breachDue, Bool.and_eq_true] at due
      rw [lane] at face hq
      obtain ⟨p, hp, rfl⟩ := Option.map_eq_some_iff.mp hq
      exact h U (.tail _ hU) ⟨due.2, face, p, hp, by simpa using e⟩
    rw [State.coldWorks_cons, ih rest, lane, Lane.mapRecs_mapRecs]
    congr 1
    exact funext fun q => s.markIn_cons T Ts q

theorem State.coldWorks_orders (s : State) (Ts : List ToteNo) :
    SameOrders s.puts (s.coldWorks Ts).puts := by
  induction Ts generalizing s with
  | nil => exact .refl _
  | cons T Ts ih => exact (s.coldWork_orders T).trans (ih _)

/-- The working of these totes requests DROP of the wanted ones among them whose breach is due. -/
theorem State.coldWorks_requests (s : State) (Ts : List ToteNo) :
    Requests (fun k => ∃ w ∈ s.demand.wants, k = .wantDrop w.tote ∧ s.breachIn Ts w.tote = true)
      s (s.coldWorks Ts) := by
  induction Ts generalizing s with
  | nil => exact .refl _ _
  | cons T Ts ih =>
    refine ((s.coldWork_requests T).mono ?_).trans ((ih _).mono ?_)
    · rintro k ⟨w, hw, e, hT, due⟩
      exact ⟨w, hw, e, by simp [State.breachIn, hT, hT ▸ due]⟩
    · rintro k ⟨w, hw, e, due⟩
      rw [s.coldWork_demand, List.mem_filter] at hw
      exact ⟨w, hw.1, e, by rw [← s.breachIn_cons, due, Bool.or_true]⟩

/-- The DROP of a wanted tote whose breach is due is queued, where the queue has room. -/
theorem State.coldWorks_drop {s : State} {T : ToteNo} {Ts : List ToteNo} {L : List TxKey}
    (hT : T ∈ Ts) (h : s.breachDue T = true) (htx : s.bus.tx = .on)
    (hw : ∃ w ∈ s.demand.wants, w.tote = T) (hL : ∀ w ∈ s.demand.wants, .wantDrop w.tote ∈ L)
    (hr : RoomFor L s) :
    { sender := s.bus.ownStation.getD 0, tote := T, body := .drop } ∈ (s.coldWorks Ts).bus.queue := by
  induction Ts generalizing s with
  | nil => cases hT
  | cons U Ts ih =>
    have step := s.coldWork_requests U
    have wants : (s.coldWork U).demand.wants = _ := congrArg Demand.wants (s.coldWork_demand U)
    have still : ∀ w ∈ (s.coldWork U).demand.wants, .wantDrop w.tote ∈ L := fun w hm => by
      rw [wants] at hm
      exact hL w (List.mem_of_mem_filter hm)
    have room : RoomFor L (s.coldWork U) :=
      step.room L (by rintro k ⟨w, hm, e, -⟩; exact e ▸ hL w hm) hr
    by_cases e : T = U
    · subst e
      have queued := State.coldWork_drop h htx hw (by obtain ⟨w, hm, e⟩ := hw; exact e ▸ hL w hm) hr
      have later := (s.coldWork T).coldWorks_requests Ts
      refine later.kept L (by rintro k ⟨w, hm, e, -⟩; exact e ▸ still w hm) room _ queued ?_
      rintro ⟨w, hm, key, due⟩
      have same : w.tote = T := (TxKey.wantDrop.inj key).symm
      rw [State.breachIn, s.coldWork_breachDue, same] at due
      simp at due
    · have tote : T ∈ Ts := by simpa [e] using hT
      have due : (s.coldWork U).breachDue T = true := by
        rw [s.coldWork_breachDue, h]
        simpa using e
      have wanted : ∃ w ∈ (s.coldWork U).demand.wants, w.tote = T := by
        obtain ⟨w, hm, hwT⟩ := hw
        refine ⟨w, ?_, hwT⟩
        rw [wants]
        exact List.mem_filter.mpr ⟨hm, by simp [State.breachIn, hwT, e]⟩
      have := ih tote due (by rw [step.tx, htx]) wanted still room
      rwa [step.ownStation] at this

theorem State.coldWorks_raisesOnly (s : State) (Ts : List ToteNo) :
    RaisesOnly [.coldAlert, .coldBreach, .frameAbandoned, .orderReady] s (s.coldWorks Ts) :=
  RaisesOnly.foldl (fun s T => (s.coldWork_raised T).2.2) _ _

/-- The totes of a list that are due after the working of T are due before it and other than T. -/
theorem filter_due_cons {T : ToteNo} {Ts : List ToteNo} {due after : ToteNo → Bool}
    (hn : ((T :: Ts).filter (· != 0)).Nodup) (h0 : due 0 = false)
    (ha : ∀ U, after U = (U != T && due U)) :
    (if due T = true then [T] else []) ++ Ts.filter after = (T :: Ts).filter due := by
  have rest : Ts.filter after = Ts.filter due := by
    refine List.filter_congr fun U hU => ?_
    rw [ha]
    by_cases e : U = T
    · subst e
      by_cases z : U = 0
      · rw [z, h0, Bool.and_false]
      · simp only [List.filter_cons, bne_iff_ne, ne_eq, z, not_false_eq_true, if_true,
          List.nodup_cons, List.mem_filter, hU, true_and, not_true] at hn
        exact absurd hn.1 (by simp)
    · rw [bne_iff_ne.mpr e, Bool.true_and]
  rw [rest, List.filter_cons]
  cases due T <;> rfl

/-- COLD_ALERT and COLD_BREACH are raised for the totes due, in the order of the working (R121). -/
theorem State.coldWorks_raised {s : State} {Ts : List ToteNo} (hn : (Ts.filter (· != 0)).Nodup) :
    RaisedFor .coldAlert (Ts.filter s.alertDue) s (s.coldWorks Ts) ∧
    RaisedFor .coldBreach (Ts.filter s.breachDue) s (s.coldWorks Ts) := by
  induction Ts generalizing s with
  | nil => exact ⟨rfl, rfl⟩
  | cons T Ts ih =>
    have rest : (Ts.filter (· != 0)).Nodup :=
      hn.sublist ((List.sublist_cons_self T Ts).filter _)
    obtain ⟨alert, breach, -⟩ := s.coldWork_raised T
    obtain ⟨alerts, breaches⟩ := ih (s := s.coldWork T) rest
    rw [← filter_due_cons hn s.alertDue_zero (s.coldWork_alertDue T),
      ← filter_due_cons hn s.breachDue_zero (s.coldWork_breachDue T)]
    exact ⟨alert.append alerts, breach.append breaches⟩

/-- Without an ACTIVE line of a tote whose breach is due the lights stay. -/
theorem State.coldWorks_picker_kept {s : State} {Ts : List ToteNo}
    (h : ∀ l ∈ s.demand.lines, l.state = .active → s.breachIn Ts l.tote = false) :
    (s.coldWorks Ts).picker = s.picker := by
  induction Ts generalizing s with
  | nil => rfl
  | cons T Ts ih =>
    have head : (s.coldWork T).picker = s.picker := by
      refine (s.coldWork_picker T).2 fun due l hl hT ha => ?_
      have := h l hl ha
      simp [State.breachIn, hT, due] at this
    rw [State.coldWorks_cons, ih, head]
    intro m hm ha
    rw [s.coldWork_demand] at hm
    obtain ⟨l, hl, rfl⟩ := List.mem_map.mp hm
    rw [heldIf_tote]
    have active : l.state = .active := by
      cases hB : s.breachIn [T] l.tote with
      | true =>
        have := heldIf_not_breachable (B := s.breachIn [T]) hB
        simp [ha, LineState.breachable] at this
      | false => rwa [heldIf_of_not hB] at ha
    have := h l hl active
    rw [← s.breachIn_cons, Bool.or_eq_false_iff] at this
    exact this.2

/-- The picker outputs are off (R131). -/
def Picker.isDark (p : Picker) : Prop :=
  p.active = none ∧ p.toteLight = false ∧ p.display = none ∧ p.putLight = none

/-- Outputs that are off stay off. -/
theorem State.coldWork_dark {s : State} (h : s.picker.isDark) (T : ToteNo) :
    (s.coldWork T).picker.isDark := by
  obtain ⟨off, stays⟩ := s.coldWork_picker T
  by_cases hx : s.breachDue T = true ∧ ∃ l ∈ s.demand.lines, l.tote = T ∧ l.state = .active
  · exact off hx.1 hx.2
  · rw [stays fun due l hl hT ha => hx ⟨due, l, hl, hT, ha⟩]
    exact h

/-- A presented tote whose breach is due goes to RELEASING or LEAVING with the outputs off, and stays so
to the end of the working (R122). -/
theorem State.coldWorks_release {s : State} {T : ToteNo} {Ts : List ToteNo} (hT : T ∈ Ts)
    (h : s.coldReleases T) (ha : ∃ l ∈ s.demand.lines, l.tote = T ∧ l.state = .active) :
    ((s.coldWorks Ts).lane.face = .releasing ∨ (s.coldWorks Ts).lane.face = .leaving) ∧
      (s.coldWorks Ts).picker.isDark := by
  have gone (Us : List ToteNo) : ∀ u : State, (u.lane.face = .releasing ∨ u.lane.face = .leaving) →
      u.picker.isDark → ((u.coldWorks Us).lane.face = .releasing ∨
        (u.coldWorks Us).lane.face = .leaving) ∧ (u.coldWorks Us).picker.isDark := by
    induction Us with
    | nil => exact fun u hf hd => ⟨hf, hd⟩
    | cons U Us ih =>
      intro u hf hd
      have stays : ¬ u.coldReleases U := by
        rintro ⟨-, face, -⟩
        rw [face] at hf
        rcases hf with hf | hf <;> cases hf
      have lane := (u.coldWork_lane U).2 stays
      exact ih _ (by rw [lane]; exact hf) (State.coldWork_dark hd U)
  induction Ts generalizing s with
  | nil => cases hT
  | cons U Ts ih =>
    by_cases e : T = U
    · subst e
      refine gone Ts _ ?_ ((s.coldWork_picker T).1 h.1 ha)
      rw [(s.coldWork_lane T).1 h]
      exact Lane.released_face _
    · obtain ⟨due, face, q, hq, tote⟩ := h
      obtain ⟨l, hl, lineTote, active⟩ := ha
      have stays : ¬ s.coldReleases U := by
        rintro ⟨-, -, p, hp, hU⟩
        rw [Option.mem_def] at hp hq
        rw [hq] at hp
        cases hp
        exact e (tote.symm.trans hU)
      have lane := (s.coldWork_lane U).2 stays
      refine ih (s := s.coldWork U) (by simpa [e] using hT) ⟨?_, ?_, s.markIn [U] q, ?_, ?_⟩
        ⟨l, ?_, lineTote, active⟩
      · rw [s.coldWork_breachDue, due]
        simpa using e
      · rw [lane]
        exact face
      · rw [lane]
        exact Option.mem_map_of_mem _ hq
      · rw [State.markIn_tote, tote]
      · rw [s.coldWork_demand]
        exact List.mem_map.mpr ⟨l, hl, heldIf_of_not (by simp [State.breachIn, lineTote, e])⟩

end Sys2Proof.Machine
end

section
/-! PROOFS. The urgent flags with the preemption check (R48, R115, R116), and the announcement checks (R40
to R42). -/

namespace Sys2Proof.Machine

/-! ### The park (R116) -/

/-- What a preemption check leaves: want records, the records' watched part, and every line but an ACTIVE
one, which may become SUSPENDED. -/
structure Parks (s t : State) : Prop where
  wants : t.demand.wants = s.demand.wants
  facts : lineFacts t.demand.lines = lineFacts s.demand.lines
  watched : t.lane.watched = s.lane.watched
  lines : (s.demand.lines.map Line.tag).Nodup → ∃ f : Line → Line,
    t.demand.lines = s.demand.lines.map f ∧
    ∀ l ∈ s.demand.lines, f l = l ∨ l.state = .active ∧ f l = { l with state := .suspended }

theorem Parks.of_eq {s t : State} (hd : t.demand = s.demand)
    (hw : t.lane.watched = s.lane.watched) : Parks s t where
  wants := by rw [hd]
  facts := by rw [hd]
  watched := hw
  lines _ := ⟨id, by rw [hd, List.map_id], fun _ _ => .inl rfl⟩

theorem Parks.refl (s : State) : Parks s s := .of_eq rfl rfl

/-- A line that is not ACTIVE stands as it was. -/
theorem Parks.mem_of_not_active {s t : State} (h : Parks s t)
    (hn : (s.demand.lines.map Line.tag).Nodup) {l : Line} (hl : l ∈ s.demand.lines)
    (ha : l.state ≠ .active) : l ∈ t.demand.lines := by
  obtain ⟨f, e, hf⟩ := h.lines hn
  rw [e]
  exact List.mem_map.mpr ⟨l, hl, (hf l hl).resolve_right fun x => ha x.1⟩

theorem activeLine_mem {ls : List Line} {l : Line} (h : activeLine ls = some l) :
    l ∈ ls ∧ l.state = .active :=
  ⟨List.mem_of_find?_eq_some h, by simpa using List.find?_some h⟩

/-- The only ACTIVE line is the one found. -/
theorem activeLine_of_unique {ls : List Line} {l : Line} (hl : l ∈ ls) (ha : l.state = .active)
    (one : ∀ m ∈ ls, m.state = .active → m = l) : activeLine ls = some l := by
  cases h : activeLine ls with
  | none =>
    have := List.find?_eq_none.mp h l hl
    simp [ha] at this
  | some m =>
    obtain ⟨hm, hs⟩ := activeLine_mem h
    rw [one m hm hs]

theorem State.parkFace_parks {s : State} (hp : s.lane.parkRec = none) : Parks s s.parkFace := by
  cases hq : s.lane.faceRec with
  | none =>
    have : s.parkFace = s := by simp [State.parkFace, hq]
    rw [this]
    exact .refl s
  | some q =>
    cases ha : activeLine s.demand.lines with
    | none =>
      rw [State.parkFace_of_no_active hq ha]
      exact .of_eq rfl (by simp [Lane.watched, LaneRec.watched, hq, hp])
    | some a =>
      have eq : s.parkFace.demand = (s.setLineState a.tag .suspended).demand ∧
          s.parkFace.lane = { s.lane with
            faceRec := none
            parkRec := some { q with stage := .park, savedTag := some a.tag }
            face := .parking
            waits := { s.lane.waits with park := some 0 } } := by
        constructor <;> simp only [State.parkFace, hq, ha] <;> rfl
      obtain ⟨hd, hl⟩ := eq
      obtain ⟨ham, has⟩ := activeLine_mem ha
      refine ⟨by rw [hd]; rfl, by rw [hd, State.setLineState_facts], ?_,
        fun hn => ⟨_, by rw [hd]; rfl, fun l hm => ?_⟩⟩
      · rw [hl]
        simp [Lane.watched, LaneRec.watched, hq, hp]
      · by_cases e : l.tag = a.tag
        · obtain rfl := eq_of_tag_eq hn hm ham e
          exact .inr ⟨has, if_pos rfl⟩
        · exact .inl (if_neg e)

theorem State.preemptCheck_parks (s : State) : Parks s s.preemptCheck := by
  unfold State.preemptCheck
  split
  · split
    · next h => exact s.parkFace_parks h
    · next q rest _ hq =>
      split
      · exact .refl s
      · refine .of_eq rfl ?_
        rw [(State.raise_frame _ _ _).lane_eq (by simp)]
        simp [Lane.watched, LaneRec.watched, hq]
    · exact .refl s
  · exact .refl s

theorem State.headTurnedUrgent_parks (s : State) : Parks s s.headTurnedUrgent := by
  unfold State.headTurnedUrgent
  split
  · exact s.preemptCheck_parks
  · exact .refl s

theorem State.headTurnedUrgent_of_not_presenting {s : State} (h : s.lane.face ≠ .presenting) :
    s.headTurnedUrgent = s := by
  simp [State.headTurnedUrgent, h]

/-- A line that has taken a put keeps its tote at the face (R115). -/
theorem State.headTurnedUrgent_of_puts {s : State} {l : Line}
    (ha : activeLine s.demand.lines = some l) (hp : l.puts ≠ 0) : s.headTurnedUrgent = s := by
  simp [State.headTurnedUrgent, ha, hp]

/-- The urgent head parks a presented tote that is not urgent and has taken no put (R115). -/
theorem State.headTurnedUrgent_of_no_put {s : State} {q : LaneRec} {l : Line}
    (hmode : s.mode = .active) (hjam : s.lane.jam = none) (hhead : s.lane.headUrgent = true)
    (hface : s.lane.face = .presenting) (hq : s.lane.faceRec = some q) (hu : q.urgent = false)
    (hpark : s.lane.parkRec = none) (ha : activeLine s.demand.lines = some l) (hp : l.puts = 0) :
    s.headTurnedUrgent = s.parkFace := by
  have wanted : s.preemptWanted = true := by
    simp [State.preemptWanted, hmode, hjam, hhead, hface, hq, hu]
  simp [State.headTurnedUrgent, State.preemptCheck, wanted, hface, ha, hp, hpark]

theorem State.parkFace_of_active {s : State} {q : LaneRec} {l : Line}
    (hq : s.lane.faceRec = some q) (ha : activeLine s.demand.lines = some l) :
    s.parkFace.lane.face = .parking ∧ s.parkFace.lane.faceRec = none ∧
    s.parkFace.lane.parkRec = some { q with stage := .park, savedTag := some l.tag } ∧
    s.parkFace.lane.waits.park = some 0 ∧
    { l with state := .suspended } ∈ s.parkFace.demand.lines ∧ s.parkFace.picker.active = none := by
  have lines : s.parkFace.demand = (s.setLineState l.tag .suspended).demand := by
    simp only [State.parkFace, hq, ha]
    rfl
  refine ⟨?_, ?_, ?_, ?_, ?_, ?_⟩
  · simp [State.parkFace, hq]
  · simp [State.parkFace, hq]
  · simp [State.parkFace, hq, ha]
  · simp [State.parkFace, hq]
  · rw [lines]
    exact List.mem_map.mpr ⟨l, (activeLine_mem ha).1, if_pos rfl⟩
  · simp [State.parkFace, hq, ha, State.leaveActive]

/-! ### The urgent flags (R48) -/

/-- A record with the urgent flag that it has now. -/
def State.urgentMark (s : State) (q : LaneRec) : LaneRec := { q with urgent := s.urgentNow q }

/-- Every urgent flag re-evaluated, before any check. -/
def State.flagged (s : State) : State := s.updRecs s.urgentMark

theorem State.flagged_frame (s : State) : SameExcept [.lane] s s.flagged := s.updRecs_frame _

theorem State.flagged_lane (s : State) : s.flagged.lane = s.lane.mapRecs s.urgentMark := rfl

/-- With every flag re-evaluated, a head that turned urgent makes its check (log 31). -/
theorem State.reurgent_all (s : State) :
    s.reurgent (fun _ => true) =
      if s.flagged.lane.headUrgent && !s.lane.headUrgent then s.flagged.headTurnedUrgent
      else s.flagged := by
  unfold State.reurgent State.flagged State.urgentMark
  simp only [if_true]

theorem State.reurgent_all_parks (s : State) : Parks s.flagged (s.reurgent fun _ => true) := by
  rw [State.reurgent_all]
  split
  · exact s.flagged.headTurnedUrgent_parks
  · exact .refl _

theorem State.reurgent_all_of_not_presenting {s : State} (h : s.lane.face ≠ .presenting) :
    s.reurgent (fun _ => true) = s.flagged := by
  rw [State.reurgent_all, State.headTurnedUrgent_of_not_presenting (by exact h), ite_self]

/-! ### Totes in load order (R42) -/

theorem toteOrder_fold (ls : List Line) (acc : List ToteNo) (h : acc.Nodup) :
    (ls.foldl (fun acc l => if acc.contains l.tote then acc else acc ++ [l.tote]) acc).Nodup ∧
    ∀ T, T ∈ ls.foldl (fun acc l => if acc.contains l.tote then acc else acc ++ [l.tote]) acc ↔
      T ∈ acc ∨ ∃ l ∈ ls, l.tote = T := by
  induction ls generalizing acc with
  | nil => exact ⟨h, by simp⟩
  | cons l ls ih =>
    have head (T : ToteNo) : (∃ m ∈ l :: ls, m.tote = T) ↔ l.tote = T ∨ ∃ m ∈ ls, m.tote = T := by
      simp
    rw [List.foldl_cons]
    by_cases hl : l.tote ∈ acc
    · rw [if_pos (by simpa using hl)]
      refine ⟨(ih acc h).1, fun T => ((ih acc h).2 T).trans ?_⟩
      rw [head]
      exact ⟨Or.imp_right .inr,
        fun x => x.elim .inl fun y => y.imp_left fun e : l.tote = T => e ▸ hl⟩
    · rw [if_neg (by simpa using hl)]
      have nodup : (acc ++ [l.tote]).Nodup := List.concat_eq_append ▸ h.concat hl
      refine ⟨(ih _ nodup).1, fun T => ((ih _ nodup).2 T).trans ?_⟩
      rw [head, List.mem_append, List.mem_singleton, or_assoc, eq_comm (a := T)]

theorem toteOrder_nodup (ls : List Line) : (toteOrder ls).Nodup :=
  (toteOrder_fold ls [] List.nodup_nil).1

theorem mem_toteOrder {ls : List Line} {T : ToteNo} : T ∈ toteOrder ls ↔ ∃ l ∈ ls, l.tote = T := by
  refine ((toteOrder_fold ls [] List.nodup_nil).2 T).trans ?_
  simp

/-! ### One announcement check (R40) -/

/-- The weight that the check of T's want record announces, where it announces one. -/
def State.wantDue (s : State) (T : ToteNo) : Option Nat :=
  (s.wantOf T).bind fun w => (s.weightOf T).bind fun W =>
    if 128 ≤ max W w.weight - min W w.weight ∨ s.refreshDue w = true then some W else none

theorem State.checkWant_eq (s : State) (T : ToteNo) :
    s.checkWant T = (s.wantDue T).elim s (s.announce T) := by
  unfold State.checkWant State.wantDue
  cases s.wantOf T with
  | none => rfl
  | some w =>
    cases s.weightOf T with
    | none => rfl
    | some W =>
      dsimp only [Option.bind_some]
      split <;> rfl

/-- The want record as an announcement of T at weight W leaves it. -/
def State.announced (s : State) (T : ToteNo) (W : Nat) (w : WantRec) : WantRec :=
  if w.tote = T then { w with weight := W, time := s.clock } else w

theorem State.announced_tote (s : State) (T : ToteNo) (W : Nat) (w : WantRec) :
    (s.announced T W w).tote = w.tote := by
  unfold State.announced
  split <;> rfl

theorem State.announce_demand (s : State) (T : ToteNo) (W : Nat) :
    (s.announce T W).demand =
      { s.demand with wants := s.demand.wants.map (s.announced T W) } := by
  unfold State.announce
  rw [(State.request_frame _ _ _).demand_eq (by simp)]
  rfl

theorem State.checkWant_lines (s : State) (T : ToteNo) :
    (s.checkWant T).demand.lines = s.demand.lines := by
  rw [State.checkWant_eq]
  cases s.wantDue T with
  | none => rfl
  | some W => rw [Option.elim_some, State.announce_demand]

theorem State.checkWant_totes (s : State) (T : ToteNo) :
    (s.checkWant T).demand.wants.map WantRec.tote = s.demand.wants.map WantRec.tote := by
  rw [State.checkWant_eq]
  cases s.wantDue T with
  | none => rfl
  | some W =>
    rw [Option.elim_some, State.announce_demand, List.map_map]
    exact List.map_congr_left fun w _ => s.announced_tote T W w

/-- The want records of the other totes are left as they are. -/
theorem State.checkWant_mem_other {s : State} {T : ToteNo} {w : WantRec} (h : w.tote ≠ T)
    (hw : w ∈ s.demand.wants) : w ∈ (s.checkWant T).demand.wants := by
  rw [State.checkWant_eq]
  cases s.wantDue T with
  | none => exact hw
  | some W =>
    rw [Option.elim_some, State.announce_demand]
    exact List.mem_map.mpr ⟨w, hw, if_neg h⟩

theorem State.checkWant_wantOf_other {s : State} {T U : ToteNo} (h : U ≠ T) :
    (s.checkWant T).wantOf U = s.wantOf U := by
  rw [State.checkWant_eq]
  cases s.wantDue T with
  | none => rfl
  | some W =>
    rw [Option.elim_some, State.wantOf, State.announce_demand, List.find?_map, State.wantOf]
    have tote : (fun w : WantRec => w.tote == U) ∘ s.announced T W = fun w => w.tote == U :=
      funext fun w => by rw [Function.comp_apply, s.announced_tote]
    rw [tote]
    cases hw : s.demand.wants.find? fun w => w.tote == U with
    | none => rfl
    | some w =>
      have : w.tote = U := by simpa using List.find?_some hw
      rw [Option.map_some, State.announced, if_neg (this ▸ h)]

theorem State.checkWant_weightOf (s : State) (T U : ToteNo) :
    (s.checkWant T).weightOf U = s.weightOf U := by
  have frame := s.checkWant_frame T
  unfold State.weightOf
  rw [s.checkWant_lines, frame.puts_eq (by simp), frame.clock_eq (by simp)]

theorem State.checkWant_wantDue_other {s : State} {T U : ToteNo} (h : U ≠ T) :
    (s.checkWant T).wantDue U = s.wantDue U := by
  have frame := s.checkWant_frame T
  unfold State.wantDue State.refreshDue State.conf
  rw [State.checkWant_wantOf_other h, State.checkWant_weightOf, frame.clock_eq (by simp),
    frame.cfg_eq (by simp)]

theorem State.checkWant_requests (s : State) (T : ToteNo) :
    Requests (fun k => k = .wantDrop T ∧ s.wantDue T ≠ none) s (s.checkWant T) := by
  rw [State.checkWant_eq]
  cases h : s.wantDue T with
  | none => exact .refl _ _
  | some W =>
    exact ((s.withWants_frame _).requests (by simp)).trans
      ((State.request_requests _ T (.want (BitVec.ofNat 16 W))).mono fun k e => ⟨e, by simp⟩)

/-! ### Several announcement checks (R42) -/

/-- The announcement checks of these totes in turn. -/
def State.checkAll (s : State) (Ts : List ToteNo) : State := Ts.foldl State.checkWant s

theorem State.checkWants_all (s : State) :
    s.checkWants (fun _ => true) = s.checkAll (toteOrder s.demand.lines) := by
  rw [State.checkWants, List.filter_true]
  rfl

theorem State.checkAll_frame (s : State) (Ts : List ToteNo) :
    SameExcept [.demand, .bus, .notices] s (s.checkAll Ts) :=
  SameExcept.foldl State.checkWant_frame _ _

theorem State.checkAll_lines (s : State) (Ts : List ToteNo) :
    (s.checkAll Ts).demand.lines = s.demand.lines := by
  induction Ts generalizing s with
  | nil => rfl
  | cons T Ts ih => exact (ih _).trans (s.checkWant_lines T)

theorem State.checkAll_totes (s : State) (Ts : List ToteNo) :
    (s.checkAll Ts).demand.wants.map WantRec.tote = s.demand.wants.map WantRec.tote := by
  induction Ts generalizing s with
  | nil => rfl
  | cons T Ts ih => exact (ih _).trans (s.checkWant_totes T)

theorem State.checkAll_raisesOnly (s : State) (Ts : List ToteNo) :
    RaisesOnly [.frameAbandoned] s (s.checkAll Ts) :=
  RaisesOnly.foldl State.checkWant_raisesOnly _ _

theorem State.checkAll_mem_other {s : State} {Ts : List ToteNo} {w : WantRec} (h : w.tote ∉ Ts)
    (hw : w ∈ s.demand.wants) : w ∈ (s.checkAll Ts).demand.wants := by
  induction Ts generalizing s with
  | nil => exact hw
  | cons T Ts ih =>
    rw [List.mem_cons, not_or] at h
    exact ih h.2 (State.checkWant_mem_other h.1 hw)

theorem State.checkAll_requests {s : State} {Ts : List ToteNo} (hn : Ts.Nodup) :
    Requests (fun k => ∃ T ∈ Ts, k = .wantDrop T ∧ s.wantDue T ≠ none) s (s.checkAll Ts) := by
  induction Ts generalizing s with
  | nil => exact .refl _ _
  | cons T Ts ih =>
    obtain ⟨hT, hn⟩ := List.nodup_cons.mp hn
    refine ((s.checkWant_requests T).mono fun k e => ⟨T, .head _, e⟩).trans ((ih hn).mono ?_)
    rintro k ⟨U, hU, e, due⟩
    rw [State.checkWant_wantDue_other (fun x : U = T => hT (x ▸ hU))] at due
    exact ⟨U, .tail _ hU, e, due⟩

/-- A tote whose weight is not due keeps its want record through the checks. -/
theorem State.checkAll_not_due {s : State} {Ts : List ToteNo} (hn : Ts.Nodup) {w : WantRec}
    (hw : w ∈ s.demand.wants) (due : s.wantDue w.tote = none) :
    w ∈ (s.checkAll Ts).demand.wants := by
  induction Ts generalizing s with
  | nil => exact hw
  | cons T Ts ih =>
    obtain ⟨hT, hn⟩ := List.nodup_cons.mp hn
    by_cases e : w.tote = T
    · have same : s.checkWant T = s := by rw [State.checkWant_eq, ← e, due]; rfl
      exact State.checkAll_mem_other (s := s.checkWant T) (e ▸ hT) (same.symm ▸ hw)
    · exact ih hn (State.checkWant_mem_other e hw) (by rwa [State.checkWant_wantDue_other e])

/-- A tote whose weight is due is announced, where the queue has room for the announcements. -/
theorem State.checkAll_due {s : State} {Ts : List ToteNo} (hn : Ts.Nodup) {w : WantRec} {W : Nat}
    (hT : w.tote ∈ Ts) (hw : w ∈ s.demand.wants) (due : s.wantDue w.tote = some W) :
    { w with weight := W, time := s.clock } ∈ (s.checkAll Ts).demand.wants ∧
    ∀ L, (∀ T ∈ Ts, s.wantDue T ≠ none → .wantDrop T ∈ L) → RoomFor L s → s.bus.tx = .on →
      { sender := s.bus.ownStation.getD 0, tote := w.tote, body := .want (BitVec.ofNat 16 W) } ∈
        (s.checkAll Ts).bus.queue := by
  induction Ts generalizing s with
  | nil => cases hT
  | cons T Ts ih =>
    obtain ⟨fresh, rest⟩ := List.nodup_cons.mp hn
    have other : ∀ U ∈ Ts, (s.checkWant T).wantDue U = s.wantDue U := fun U hU =>
      State.checkWant_wantDue_other fun x => fresh (x ▸ hU)
    have step := s.checkWant_requests T
    by_cases e : w.tote = T
    · subst e
      have announce : s.checkWant w.tote = s.announce w.tote W := by
        rw [State.checkWant_eq, due]
        rfl
      constructor
      · refine State.checkAll_mem_other (s := s.checkWant w.tote) fresh ?_
        rw [announce, State.announce_demand]
        exact List.mem_map.mpr ⟨w, hw, if_pos rfl⟩
      · intro L hL hr htx
        have key : TxKey.wantDrop w.tote ∈ L := hL _ (.head _) (by simp [due])
        have room := step.room L (by rintro k ⟨rfl, -⟩; exact key) hr
        have later := State.checkAll_requests (s := s.checkWant w.tote) (Ts := Ts) rest
        refine later.kept L ?_ room _ ?_ ?_
        · rintro k ⟨U, hU, rfl, h⟩
          exact hL U (.tail _ hU) (other U hU ▸ h)
        · rw [announce]
          exact State.request_queued (s := s.withWants _) htx key hr
        · rintro ⟨U, hU, h, -⟩
          have same : w.tote = U := TxKey.wantDrop.inj h
          exact fresh (same ▸ hU)
    · obtain ⟨announced, queued⟩ := ih (s := s.checkWant T) rest
        (List.mem_of_ne_of_mem e hT) (State.checkWant_mem_other e hw)
        (by rwa [State.checkWant_wantDue_other e])
      rw [(s.checkWant_frame T).clock_eq (by simp)] at announced
      refine ⟨announced, fun L hL hr htx => ?_⟩
      have room := step.room L (by rintro k ⟨rfl, h⟩; exact hL T (.head _) h) hr
      have := queued L (fun U hU h => hL U (.tail _ hU) (other U hU ▸ h)) room (by rwa [step.tx])
      rwa [step.ownStation] at this

end Sys2Proof.Machine
end

section
/-! PROOFS. The one-second tick (R9), stage by stage: the clock and the ages, the Cold Monitor, the urgent
flags, the announcement checks, the refresh and the end of the event. -/

namespace Sys2Proof.Machine

/-! ### The stages of a tick -/

/-- The tick up to the Cold Monitor. -/
def State.tickStart (s : State) : State :=
  (s.advanceClock.ageStations.ageEntries).countMergeWait.stallWork

/-- The tick up to the urgent flags. -/
def State.tickCold (s : State) : State := s.tickStart.coldWorks (laneTotes s.tickStart.lane)

/-- The tick up to the announcement checks. -/
def State.tickUrgent (s : State) : State := s.tickCold.reurgent fun _ => true

/-- The tick up to the refresh. -/
def State.tickChecked (s : State) : State :=
  s.tickUrgent.checkAll (toteOrder s.tickUrgent.demand.lines)

theorem State.configured_iff (s : State) : s.configured = true ↔ s.mode ≠ .unconfigured :=
  bne_iff_ne

theorem State.tick_unconfigured {s : State} (h : s.mode = .unconfigured) :
    s.tick = s.advanceClock := by
  have : ¬ s.advanceClock.configured = true := fun x => (State.configured_iff _).mp x h
  simp [State.tick, this]

theorem State.tick_configured {s : State} (h : s.mode ≠ .unconfigured) :
    s.tick = s.tickChecked.countRefresh.settleLane := by
  have : s.advanceClock.configured = true := (State.configured_iff _).mpr h
  simp only [State.tick, this, if_true, State.tickChecked, State.tickUrgent, State.tickCold,
    State.tickStart, State.checkWants_all, State.coldTick_eq]

/-! ### Frames -/

theorem State.countMergeWait_frame (s : State) : SameExcept [.lane] s s.countMergeWait := by
  unfold State.countMergeWait
  split
  · exact s.withLane_frame _
  · exact .refl _ _

theorem State.stallWork_frame (s : State) : SameExcept [.lane, .notices] s s.stallWork := by
  unfold State.stallWork
  split
  · exact .refl _ _
  · split
    · exact (s.withLane_frame _).step (State.raise_frame _ _ _) (by simp) (by simp)
    · exact .refl _ _

theorem State.refresh_frame (s : State) : SameExcept [.board, .bus, .notices] s s.refresh := by
  unfold State.refresh
  refine SameExcept.step (as := [.board])
    (t := { s with board := { s.board with refreshCount := 0 } }) (by simp [SameExcept])
    ((State.requestState_frame _).step
      (SameExcept.foldl (fun s T => s.request_frame T .hold) _ _) (List.Subset.refl _)
      (List.Subset.refl _)) (by simp) (by simp)

theorem State.refreshWork_frame (s : State) :
    SameExcept [.board, .bus, .notices] s s.refreshWork := by
  unfold State.refreshWork
  split
  · exact s.refresh_frame
  · exact .refl _ _

theorem State.countRefresh_frame (s : State) :
    SameExcept [.board, .bus, .notices] s s.countRefresh := by
  refine SameExcept.step (as := [.board])
    (t := { s with board := { s.board with refreshCount := s.board.refreshCount + 1 } })
    (by simp [SameExcept]) (State.refreshWork_frame _) (by simp) (List.Subset.refl _)

theorem State.advanceClock_frame (s : State) : SameExcept [.clock, .tracker] s s.advanceClock := by
  simp [SameExcept, State.advanceClock]

theorem State.aged_frame (s : State) :
    SameExcept [.clock, .tracker, .board] s (s.advanceClock.ageStations.ageEntries) := by
  simp [SameExcept, State.advanceClock, State.ageStations, State.ageEntries]

theorem State.tickStart_frame (s : State) :
    SameExcept [.clock, .tracker, .board, .lane, .notices] s s.tickStart :=
  (s.aged_frame.trans (State.countMergeWait_frame _)).step (State.stallWork_frame _) (by simp)
    (by simp)

theorem State.tickCold_frame (s : State) :
    SameExcept [.demand, .bus, .notices, .picker, .lane, .puts] s.tickStart s.tickCold :=
  State.coldWorks_frame _ _

theorem State.tickUrgent_frame (s : State) :
    SameExcept [.demand, .picker, .lane, .notices] s.tickCold s.tickUrgent :=
  State.reurgent_frame _ _

theorem State.tickChecked_frame (s : State) :
    SameExcept [.demand, .bus, .notices] s.tickUrgent s.tickChecked :=
  State.checkAll_frame _ _

theorem State.tick_end_frame {s : State} (h : s.mode ≠ .unconfigured) :
    SameExcept [.board, .bus, .notices, .modeCtl, .lane] s.tickChecked s.tick := by
  rw [State.tick_configured h]
  exact (State.countRefresh_frame _).step (State.settleLane_frame _) (by simp) (by simp)

theorem State.tick_work_frame {s : State} (h : s.mode ≠ .unconfigured) :
    SameExcept [.demand, .bus, .notices, .picker, .lane, .puts, .board, .modeCtl]
      s.tickStart s.tick :=
  ((s.tickCold_frame.trans s.tickUrgent_frame).trans s.tickChecked_frame).step
    (State.tick_end_frame h) (by simp) (by simp)

theorem State.tick_frame (s : State) : SameExcept (commandBlocks .oneSecondTick) s s.tick := by
  by_cases h : s.mode = .unconfigured
  · rw [State.tick_unconfigured h]
    exact s.advanceClock_frame.mono (by simp [commandBlocks])
  · exact s.tickStart_frame.step (State.tick_work_frame h) (by simp [commandBlocks, settleBlocks])
      (by simp [commandBlocks, settleBlocks])

theorem State.tickStart_conf (s : State) : s.tickStart.conf = s.conf := by
  rw [State.conf, s.tickStart_frame.cfg_eq (by simp)]
  rfl

theorem State.tickStart_clock (s : State) : s.tickStart.clock = s.clock + 1 := by
  unfold State.tickStart
  rw [(State.stallWork_frame _).clock_eq (by simp), (State.countMergeWait_frame _).clock_eq (by simp)]
  rfl

theorem State.tickStart_tracker (s : State) : s.tickStart.tracker = windowEnd s.tracker := by
  unfold State.tickStart
  rw [(State.stallWork_frame _).tracker_eq (by simp),
    (State.countMergeWait_frame _).tracker_eq (by simp)]
  rfl

theorem State.tickStart_board (s : State) :
    s.tickStart.board =
      { s.board with
        stations := mapVec (ageStation s.conf) s.board.stations
        entries := (s.board.entries.map fun e => { e with age := e.age + 1 }).filter
          (isFresh s.conf) } := by
  unfold State.tickStart
  rw [(State.stallWork_frame _).board_eq (by simp), (State.countMergeWait_frame _).board_eq (by simp)]
  rfl

theorem State.tick_clock (s : State) : s.tick.clock = s.clock + 1 := by
  by_cases h : s.mode = .unconfigured
  · rw [State.tick_unconfigured h]
    rfl
  · rw [(State.tick_work_frame h).clock_eq (by simp), s.tickStart_clock]

theorem State.tick_tracker (s : State) : s.tick.tracker = windowEnd s.tracker := by
  by_cases h : s.mode = .unconfigured
  · rw [State.tick_unconfigured h]
    rfl
  · rw [(State.tick_work_frame h).tracker_eq (by simp), s.tickStart_tracker]

/-! ### The ages and the refresh count (R67, R74, R77) -/

theorem ageStation_eq (r : Record) (q : StationRec) :
    ageStation r q =
      if q.heard = false then q
      else if r.stale ≤ q.age + 1 then { heard := false, able := false, age := r.stale }
      else { q with age := q.age + 1 } := by
  unfold ageStation staleStation
  cases q.heard <;> simp

theorem State.refreshWork_board {s : State} (h : s.mode ≠ .unconfigured) :
    s.refreshWork.board =
      { s.board with
        refreshCount := if s.conf.refreshPeriod ≤ s.board.refreshCount then 0
          else s.board.refreshCount } := by
  have holds (Ts : List ToteNo) (u : State) :
      (Ts.foldl (fun s T => s.request T .hold) u).board = u.board :=
    (SameExcept.foldl (fun s T => s.request_frame T .hold) Ts u).board_eq (by simp)
  unfold State.refreshWork
  rw [s.configured_iff.mpr h, Bool.true_and]
  by_cases due : s.conf.refreshPeriod ≤ s.board.refreshCount
  · rw [if_pos (decide_eq_true due), if_pos due]
    unfold State.refresh
    rw [holds, (State.requestState_frame _).board_eq (by simp)]
  · rw [if_neg fun x => due (of_decide_eq_true x), if_neg due]

theorem State.countRefresh_board {s : State} (h : s.mode ≠ .unconfigured) :
    s.countRefresh.board =
      { s.board with
        refreshCount := if s.conf.refreshPeriod ≤ s.board.refreshCount + 1 then 0
          else s.board.refreshCount + 1 } :=
  State.refreshWork_board
    (s := { s with board := { s.board with refreshCount := s.board.refreshCount + 1 } }) h

theorem State.tick_board {s : State} (h : s.mode ≠ .unconfigured) :
    s.tick.board =
      { stations := mapVec (ageStation s.conf) s.board.stations
        entries := (s.board.entries.map fun e => { e with age := e.age + 1 }).filter
          (isFresh s.conf)
        crowded := s.board.crowded
        refreshCount := if s.conf.refreshPeriod ≤ s.board.refreshCount + 1 then 0
          else s.board.refreshCount + 1 } := by
  have frame := (s.tickCold_frame.trans s.tickUrgent_frame).trans s.tickChecked_frame
  have board := frame.board_eq (by simp)
  have conf : s.tickChecked.conf = s.conf := by
    rw [State.conf, frame.cfg_eq (by simp), s.tickStart_frame.cfg_eq (by simp)]
    rfl
  have mode : s.tickChecked.mode ≠ .unconfigured := by
    rw [State.mode, frame.modeCtl_eq (by simp), s.tickStart_frame.modeCtl_eq (by simp)]
    exact h
  rw [State.tick_configured h, (State.settleLane_frame _).board_eq (by simp),
    State.countRefresh_board mode, conf, board, s.tickStart_board]

/-! ### The merge wait (R118) -/

/-- The merge wait count of a RELEASING record a second on. -/
def State.mergeCount (s : State) (q : LaneRec) : Nat :=
  if s.tracker.windowCount = 0 then q.mergeWait else min s.conf.mergeWait (q.mergeWait + 1)

/-- A RELEASING record with its merge wait counted and its stall mark set where the count reaches
MERGE_WAIT. -/
def State.mergeTimed (s : State) (q : LaneRec) : LaneRec :=
  { q with
    mergeWait := s.mergeCount q
    stallMark := q.stallMark || decide (s.conf.mergeWait ≤ s.mergeCount q) }

theorem Lane.with_own_faceRec {l : Lane} {o : Option LaneRec} (h : l.faceRec = o) :
    { l with faceRec := o } = l := by
  subst h
  rfl

theorem State.tickStart_lane_of_not_releasing {s : State} (h : s.lane.face ≠ .releasing) :
    s.tickStart.lane = s.lane := by
  have count (u : State) (hu : u.lane.face ≠ .releasing) : u.countMergeWait = u := by
    simp [State.countMergeWait, hu]
  have stall (u : State) (hu : u.lane.face ≠ .releasing) : u.stallWork = u := by
    cases hq : u.lane.faceRec <;> simp [State.stallWork, hq, hu]
  unfold State.tickStart
  rw [count _ (by exact h), stall _ (by exact h)]
  rfl

/-- The record of a RELEASING face at the Cold Monitor, its merge wait counted and its stall noticed. -/
theorem State.tickStart_releasing {s : State} {q : LaneRec} (hf : s.lane.face = .releasing)
    (hq : s.lane.faceRec = some q) :
    s.tickStart.lane = { s.lane with faceRec := some (s.mergeTimed q) } ∧
    (q.stallMark = false → s.conf.mergeWait ≤ s.mergeCount q →
      s.tickStart.notices.sources[NoticeSource.mergeStall.index].pending = true) := by
  let u : State := s.advanceClock.ageStations.ageEntries
  have counted : u.countMergeWait.lane =
      { s.lane with faceRec := some { q with mergeWait := s.mergeCount q } } := by
    have stopped : u.tracker.loopStopped = (s.tracker.windowCount == 0) := rfl
    have face : u.lane.face = .releasing := hf
    have lane : u.lane = s.lane := rfl
    have conf : u.conf = s.conf := rfl
    unfold State.countMergeWait State.mergeCount
    by_cases hw : s.tracker.windowCount = 0
    · simpa [stopped, hw, lane] using (Lane.with_own_faceRec hq).symm
    · simp [stopped, hw, lane, hf, hq, conf]
  have conf : u.countMergeWait.conf = s.conf := by
    rw [State.conf, (State.countMergeWait_frame _).cfg_eq (by simp)]
    rfl
  show u.countMergeWait.stallWork.lane = _ ∧ (_ → _ →
    u.countMergeWait.stallWork.notices.sources[NoticeSource.mergeStall.index].pending = true)
  have eq : u.countMergeWait.stallWork =
      if decide (s.conf.mergeWait ≤ s.mergeCount q) && !q.stallMark then
        (u.countMergeWait.withLane { u.countMergeWait.lane with
          faceRec := some { q with mergeWait := s.mergeCount q, stallMark := true } }).raise
          .mergeStall q.tote
      else u.countMergeWait := by
    simp [State.stallWork, counted, conf, hf]
  rw [eq]
  cases hs : q.stallMark with
  | true => simp [counted, State.mergeTimed, hs]
  | false =>
    by_cases hm : s.conf.mergeWait ≤ s.mergeCount q
    · rw [if_pos (by simp [hm])]
      refine ⟨?_, fun _ _ => State.raise_pending _ _ _⟩
      rw [(State.raise_frame _ _ _).lane_eq (by simp)]
      simp [counted, State.mergeTimed, hm]
    · rw [if_neg (by simp [hm])]
      refine ⟨?_, fun _ x => absurd x hm⟩
      rw [counted]
      simp [State.mergeTimed, hm, hs]

theorem State.tickStart_watched (s : State) : s.tickStart.lane.watched = s.lane.watched := by
  by_cases hf : s.lane.face = .releasing
  · cases hq : s.lane.faceRec with
    | none =>
      have count : (s.advanceClock.ageStations.ageEntries).countMergeWait.lane = s.lane := by
        have lane : (s.advanceClock.ageStations.ageEntries).lane = s.lane := rfl
        unfold State.countMergeWait
        split
        · exact Lane.with_own_faceRec (by simp [lane, hq])
        · rfl
      have stall : s.tickStart.lane = s.lane := by
        unfold State.tickStart State.stallWork
        rw [count, hq]
        exact count
      rw [stall]
    | some q =>
      rw [(State.tickStart_releasing hf hq).1]
      simp [Lane.watched, LaneRec.watched, State.mergeTimed, hq]
  · rw [State.tickStart_lane_of_not_releasing hf]

theorem State.tickStart_raisesOnly (s : State) : RaisesOnly [.mergeStall] s s.tickStart := by
  have stall (u : State) : RaisesOnly [.mergeStall] u u.stallWork := by
    unfold State.stallWork
    split
    · exact .refl _ _
    · split
      · exact ((u.withLane_frame _).raisesOnly (by simp)).trans (State.raise_raisesOnly _ _ _)
      · exact .refl _ _
  exact ((s.aged_frame.trans (State.countMergeWait_frame _)).raisesOnly (by simp)).trans (stall _)

/-! ### The lane's end -/

/-- The end of an event works out drives and sensor times alone. -/
theorem State.settleLane_lane (s : State) :
    ∃ d ss, s.settleLane.lane = { s.lane with drives := d, sensors := ss } := by
  unfold State.settleLane
  dsimp only
  split
  · exact ⟨_, _, rfl⟩
  · rw [(State.requestState_frame _).lane_eq (by simp)]
    exact ⟨_, _, rfl⟩

theorem State.tick_lane {s : State} (h : s.mode ≠ .unconfigured) :
    ∃ d ss, s.tick.lane = { s.tickUrgent.lane with drives := d, sensors := ss } := by
  obtain ⟨d, ss, e⟩ := s.tickChecked.countRefresh.settleLane_lane
  rw [(State.countRefresh_frame _).lane_eq (by simp), s.tickChecked_frame.lane_eq (by simp)] at e
  rw [State.tick_configured h]
  exact ⟨d, ss, e⟩

theorem State.tickStart_totes (s : State) : laneTotes s.tickStart.lane = laneTotes s.lane := by
  rw [laneTotes_eq_watched, s.tickStart_watched, laneTotes_eq_watched]

theorem State.tickCold_eq (s : State) : s.tickCold = s.tickStart.coldWorks (laneTotes s.lane) := by
  rw [State.tickCold, s.tickStart_totes]

theorem State.tickCold_lane_watched (s : State) :
    s.tickCold.lane.watched = s.lane.watched.map (s.tickStart.markIn (laneTotes s.lane)) := by
  rw [s.tickCold_eq, State.coldWorks_watched, s.tickStart_watched]

/-- A lane record with the marks and the urgent flag that the tick gives it. -/
def State.tickMark (s : State) (q : LaneRec) : LaneRec :=
  s.tickCold.urgentMark (s.tickStart.markIn (laneTotes s.lane) q)

theorem State.tickMark_tote (s : State) (q : LaneRec) : (s.tickMark q).tote = q.tote :=
  State.markIn_tote _ _ _

theorem State.tick_watched {s : State} (h : s.mode ≠ .unconfigured) :
    s.tick.lane.watched = s.lane.watched.map s.tickMark := by
  obtain ⟨d, ss, e⟩ := State.tick_lane h
  rw [e]
  show s.tickUrgent.lane.watched = _
  rw [State.tickUrgent, (State.reurgent_all_parks _).watched, State.flagged_lane,
    Lane.watched_mapRecs (f := s.tickCold.urgentMark) (fun _ => rfl), State.tickCold_lane_watched,
    List.map_map]
  rfl

theorem State.tick_picker {s : State} (h : s.mode ≠ .unconfigured) :
    s.tick.picker = s.tickUrgent.picker := by
  rw [(State.tick_end_frame h).picker_eq (by simp), s.tickChecked_frame.picker_eq (by simp)]

theorem State.tick_lines {s : State} (h : s.mode ≠ .unconfigured) :
    s.tick.demand.lines = s.tickUrgent.demand.lines := by
  rw [(State.tick_end_frame h).demand_eq (by simp)]
  exact State.checkAll_lines _ _

theorem State.tick_raisesOnly_end {s : State} (h : s.mode ≠ .unconfigured) :
    RaisesOnly [.parkRefused, .frameAbandoned] s.tickCold s.tick := by
  rw [State.tick_configured h]
  exact ((((State.reurgent_raisesOnly s.tickCold _).mono (by simp)).trans
    ((State.checkAll_raisesOnly s.tickUrgent _).mono (by simp))).trans
    ((State.countRefresh_raisesOnly _).mono (by simp))).trans
    ((State.settleLane_raisesOnly _).mono (by simp))

/-- A RELEASING tote's merge wait over a tick (R118). -/
theorem State.tick_releasing {s : State} {q : LaneRec} (h : s.mode ≠ .unconfigured)
    (hf : s.lane.face = .releasing) (hq : s.lane.faceRec = some q) :
    ∃ p, s.tick.lane.faceRec = some p ∧ p.tote = q.tote ∧ p.mergeWait = s.mergeCount q ∧
      p.stallMark = (q.stallMark || decide (s.conf.mergeWait ≤ p.mergeWait)) ∧
      (p.stallMark = true → q.stallMark = false →
        s.tick.notices.sources[NoticeSource.mergeStall.index].pending = true) := by
  obtain ⟨lane, pending⟩ := State.tickStart_releasing hf hq
  have cold : s.tickCold.lane = s.tickStart.lane.mapRecs
      (s.tickStart.markIn (laneTotes s.lane)) := by
    rw [s.tickCold_eq]
    refine State.coldWorks_lane_stays fun T _ hr => ?_
    have := hr.2.1
    rw [lane] at this
    exact absurd (hf.symm.trans this) (by simp)
  have away : s.tickCold.lane.face ≠ .presenting := by
    rw [cold, lane]
    show s.lane.face ≠ .presenting
    simp [hf]
  obtain ⟨d, ss, e⟩ := State.tick_lane h
  have kept := ((State.coldWorks_raisesOnly s.tickStart (laneTotes s.tickStart.lane)).mono
    (ns := .mergeStall :: .parkRefused :: [.coldAlert, .coldBreach, .frameAbandoned, .orderReady])
    (by simp)).trans ((State.tick_raisesOnly_end h).mono (by simp))
  let p := s.tickStart.markIn (laneTotes s.lane) (s.mergeTimed q)
  have wait : p.mergeWait = s.mergeCount q := by
    unfold p State.markIn
    split <;> rfl
  have stall : p.stallMark = (q.stallMark || decide (s.conf.mergeWait ≤ s.mergeCount q)) := by
    unfold p State.markIn
    split <;> rfl
  refine ⟨s.tickCold.urgentMark p, ?_, State.markIn_tote _ _ _, wait, ?_, fun hm hs => ?_⟩
  · rw [e]
    show s.tickUrgent.lane.faceRec = _
    rw [State.tickUrgent, State.reurgent_all_of_not_presenting away, State.flagged_lane, cold, lane]
    rfl
  · rw [show (s.tickCold.urgentMark p).mergeWait = p.mergeWait from rfl, wait]
    exact stall
  · refine (kept .mergeStall).2 (pending hs ?_)
    have marked : p.stallMark = true := hm
    rw [stall, hs] at marked
    simpa using marked

end Sys2Proof.Machine
end

section
/-! PROOFS. The one-second tick under the laws: which records the Cold Monitor notices, what a breach, a
preemption and the announcement checks leave at the end of the tick; and the obligation O14. -/

namespace Sys2Proof.Machine

/-! ### The laws as the stages use them -/

/-- A record is the first of its tote, where no tote but 0 stands twice. -/
theorem find_tote_of_nodup {qs : List LaneRec} (h : ((qs.map LaneRec.tote).filter (· != 0)).Nodup)
    {q : LaneRec} (hq : q ∈ qs) (h0 : q.tote ≠ 0) :
    (qs.find? fun p => p.tote == q.tote) = some q := by
  induction qs with
  | nil => cases hq
  | cons p qs ih =>
    by_cases e : p.tote = q.tote
    · rw [List.find?_cons_of_pos (by simpa using e)]
      rcases List.mem_cons.mp hq with rfl | hm
      · rfl
      · have kept : (p.tote != 0) = true := by simpa [e] using h0
        rw [List.map_cons, List.filter_cons_of_pos (p := (· != 0)) kept, List.nodup_cons] at h
        have twice : p.tote ∈ qs.map LaneRec.tote := e ▸ List.mem_map_of_mem hm
        exact absurd (List.mem_filter.mpr ⟨twice, kept⟩) h.1
    · rw [List.find?_cons_of_neg (by simpa using e)]
      refine ih ?_ (List.mem_of_ne_of_mem (fun x => e (by rw [x])) hq)
      exact h.sublist ((List.sublist_cons_self _ _).filter _)

theorem OwnLaneLaw.totes_nodup {s : State} (h : OwnLaneLaw s) :
    ((laneTotes s.lane).filter (· != 0)).Nodup := by
  refine h.1.sublist (List.Sublist.filter _ ?_)
  have : ownTotes s = s.divert.records.map DivertRec.tote ++ laneTotes s.lane := by
    simp [ownTotes, laneTotes, List.append_assoc]
  rw [this]
  exact List.sublist_append_right _ _

/-- The first of its tote among the lane's records, by what the Cold Monitor goes by. -/
theorem OwnLaneLaw.find_watched {s : State} (h : OwnLaneLaw s) {q : LaneRec}
    (hq : q ∈ laneRecords s) (h0 : q.tote ≠ 0) :
    (s.lane.watched.find? fun p => p.tote == q.tote) = some q.watched := by
  refine find_tote_of_nodup (q := q.watched) ?_ ?_ h0
  · rw [← laneTotes_eq_watched]
    exact h.totes_nodup
  · rw [Lane.watched_eq]
    exact List.mem_map_of_mem hq

/-- Under the law, to look a tote's record up and test it is to test the record. -/
theorem OwnLaneLaw.any_find_watched {s : State} (h : OwnLaneLaw s) {p : LaneRec → Bool}
    (h0 : ∀ q, p q = true → q.tote ≠ 0) (hp : ∀ q, p q.watched = p q) {q : LaneRec}
    (hq : q ∈ laneRecords s) :
    (s.tickStart.lane.watched.find? fun r => r.tote == q.tote).any p = p q := by
  by_cases e : q.tote = 0
  · rw [e, any_find_zero h0, eq_comm, Bool.eq_false_iff]
    exact fun x => h0 q x e
  · rw [s.tickStart_watched, h.find_watched hq e, Option.any_some, hp]

/-- At the tick's Cold Monitor a record's ALERT is due exactly where the record says so. -/
theorem OwnLaneLaw.alertDue_eq {s : State} (h : OwnLaneLaw s) {q : LaneRec}
    (hq : q ∈ laneRecords s) :
    s.tickStart.alertDue q.tote = alertsNow s.conf (s.clock + 1) q := by
  rw [State.alertDue_eq, s.tickStart_conf, s.tickStart_clock]
  exact h.any_find_watched (fun _ => watched_tote_of_alertsNow) (fun _ => rfl) hq

theorem OwnLaneLaw.breachDue_eq {s : State} (h : OwnLaneLaw s) {q : LaneRec}
    (hq : q ∈ laneRecords s) :
    s.tickStart.breachDue q.tote = breachesNow s.conf (s.clock + 1) q := by
  rw [State.breachDue_eq, s.tickStart_conf, s.tickStart_clock]
  exact h.any_find_watched (fun _ => watched_tote_of_breachesNow) (fun _ => rfl) hq

theorem tote_mem_laneTotes {s : State} {q : LaneRec} (hq : q ∈ laneRecords s) :
    q.tote ∈ laneTotes s.lane := List.mem_map_of_mem hq

/-- The totes whose breach the tick notices. -/
def State.tickBreaches (s : State) (T : ToteNo) : Bool :=
  s.tickStart.breachIn (laneTotes s.lane) T

theorem OwnLaneLaw.tickBreaches_eq {s : State} (h : OwnLaneLaw s) {q : LaneRec}
    (hq : q ∈ laneRecords s) : s.tickBreaches q.tote = breachesNow s.conf (s.clock + 1) q := by
  rw [State.tickBreaches, State.breachIn, h.breachDue_eq hq, decide_eq_true (tote_mem_laneTotes hq),
    Bool.true_and]

/-- A tote that no breaching record names is not breached. -/
theorem OwnLaneLaw.tickBreaches_false {s : State} (h : OwnLaneLaw s) {T : ToteNo}
    (hn : ∀ q ∈ laneRecords s, q.tote = T → breachesNow s.conf (s.clock + 1) q = false) :
    s.tickBreaches T = false := by
  by_cases hT : T ∈ laneTotes s.lane
  · obtain ⟨q, hq, rfl⟩ := List.mem_map.mp hT
    rw [h.tickBreaches_eq hq, hn q hq rfl]
  · rw [State.tickBreaches, State.breachIn, decide_eq_false hT, Bool.false_and]

theorem breachesNow_iff (r : Record) (t : Clock) (q : LaneRec) :
    breachesNow r t q = true ↔
      (q.tote ≠ 0 ∧ q.cls ≠ .ambient) ∧ coldRemaining r q.cls q.cold t ≤ 0 ∧
        q.breachMark = false := by
  rw [breachesNow, Bool.and_eq_true, beq_iff_eq, laneStanding_breached_iff, Bool.not_eq_true',
    and_assoc]

theorem alertsNow_iff (r : Record) (t : Clock) (q : LaneRec) :
    alertsNow r t q = true ↔
      (q.tote ≠ 0 ∧ q.cls ≠ .ambient) ∧ 0 < coldRemaining r q.cls q.cold t ∧
        coldRemaining r q.cls q.cold t ≤ (alertMargin r q.cls : Int) ∧ q.alertMark = false ∧
        q.cold.isKnown = true := by
  rw [alertsNow, Bool.and_eq_true, Bool.and_eq_true, decide_eq_true_eq, laneStanding_alert_iff,
    Bool.not_eq_true']
  simp only [and_assoc]

/-- A breached tote is urgent (R47). -/
theorem urgentIn_of_breachesNow {s : State} {q : LaneRec}
    (h : breachesNow s.conf s.clock q = true) : UrgentIn s q := by
  obtain ⟨⟨h0, hc⟩, hr, -⟩ := (breachesNow_iff _ _ _).mp h
  exact ⟨h0, .inl ⟨hc, by omega⟩⟩

/-! ### The lines and want records behind the Cold Monitor -/

theorem State.tickCold_demand (s : State) :
    s.tickCold.demand =
      { lines := s.demand.lines.map (heldIf s.tickBreaches)
        wants := s.demand.wants.filter fun w => !s.tickBreaches w.tote } := by
  have demand : s.tickStart.demand = s.demand := s.tickStart_frame.demand_eq (by simp)
  rw [s.tickCold_eq, State.coldWorks_demand, demand]
  rfl

theorem State.tickCold_lines (s : State) :
    s.tickCold.demand.lines = s.demand.lines.map (heldIf s.tickBreaches) :=
  congrArg Demand.lines s.tickCold_demand

theorem State.tickCold_tags (s : State) :
    s.tickCold.demand.lines.map Line.tag = s.demand.lines.map Line.tag := by
  rw [s.tickCold_lines, List.map_map]
  exact List.map_congr_left fun l _ => heldIf_tag _ l

theorem State.tickCold_mem_lines {s : State} {l : Line} (hl : l ∈ s.demand.lines)
    (hT : s.tickBreaches l.tote = false) : l ∈ s.tickCold.demand.lines := by
  rw [s.tickCold_lines]
  exact List.mem_map.mpr ⟨l, hl, heldIf_of_not hT⟩

/-- A WAITING, ACTIVE or SUSPENDED line behind the Cold Monitor was there before. -/
theorem State.mem_of_tickCold_lines {s : State} {l : Line} (hl : l ∈ s.tickCold.demand.lines)
    (ho : l.state.breachable = true) : l ∈ s.demand.lines := by
  rw [s.tickCold_lines] at hl
  obtain ⟨m, hm, rfl⟩ := List.mem_map.mp hl
  cases hB : s.tickBreaches m.tote with
  | true => rw [heldIf_not_breachable hB] at ho; cases ho
  | false => rwa [heldIf_of_not hB]

theorem State.tickCold_orders (s : State) : SameOrders s.puts s.tickCold.puts := by
  have := s.tickStart.coldWorks_orders (laneTotes s.lane)
  rwa [← s.tickCold_eq, s.tickStart_frame.puts_eq (by simp)] at this

theorem State.tickCold_clock (s : State) : s.tickCold.clock = s.clock + 1 := by
  rw [s.tickCold_frame.clock_eq (by simp), s.tickStart_clock]

theorem State.tickCold_cfg (s : State) : s.tickCold.cfg = s.cfg := by
  rw [s.tickCold_frame.cfg_eq (by simp), s.tickStart_frame.cfg_eq (by simp)]

theorem State.tickUrgent_parks (s : State) : Parks s.tickCold.flagged s.tickUrgent :=
  s.tickCold.reurgent_all_parks

theorem State.tickUrgent_wants (s : State) :
    s.tickUrgent.demand.wants = s.demand.wants.filter fun w => !s.tickBreaches w.tote := by
  rw [s.tickUrgent_parks.wants, s.tickCold.flagged_frame.demand_eq (by simp), s.tickCold_demand]

theorem State.tickUrgent_puts (s : State) : s.tickUrgent.puts = s.tickCold.puts :=
  s.tickUrgent_frame.puts_eq (by simp)

theorem State.tickUrgent_clock (s : State) : s.tickUrgent.clock = s.clock + 1 := by
  rw [s.tickUrgent_frame.clock_eq (by simp), s.tickCold_clock]

theorem State.tickUrgent_conf (s : State) : s.tickUrgent.conf = s.conf := by
  rw [State.conf, s.tickUrgent_frame.cfg_eq (by simp), s.tickCold_cfg]
  rfl

theorem State.tick_facts {s : State} (h : s.mode ≠ .unconfigured) :
    lineFacts s.tick.demand.lines = lineFacts s.demand.lines := by
  rw [State.tick_lines h, s.tickUrgent_parks.facts, s.tickCold.flagged_frame.demand_eq (by simp),
    s.tickCold_lines, lineFacts_heldIf]

/-- A line that the Cold Monitor left and that is not ACTIVE stands at the end of the tick. -/
theorem State.tick_mem_of_tickCold {s : State} (h : s.mode ≠ .unconfigured) (hl : LinesLaw s)
    {l : Line} (hm : l ∈ s.tickCold.demand.lines) (ha : l.state ≠ .active) :
    l ∈ s.tick.demand.lines := by
  rw [State.tick_lines h]
  refine s.tickUrgent_parks.mem_of_not_active ?_ hm ha
  show (s.tickCold.demand.lines.map Line.tag).Nodup
  rw [s.tickCold_tags]
  exact hl.2.1

theorem State.tick_wants_totes {s : State} (h : s.mode ≠ .unconfigured) :
    s.tick.demand.wants.map WantRec.tote =
      (s.demand.wants.filter fun w => !s.tickBreaches w.tote).map WantRec.tote := by
  rw [(State.tick_end_frame h).demand_eq (by simp), State.tickChecked, State.checkAll_totes,
    s.tickUrgent_wants]

/-- A want record at the end of the tick is of a tote that had one and is not breached. -/
theorem State.tick_want {s : State} (h : s.mode ≠ .unconfigured) {w : WantRec}
    (hw : w ∈ s.tick.demand.wants) :
    ∃ v ∈ s.demand.wants, v.tote = w.tote ∧ s.tickBreaches w.tote = false := by
  have mem := List.mem_map_of_mem (f := WantRec.tote) hw
  rw [State.tick_wants_totes h] at mem
  obtain ⟨v, hv, e⟩ := List.mem_map.mp mem
  obtain ⟨hv, hB⟩ := List.mem_filter.mp hv
  exact ⟨v, hv, e, by rw [← e]; simpa using hB⟩

/-! ### The frames requested in a tick -/

/-- The keys that a tick may request: STATE, WANT or DROP of each line's tote, HOLD of each tote of the own
lane. -/
def tickKeys (s : State) : List TxKey :=
  .state :: (s.demand.lines.map fun l => .wantDrop l.tote) ++ (ownTotes s).map .holdRelease

theorem HasRoom.roomFor {s : State} (h : HasRoom s) : RoomFor (tickKeys s) s := by
  have := List.length_filter_le (fun k => s.bus.queue.all fun g => frameKey g != k) (tickKeys s)
  simp only [tickKeys, List.length_append, List.length_cons, List.length_map] at this
  unfold HasRoom at h
  unfold RoomFor tickKeys
  omega

theorem RoomFor.of_bus_eq {L : List TxKey} {s t : State} (h : RoomFor L s) (hb : t.bus = s.bus) :
    RoomFor L t := by
  unfold RoomFor at *
  rwa [hb]

theorem WantsLaw.key_mem {s : State} (h : WantsLaw s) {w : WantRec} (hw : w ∈ s.demand.wants) :
    .wantDrop w.tote ∈ tickKeys s := by
  obtain ⟨l, hl, hT, -⟩ := hasWorkable_iff.mp ((h.2 w.tote).mp ⟨w, hw, rfl⟩)
  simp only [tickKeys, List.mem_append, List.mem_cons, List.mem_map]
  exact .inl (.inr ⟨l, hl, by rw [hT]⟩)

theorem holdKey_mem {s : State} {T : ToteNo} (h : T ∈ laneTotes s.lane) :
    .holdRelease T ∈ tickKeys s := by
  have : T ∈ ownTotes s := by
    simp only [laneTotes, List.map_append, List.mem_append] at h
    simp only [ownTotes, List.mem_append]
    exact h.elim (fun h => h.elim (fun h => .inl (.inl (.inr h))) fun h => .inl (.inr h)) .inr
  simp only [tickKeys, List.mem_append, List.mem_map]
  exact .inr ⟨T, this, rfl⟩

theorem State.wantDue_want {s : State} {T : ToteNo} (h : s.wantDue T ≠ none) :
    ∃ w ∈ s.demand.wants, w.tote = T := by
  cases hw : s.wantOf T with
  | none => simp [State.wantDue, hw] at h
  | some w => exact ⟨w, List.mem_of_find?_eq_some hw, by simpa using List.find?_some hw⟩

theorem State.tickStart_bus (s : State) : s.tickStart.bus = s.bus :=
  s.tickStart_frame.bus_eq (by simp)

theorem State.tickUrgent_bus (s : State) : s.tickUrgent.bus = s.tickCold.bus :=
  s.tickUrgent_frame.bus_eq (by simp)

/-- Up to the urgent flags a tick requests DROP of breached wanted totes alone. -/
theorem State.tickUrgent_requests (s : State) :
    Requests (fun k => ∃ w ∈ s.demand.wants, k = .wantDrop w.tote ∧ s.tickBreaches w.tote = true)
      s s.tickUrgent := by
  have cold := s.tickStart.coldWorks_requests (laneTotes s.lane)
  rw [← s.tickCold_eq, s.tickStart_frame.demand_eq (by simp)] at cold
  exact ((Requests.of_bus_eq s.tickStart_bus).trans cold).trans (.of_bus_eq s.tickUrgent_bus)

/-- After the announcement checks a tick requests STATE and HOLD alone. -/
theorem State.tick_end_requests {s : State} (h : s.mode ≠ .unconfigured) :
    Requests (fun k => k = .state ∨ ∃ T ∈ laneTotes s.lane, k = .holdRelease T)
      s.tickChecked s.tick := by
  have totes : laneTotes s.tickChecked.lane = laneTotes s.lane := by
    obtain ⟨d, ss, e⟩ := State.tick_lane h
    have same : laneTotes s.tick.lane = laneTotes s.tickChecked.lane := by
      rw [e, s.tickChecked_frame.lane_eq (by simp)]
      rfl
    rw [← same, laneTotes_eq_watched, State.tick_watched h, List.map_map, laneTotes_eq_watched]
    exact List.map_congr_left fun q _ => s.tickMark_tote q
  have refresh := s.tickChecked.countRefresh_requests
  rw [totes] at refresh
  rw [State.tick_configured h]
  exact refresh.trans ((State.settleLane_requests _).mono fun k e => .inl e)

theorem State.tickUrgent_room {s : State} (hw : WantsLaw s) (hr : HasRoom s) :
    RoomFor (tickKeys s) s.tickUrgent :=
  s.tickUrgent_requests.room _ (by rintro k ⟨w, hm, rfl, -⟩; exact hw.key_mem hm) hr.roomFor

theorem State.tick_check_key {s : State} (hw : WantsLaw s) {T : ToteNo}
    (h : s.tickUrgent.wantDue T ≠ none) : .wantDrop T ∈ tickKeys s := by
  obtain ⟨w, hm, rfl⟩ := State.wantDue_want h
  rw [s.tickUrgent_wants] at hm
  exact hw.key_mem (List.mem_of_mem_filter hm)

theorem State.tickChecked_requests (s : State) :
    Requests (fun k => ∃ T ∈ toteOrder s.tickUrgent.demand.lines,
      k = .wantDrop T ∧ s.tickUrgent.wantDue T ≠ none) s.tickUrgent s.tickChecked :=
  State.checkAll_requests (toteOrder_nodup _)

/-- A WANT or DROP queued at the announcement checks' end is queued at the tick's end. -/
theorem State.tick_keeps_wantDrop {s : State} (h : s.mode ≠ .unconfigured) (hw : WantsLaw s)
    (hr : HasRoom s) {f : Frame} {T : ToteNo} (hf : f ∈ s.tickChecked.bus.queue)
    (hk : frameKey f = .wantDrop T) : f ∈ s.tick.bus.queue := by
  refine (State.tick_end_requests h).kept (tickKeys s) ?_ ?_ f hf ?_
  · rintro k (rfl | ⟨T, hT, rfl⟩)
    · exact List.mem_cons_self
    · exact holdKey_mem hT
  · refine s.tickChecked_requests.room _ ?_ (State.tickUrgent_room hw hr)
    rintro k ⟨T, -, rfl, due⟩
    exact State.tick_check_key hw due
  · rw [hk]
    rintro (e | ⟨U, -, e⟩) <;> cases e

/-! ### The marks and the urgent flags -/

/-- The urgent test at the tick's flags is the test at the new clock: a line that a breach holds is of a
tote that is urgent by its cold time (R47, R122). -/
theorem OwnLaneLaw.urgent_tickCold {s : State} (h : OwnLaneLaw s) {q : LaneRec}
    (hq : q ∈ laneRecords s) :
    UrgentIn s.tickCold q ↔ UrgentIn { s with clock := s.clock + 1 } q := by
  have conf : s.tickCold.conf = s.conf := by rw [State.conf, s.tickCold_cfg]; rfl
  cases hB : s.tickBreaches q.tote with
  | true =>
    rw [h.tickBreaches_eq hq] at hB
    refine iff_of_true (urgentIn_of_breachesNow ?_)
      (urgentIn_of_breachesNow (s := { s with clock := s.clock + 1 }) hB)
    rwa [conf, s.tickCold_clock]
  | false =>
    refine UrgentIn.congr s.tickCold_cfg s.tickCold_clock s.tickCold_orders fun l hT hs => ?_
    exact ⟨fun hl => State.mem_of_tickCold_lines (s := s) hl (by rw [hs]; rfl),
      fun hl => State.tickCold_mem_lines (s := s) hl (by rwa [hT])⟩

/-- Each lane record's marks and urgent flag over a tick (R48, R121). -/
theorem OwnLaneLaw.tick_record {s : State} (own : OwnLaneLaw s) (h : s.mode ≠ .unconfigured)
    {q : LaneRec} (hq : q ∈ laneRecords s) :
    ∃ p ∈ laneRecords s.tick, p.tote = q.tote ∧ p.cls = q.cls ∧ p.cold = q.cold ∧
      p.laps = q.laps ∧ p.alertMark = (q.alertMark || alertsNow s.conf (s.clock + 1) q) ∧
      p.breachMark = (q.breachMark || breachesNow s.conf (s.clock + 1) q) ∧
      (p.urgent = true ↔ UrgentIn { s with clock := s.clock + 1 } q) := by
  have marked : s.tickMark q.watched = s.tickCold.urgentMark (s.tickStart.coldMark q.watched) :=
    congrArg _ (State.markIn_of_mem (q := q.watched) (tote_mem_laneTotes (q := q) hq))
  have mem : s.tickCold.urgentMark (s.tickStart.coldMark q.watched) ∈ s.tick.lane.watched := by
    rw [State.tick_watched h, ← marked]
    exact List.mem_map_of_mem (List.mem_map_of_mem hq)
  rw [Lane.watched_eq] at mem
  obtain ⟨p, hp, e⟩ := List.mem_map.mp mem
  have alert := congrArg LaneRec.alertMark e
  have breach := congrArg LaneRec.breachMark e
  have urgent := congrArg LaneRec.urgent e
  have tote := congrArg LaneRec.tote e
  have cls := congrArg LaneRec.cls e
  have cold := congrArg LaneRec.cold e
  have laps := congrArg LaneRec.laps e
  refine ⟨p, hp, tote, cls, cold, laps, ?_, ?_, ?_⟩
  · rw [← own.alertDue_eq hq]
    exact alert
  · rw [← own.breachDue_eq hq]
    exact breach
  · rw [← own.urgent_tickCold hq]
    exact (Bool.eq_iff_iff.mp urgent).trans (State.urgentNow_iff _ _)

/-! ### The notices -/

theorem RaisedFor.between {n : NoticeSource} {ds : List (BitVec 32)} {ms ns : List NoticeSource}
    {s t u v : State} (h : RaisesOnly ms s t) (k : RaisedFor n ds t u) (l : RaisesOnly ns u v)
    (hm : n ∉ ms) (hn : n ∉ ns) : RaisedFor n ds s v := by
  have first : RaisedFor n [] s t := (h n).1 hm
  have last : RaisedFor n [] u v := (l n).1 hn
  have := (first.append k).append last
  rwa [List.nil_append, List.append_nil] at this

/-- COLD_ALERT and COLD_BREACH over a tick, in the order of the lane's records (R121, log 9). -/
theorem OwnLaneLaw.tick_raised {s : State} (own : OwnLaneLaw s) (h : s.mode ≠ .unconfigured) :
    RaisedFor .coldAlert
      (((laneRecords s).filter (alertsNow s.conf (s.clock + 1))).map LaneRec.tote) s s.tick ∧
    RaisedFor .coldBreach
      (((laneRecords s).filter (breachesNow s.conf (s.clock + 1))).map LaneRec.tote) s s.tick := by
  have totes {due : ToteNo → Bool} {now : LaneRec → Bool}
      (same : ∀ q ∈ laneRecords s, due q.tote = now q) :
      (laneTotes s.lane).filter due = ((laneRecords s).filter now).map LaneRec.tote := by
    have kept : (laneRecords s).filter (due ∘ LaneRec.tote) = (laneRecords s).filter now :=
      List.filter_congr same
    show ((laneRecords s).map LaneRec.tote).filter due = _
    rw [List.filter_map, kept]
  obtain ⟨alert, breach⟩ := State.coldWorks_raised (s := s.tickStart) own.totes_nodup
  rw [← s.tickCold_eq, totes fun q hq => own.alertDue_eq hq] at alert
  rw [← s.tickCold_eq, totes fun q hq => own.breachDue_eq hq] at breach
  have start := s.tickStart_raisesOnly
  have finish := State.tick_raisesOnly_end h
  exact ⟨.between start alert finish (by simp) (by simp),
    .between start breach finish (by simp) (by simp)⟩

/-! ### A breach (R28, R122) -/

/-- The lines of a breached tote that a breach holds are HELD at the end of the tick. -/
theorem State.tick_holds {s : State} (h : s.mode ≠ .unconfigured) (hl : LinesLaw s) {l : Line}
    (hB : s.tickBreaches l.tote = true) (hm : l ∈ s.demand.lines)
    (ho : l.state = .waiting ∨ l.state = .active ∨ l.state = .suspended) :
    { l with state := .held } ∈ s.tick.demand.lines := by
  have breachable : l.state.breachable = true := by rcases ho with e | e | e <;> rw [e] <;> rfl
  refine State.tick_mem_of_tickCold h hl ?_ (by simp)
  rw [s.tickCold_lines]
  exact List.mem_map.mpr ⟨l, hm, heldIf_of_breachable hB breachable⟩

/-- DROP of a breached wanted tote is queued at the end of the tick. -/
theorem State.tick_drops {s : State} (h : s.mode ≠ .unconfigured) (hw : WantsLaw s)
    {w : WantRec} (hm : w ∈ s.demand.wants) (hB : s.tickBreaches w.tote = true)
    (htx : s.bus.tx = .on) (hr : HasRoom s) :
    { sender := s.bus.ownStation.getD 0, tote := w.tote, body := .drop } ∈ s.tick.bus.queue := by
  obtain ⟨hT, due⟩ := Bool.and_eq_true_iff.mp hB
  have demand := s.tickStart_frame.demand_eq (by simp)
  have cold := State.coldWorks_drop (s := s.tickStart) (L := tickKeys s) (of_decide_eq_true hT) due
    (by rwa [s.tickStart_bus]) (by rw [demand]; exact ⟨w, hm, rfl⟩)
    (fun v hv => hw.key_mem (by rwa [demand] at hv)) (hr.roomFor.of_bus_eq s.tickStart_bus)
  rw [s.tickStart_bus, ← s.tickCold_eq] at cold
  refine State.tick_keeps_wantDrop h hw hr (T := w.tote) ?_ rfl
  refine s.tickChecked_requests.kept (tickKeys s) ?_ (State.tickUrgent_room hw hr) _ ?_ ?_
  · rintro k ⟨T, -, rfl, due⟩
    exact State.tick_check_key hw due
  · rw [s.tickUrgent_bus]
    exact cold
  · rintro ⟨T, -, e, due⟩
    obtain ⟨v, hv, hvT⟩ := State.wantDue_want due
    rw [s.tickUrgent_wants, List.mem_filter] at hv
    have same : w.tote = T := TxKey.wantDrop.inj e
    rw [hvT, ← same, hB] at hv
    cases hv.2

/-- A presented tote that is breached leaves the face, the lights off (R122, R132). -/
theorem State.tick_releases {s : State} (h : s.mode ≠ .unconfigured) (hp : PresentLaw s)
    (hf : s.lane.face = .presenting) {p : LaneRec} (hq : s.lane.faceRec = some p)
    (hB : s.tickBreaches p.tote = true) :
    (s.tick.lane.face = .releasing ∨ s.tick.lane.face = .leaving) ∧ s.tick.picker.isDark := by
  obtain ⟨presents, atFace, -⟩ := hp
  obtain ⟨l, hl, ha⟩ := presents.mp hf
  obtain ⟨q, hq', tote⟩ := atFace l hl ha
  rw [hq] at hq'
  cases hq'
  have start := State.tickStart_lane_of_not_releasing (s := s) (by simp [hf])
  obtain ⟨hT, due⟩ := Bool.and_eq_true_iff.mp hB
  obtain ⟨face, dark⟩ := State.coldWorks_release (s := s.tickStart) (of_decide_eq_true hT)
    ⟨due, by rw [start]; exact hf, p, by rw [start]; exact hq, rfl⟩
    (by rw [s.tickStart_frame.demand_eq (by simp)]; exact ⟨l, hl, tote.symm, ha⟩)
  rw [← s.tickCold_eq] at face dark
  have away : s.tickCold.lane.face ≠ .presenting := by
    rcases face with e | e <;> simp [e]
  have urgent : s.tickUrgent = s.tickCold.flagged := State.reurgent_all_of_not_presenting away
  obtain ⟨d, ss, lane⟩ := State.tick_lane h
  rw [State.tick_picker h, lane, urgent]
  exact ⟨face, dark⟩

/-! ### The preemption (R115, R116) -/

/-- The lane, lights and ACTIVE line behind the Cold Monitor, where the presented tote is not breached. -/
theorem State.tickCold_presenting {s : State} (hp : PresentLaw s)
    (hf : s.lane.face = .presenting) {q : LaneRec} (hq : s.lane.faceRec = some q)
    (hB : s.tickBreaches q.tote = false) {l : Line} (hl : l ∈ s.demand.lines)
    (ha : l.state = .active) :
    s.tickCold.lane = s.lane.mapRecs (s.tickStart.markIn (laneTotes s.lane)) ∧
    s.tickCold.picker = s.picker ∧ activeLine s.tickCold.demand.lines = some l := by
  obtain ⟨-, atFace, one, -⟩ := hp
  have lineTote {m : Line} (hm : m ∈ s.demand.lines) (hs : m.state = .active) : m.tote = q.tote := by
    obtain ⟨p, hp, e⟩ := atFace m hm hs
    rw [hq] at hp
    cases hp
    exact e.symm
  have start := State.tickStart_lane_of_not_releasing (s := s) (by simp [hf])
  refine ⟨?_, ?_, ?_⟩
  · rw [s.tickCold_eq, State.coldWorks_lane_stays ?_, start]
    rintro T hT ⟨due, -, p, hp, e⟩
    rw [start, Option.mem_def, hq] at hp
    cases hp
    rw [State.tickBreaches, State.breachIn, e, due, decide_eq_true hT] at hB
    cases hB
  · rw [s.tickCold_eq, State.coldWorks_picker_kept, s.tickStart_frame.picker_eq (by simp)]
    intro m hm hs
    rw [s.tickStart_frame.demand_eq (by simp)] at hm
    rw [lineTote hm hs]
    exact hB
  · refine activeLine_of_unique (State.tickCold_mem_lines hl (by rwa [lineTote hl ha])) ha ?_
    intro m hm hs
    exact one m (State.mem_of_tickCold_lines hm (by rw [hs]; rfl)) l hl hs ha

theorem OwnLaneLaw.tickMark_urgent {s : State} (own : OwnLaneLaw s) {p : LaneRec}
    (hm : p ∈ laneRecords s) :
    (s.tickMark p).urgent = true ↔ UrgentIn { s with clock := s.clock + 1 } p := by
  rw [← own.urgent_tickCold hm]
  refine (State.urgentNow_iff s.tickCold _).trans ?_
  unfold State.markIn
  split <;> rfl

/-- The check of the tick's flags is made, where the queue head turns urgent. -/
theorem OwnLaneLaw.tickUrgent_of_head {s : State} (own : OwnLaneLaw s) {a : LaneRec}
    {rest : List LaneRec}
    (lane : s.tickCold.lane = s.lane.mapRecs (s.tickStart.markIn (laneTotes s.lane)))
    (hqueue : s.lane.queue = a :: rest) (hcalm : a.urgent = false)
    (hurgent : UrgentIn { s with clock := s.clock + 1 } a) :
    s.tickCold.flagged.lane = s.lane.mapRecs s.tickMark ∧
    s.tickCold.flagged.lane.headUrgent = true ∧
    s.tickUrgent = s.tickCold.flagged.headTurnedUrgent := by
  have flagged : s.tickCold.flagged.lane = s.lane.mapRecs s.tickMark := by
    rw [State.flagged_lane, lane, Lane.mapRecs_mapRecs]
    rfl
  have after : s.tickCold.flagged.lane.headUrgent = true := by
    have urgent := (own.tickMark_urgent (by simp [laneRecords, hqueue])).mpr hurgent
    rw [flagged]
    simpa [Lane.headUrgent, Lane.mapRecs, hqueue] using urgent
  have before : s.tickCold.lane.headUrgent = false := by
    rw [lane]
    simp [Lane.headUrgent, Lane.mapRecs, hqueue, hcalm]
  refine ⟨flagged, after, ?_⟩
  rw [State.tickUrgent, State.reurgent_all, after, before]
  rfl

/-- A queue head that turns urgent parks the presented tote that is not urgent and has taken no put, and
not one that has (R115, R116, log 31). -/
theorem OwnLaneLaw.tick_preempts {s : State} (own : OwnLaneLaw s) (h : s.mode ≠ .unconfigured)
    {q a : LaneRec} {rest : List LaneRec} {l : Line} (hp : PresentLaw s) (hmode : s.mode = .active)
    (hjam : s.lane.jam = none) (hf : s.lane.face = .presenting) (hq : s.lane.faceRec = some q)
    (hpark : s.lane.parkRec = none) (hqueue : s.lane.queue = a :: rest) (hcalm : a.urgent = false)
    (hurgent : UrgentIn { s with clock := s.clock + 1 } a)
    (hface : ¬ UrgentIn { s with clock := s.clock + 1 } q) (hl : l ∈ s.demand.lines)
    (ha : l.state = .active) :
    (l.puts = 0 →
      s.tick.lane.face = .parking ∧ s.tick.lane.faceRec = none ∧
      s.tick.lane.parkRec.map LaneRec.tote = some q.tote ∧ s.tick.lane.waits.park = some 0 ∧
      { l with state := .suspended } ∈ s.tick.demand.lines ∧ s.tick.picker.active = none) ∧
    (l.puts ≠ 0 →
      s.tick.lane.face = .presenting ∧ l ∈ s.tick.demand.lines ∧ s.tick.picker = s.picker) := by
  have atFace : q ∈ laneRecords s := by simp [laneRecords, hq]
  have safe : s.tickBreaches q.tote = false := by
    rw [own.tickBreaches_eq atFace, Bool.eq_false_iff]
    exact fun x => hface (urgentIn_of_breachesNow (s := { s with clock := s.clock + 1 }) x)
  obtain ⟨lane, picker, active⟩ := State.tickCold_presenting hp hf hq safe hl ha
  obtain ⟨flagged, head, urgent⟩ := own.tickUrgent_of_head lane hqueue hcalm hurgent
  have faceRec : s.tickCold.flagged.lane.faceRec = some (s.tickMark q) := by
    rw [flagged]
    simp [Lane.mapRecs, hq]
  have face : s.tickCold.flagged.lane.face = .presenting := by rw [flagged]; exact hf
  obtain ⟨d, ss, tickLane⟩ := State.tick_lane h
  rw [State.tick_picker h, State.tick_lines h, tickLane, urgent]
  constructor
  · intro noPut
    have mode : s.tickCold.flagged.mode = .active := by
      rw [State.mode, s.tickCold.flagged_frame.modeCtl_eq (by simp),
        s.tickCold_frame.modeCtl_eq (by simp), s.tickStart_frame.modeCtl_eq (by simp)]
      exact hmode
    have calm : (s.tickMark q).urgent = false := by
      rw [Bool.eq_false_iff]
      exact fun x => hface ((own.tickMark_urgent atFace).mp x)
    have free : s.tickCold.flagged.lane.parkRec = none := by
      rw [flagged]
      simp [Lane.mapRecs, hpark]
    rw [State.headTurnedUrgent_of_no_put mode (by rw [flagged]; exact hjam) head face faceRec calm
      free active noPut]
    obtain ⟨parking, gone, parked, wait, suspended, dark⟩ := State.parkFace_of_active faceRec active
    refine ⟨parking, gone, ?_, wait, suspended, dark⟩
    show s.tickCold.flagged.parkFace.lane.parkRec.map LaneRec.tote = some q.tote
    rw [parked]
    exact congrArg some (s.tickMark_tote q)
  · intro put
    rw [State.headTurnedUrgent_of_puts (s := s.tickCold.flagged) active put]
    exact ⟨face, (activeLine_mem active).1, picker⟩

/-! ### The announcement checks (R40 to R42) -/

theorem wantOf_of_nodup {s : State} (h : (s.demand.wants.map WantRec.tote).Nodup) {w : WantRec}
    (hw : w ∈ s.demand.wants) : s.wantOf w.tote = some w := by
  cases hf : s.wantOf w.tote with
  | none =>
    have := List.find?_eq_none.mp hf w hw
    simp at this
  | some v =>
    have tote : v.tote = w.tote := by simpa using List.find?_some hf
    rw [List.inj_on_of_nodup_map h (List.mem_of_find?_eq_some hf) hw tote]

/-- The weight of a tote that is not breached is worked out of the lines as they were, at the new clock. -/
theorem State.tickUrgent_weightOf {s : State} (hl : LinesLaw s) {T : ToteNo}
    (hB : s.tickBreaches T = false) :
    s.tickUrgent.weightOf T = claimWeight s.demand.lines s.puts (s.clock + 1) T := by
  have cold : workableOf s.tickCold.demand.lines s.tickCold.puts T =
      workableOf s.demand.lines s.puts T := by
    rw [s.tickCold_lines]
    refine workableOf_map s.tickCold_orders fun l _ => ?_
    by_cases e : l.tote = T
    · exact .inl (heldIf_of_not (e ▸ hB))
    · exact .inr ⟨fun x => absurd x e, fun x => absurd (heldIf_tote _ l ▸ x) e⟩
  have nodup : (s.tickCold.demand.lines.map Line.tag).Nodup := by
    rw [s.tickCold_tags]
    exact hl.2.1
  obtain ⟨f, lines, hf⟩ := s.tickUrgent_parks.lines nodup
  have urgent : workableOf s.tickUrgent.demand.lines s.tickUrgent.puts T =
      workableOf s.demand.lines s.puts T := by
    rw [lines, s.tickUrgent_puts, ← cold]
    refine workableOf_map (.refl _) fun l hm => (hf l hm).imp_right fun ⟨ha, e⟩ => ?_
    exact ⟨fun _ => by simp [ha], fun _ => by simp [e]⟩
  rw [State.weightOf, s.tickUrgent_clock]
  exact claimWeight_congr (s.tickUrgent_puts ▸ s.tickCold_orders) urgent _

theorem State.tick_weightOf {s : State} (h : s.mode ≠ .unconfigured) (T : ToteNo) :
    s.tick.weightOf T = s.tickUrgent.weightOf T := by
  have frame := s.tickChecked_frame.trans (State.tick_end_frame h)
  rw [State.weightOf, State.tick_lines h, frame.puts_eq (by simp), frame.clock_eq (by simp)]
  rfl

theorem abs_sub_cast (a b : Nat) : |(a : Int) - (b : Int)| = ((max a b - min a b : Nat) : Int) := by
  rcases le_total a b with h | h
  · rw [abs_of_nonpos (by omega), max_eq_right h, min_eq_left h]
    omega
  · rw [abs_of_nonneg (by omega), max_eq_left h, min_eq_right h]
    omega

/-- Every want record left by the Cold Monitor has its announcement check (R40 to R42). -/
theorem State.tick_checks {s : State} (h : s.mode ≠ .unconfigured) (hl : LinesLaw s)
    (hw : WantsLaw s) {w : WantRec} (hm : w ∈ s.demand.wants)
    (hB : s.tickBreaches w.tote = false) : Checked w s s.tick := by
  have workable : hasWorkable s.demand.lines s.puts w.tote = true := (hw.2 w.tote).mp ⟨w, hm, rfl⟩
  obtain ⟨W, hW⟩ : ∃ W, s.tickUrgent.weightOf w.tote = some W := by
    rw [State.tickUrgent_weightOf hl hB, ← Option.isSome_iff_exists, claimWeight_isSome]
    exact workable
  have ordered : w.tote ∈ toteOrder s.tickUrgent.demand.lines := by
    have : hasWorkable s.tickUrgent.demand.lines s.tickUrgent.puts w.tote = true := by
      rw [← claimWeight_isSome _ _ s.tickUrgent.clock]
      exact Option.isSome_iff_exists.mpr ⟨W, hW⟩
    obtain ⟨l, hl, hT, -⟩ := hasWorkable_iff.mp this
    exact mem_toteOrder.mpr ⟨l, hl, hT⟩
  have left : w ∈ s.tickUrgent.demand.wants := by
    rw [s.tickUrgent_wants]
    exact List.mem_filter.mpr ⟨hm, by simp [hB]⟩
  have nodup : (s.tickUrgent.demand.wants.map WantRec.tote).Nodup := by
    rw [s.tickUrgent_wants]
    exact hw.1.sublist (List.filter_sublist.map _)
  have due : s.tickUrgent.wantDue w.tote =
      if 128 ≤ |(W : Int) - (w.weight : Int)| ∨ s.conf.refreshPeriod ≤ elapsed s.tick.clock w.time
      then some W else none := by
    have cast : (128 ≤ max W w.weight - min W w.weight) ↔ 128 ≤ |(W : Int) - (w.weight : Int)| := by
      rw [abs_sub_cast]
      omega
    rw [State.wantDue, wantOf_of_nodup nodup left, Option.bind_some, hW, Option.bind_some,
      State.refreshDue, s.tickUrgent_conf, s.tickUrgent_clock, s.tick_clock]
    simp only [cast, decide_eq_true_eq]
  have wants : s.tick.demand.wants = s.tickChecked.demand.wants := by
    rw [(State.tick_end_frame h).demand_eq (by simp)]
  refine ⟨W, by rw [State.tick_weightOf h, hW], fun hd => ?_, fun hchange hperiod => ?_⟩
  · rw [if_pos hd] at due
    obtain ⟨announced, queued⟩ := State.checkAll_due (toteOrder_nodup _) ordered left due
    refine ⟨?_, fun htx hr => ?_⟩
    · rw [wants, s.tick_clock, ← s.tickUrgent_clock]
      exact announced
    · have sent := queued (tickKeys s) (fun T _ => State.tick_check_key hw)
        (State.tickUrgent_room hw hr) (by rwa [s.tickUrgent_requests.tx])
      rw [s.tickUrgent_requests.ownStation] at sent
      exact State.tick_keeps_wantDrop h hw hr sent rfl
  · rw [if_neg (by omega)] at due
    refine ⟨?_, fun f hf hT ⟨v, hv⟩ => ?_⟩
    · rw [wants]
      exact State.checkAll_not_due (toteOrder_nodup _) left due
    · have key : frameKey f = .wantDrop w.tote := by
        rw [frameKey_eq_requestKey, hT, hv]
        rfl
      rcases (State.tick_end_requests h).new f hf with hf | e | ⟨U, -, e⟩
      · rcases s.tickChecked_requests.new f hf with hf | ⟨T, -, e, hdue⟩
        · rcases s.tickUrgent_requests.new f hf with hf | ⟨u, -, e, breached⟩
          · exact hf
          · rw [key] at e
            rw [← TxKey.wantDrop.inj e, hB] at breached
            cases breached
        · rw [key] at e
          rw [← TxKey.wantDrop.inj e] at hdue
          exact absurd due hdue
      · rw [key] at e
        cases e
      · rw [key] at e
        cases e

/-! ### The obligation -/

/-- The counts of a tick in a configured mode, in the words of O14. -/
theorem State.tick_counts {s : State} (h : s.mode ≠ .unconfigured) :
    (∀ i : StationNo,
      s.tick.board.stations[i] =
        if s.board.stations[i].heard = false then s.board.stations[i]
        else if s.conf.stale ≤ s.board.stations[i].age + 1 then
          { heard := false, able := false, age := s.conf.stale }
        else { s.board.stations[i] with age := s.board.stations[i].age + 1 }) ∧
    s.tick.board.entries =
      (s.board.entries.map fun e => { e with age := e.age + 1 }).filter
        (fun e => decide (e.age < s.conf.stale)) ∧
    s.tick.board.crowded = s.board.crowded ∧
    s.tick.board.refreshCount =
      (if s.conf.refreshPeriod ≤ s.board.refreshCount + 1 then 0
        else s.board.refreshCount + 1) := by
  rw [State.tick_board h]
  refine ⟨fun i => ?_, rfl, rfl, rfl⟩
  rw [Fin.getElem_fin, getElem_mapVec, ageStation_eq]
  rfl

theorem exec_oneSecondTick (s : State) : exec .oneSecondTick s = .next s.tick := rfl

/-- Settles O14: the tick is followed from stage to stage. What the Cold Monitor notices is read off the
lane's records before the tick, each tote's record being found first of its tote by `OwnLaneLaw`, and the
later stages leave it; a frame requested on the way is still queued at the end, as a tick has no more keys
to request than `HasRoom` leaves room for. -/
theorem tickCountsTheSecond : Obligations.TickCountsTheSecond := by
  intro s
  refine ⟨s.tick, exec_oneSecondTick s, s.tick_frame, s.tick_clock, s.tick_tracker,
    fun h => ?_, fun h => ?_, fun h own hl hw => ?_⟩
  · rw [State.tick_unconfigured h]
    exact s.advanceClock_frame
  · obtain ⟨stations, entries, crowded, count⟩ := State.tick_counts h
    exact ⟨stations, entries, crowded, count, State.tick_facts h,
      fun q hf hq => State.tick_releasing h hf hq⟩
  · intro rem watched alerts breaches urgent
    have alertsEq : alerts = alertsNow s.conf (s.clock + 1) :=
      funext fun q => Bool.eq_iff_iff.mpr (decide_eq_true_iff.trans (alertsNow_iff _ _ q).symm)
    have breachesEq : breaches = breachesNow s.conf (s.clock + 1) :=
      funext fun q => Bool.eq_iff_iff.mpr (decide_eq_true_iff.trans (breachesNow_iff _ _ q).symm)
    rw [alertsEq, breachesEq]
    obtain ⟨alertRaised, breachRaised⟩ := own.tick_raised h
    refine ⟨fun q hq => own.tick_record h hq, alertRaised, breachRaised, fun q hq hB => ?_,
      fun q a rest l hp hmode hjam hf hq hpark hqueue hcalm ha hn hm hs =>
        own.tick_preempts h hp hmode hjam hf hq hpark hqueue hcalm ha hn hm hs,
      fun w hm => ?_, fun w hm hn => State.tick_checks h hl hw hm (own.tickBreaches_false hn)⟩
    · rw [← own.tickBreaches_eq hq] at hB
      refine ⟨fun l hm hT ho => State.tick_holds h hl (by rwa [hT]) hm ho, fun w hm hT htx hr => ?_,
        fun w hm hT => ?_, fun hp hf ⟨p, hpq, hT⟩ => ?_⟩
      · rw [← hT]
        exact State.tick_drops h hw hm (by rwa [hT]) htx hr
      · obtain ⟨v, -, -, notBreached⟩ := State.tick_want h hm
        rw [hT, hB] at notBreached
        cases notBreached
      · exact State.tick_releases h hp hf hpq (by rwa [hT])
    · obtain ⟨v, hv, hT, -⟩ := State.tick_want h hm
      exact ⟨v, hv, hT⟩

end Sys2Proof.Machine
end

section
/-! PROOFS. The configured modes and the open states as the commands of the Demand Table read them (R17,
R157), and CLOSE_ORDER (R22). -/

namespace Sys2Proof.Machine

/-! ### What the commands go by -/

theorem State.whenConfigured_unconfigured {s : State} (h : s.mode = .unconfigured) (code : Byte)
    (effect : State → State) : s.whenConfigured code effect = s.reply code .notConfigured := by
  have : s.configured = false := by rw [Bool.eq_false_iff, ne_eq, s.configured_iff]; simpa using h
  rw [State.whenConfigured, this]
  rfl

theorem State.whenConfigured_configured {s : State} (h : s.mode ≠ .unconfigured) (code : Byte)
    (effect : State → State) : s.whenConfigured code effect = effect s := by
  rw [State.whenConfigured, s.configured_iff.mpr h]
  rfl

theorem LineState.isOpen_iff (x : LineState) :
    x.isOpen = true ↔ x = .waiting ∨ x = .active ∨ x = .suspended ∨ x = .held := by
  cases x <;> decide

theorem LineState.isOpen_eq_false_iff (x : LineState) :
    x.isOpen = false ↔ x = .done ∨ x = .short ∨ x = .cancelled := by
  cases x <;> decide

/-! ### CLOSE_ORDER (R22) -/

/-- The lines of the handle removed, in the words of the statements. -/
theorem State.dropLines_eq (s : State) (h : Handle) :
    s.dropLines h = { s with
      demand := { s.demand with
        lines := s.demand.lines.filter fun l => decide (l.handle ≠ h) } } := by
  have test : (fun l : Line => l.handle != h) = fun l => decide (l.handle ≠ h) := by
    funext l
    by_cases e : l.handle = h <;> simp [e]
  rw [State.dropLines, test]
  rfl

section
variable {s : State} {h : Handle} {k : PutIdx} (configured : s.mode ≠ .unconfigured)
include configured

theorem State.closeOrder_of_open (hk : positionOf s.puts h = some k)
    (ho : ∃ l ∈ s.demand.lines, l.handle = h ∧ l.state.isOpen = true) :
    s.closeOrder h = s.reply 7 .orderOpenLines := by
  rw [State.closeOrder, State.whenConfigured_configured configured, hk]
  exact if_pos (by simpa using ho)

theorem State.closeOrder_of_closed (hk : positionOf s.puts h = some k)
    (hc : ∀ l ∈ s.demand.lines, l.handle = h → l.state.isOpen = false) :
    s.closeOrder h =
      ({ s.dropLines h with puts := s.puts.set k none } : State).reply 7 .accepted := by
  rw [State.closeOrder, State.whenConfigured_configured configured, hk]
  exact if_neg (by simpa using hc)

theorem State.closeOrder_of_unplaced (hk : positionOf s.puts h = none)
    (hl : ∃ l ∈ s.demand.lines, l.handle = h) :
    s.closeOrder h = (s.dropLines h).reply 7 .accepted := by
  rw [State.closeOrder, State.whenConfigured_configured configured, hk]
  exact if_pos (by simpa using hl)

theorem State.closeOrder_of_unknown (hk : positionOf s.puts h = none)
    (hn : ∀ l ∈ s.demand.lines, l.handle ≠ h) : s.closeOrder h = s.reply 7 .unknownOrder := by
  rw [State.closeOrder, State.whenConfigured_configured configured, hk]
  exact if_neg (by simpa using hn)

end

theorem exec_closeOrder (h : Handle) (s : State) :
    exec (.closeOrder h) s = .next (s.closeOrder h) := rfl

/-- Settles O24: one equation of CLOSE_ORDER for each case of R22. -/
theorem closeOrder : Obligations.CloseOrder := by
  intro h s
  rw [exec_closeOrder]
  refine ⟨fun unconfigured => ?_, fun configured => ⟨fun k hk => ⟨fun ho => ?_, fun hc => ?_⟩,
    fun hk => ⟨fun hl => ?_, fun hn => ?_⟩⟩⟩
  · rw [State.closeOrder, State.whenConfigured_unconfigured unconfigured]
    rfl
  · rw [State.closeOrder_of_open configured hk (by simpa only [LineState.isOpen_iff] using ho)]
    rfl
  · rw [State.closeOrder_of_closed configured hk
      (by simpa only [LineState.isOpen_eq_false_iff] using hc), State.dropLines_eq]
    rfl
  · rw [State.closeOrder_of_unplaced configured hk hl, State.dropLines_eq]
    rfl
  · rw [State.closeOrder_of_unknown configured hk hn]
    rfl

end Sys2Proof.Machine
end

section
/-! PROOFS. What follows a change of a line (R29, R34, R48): the want record, the ready flag and the urgent
flags of one tote; the room in the queue, and what the end of an event goes by. -/

namespace Sys2Proof.Machine

/-! ### The want record (R29) -/

theorem State.deriveWant_lines (s : State) (T : ToteNo) :
    (s.deriveWant T).demand.lines = s.demand.lines := by
  unfold State.deriveWant
  split
  · rw [(State.request_frame _ _ _).demand_eq (by simp)]
    rfl
  · rw [(State.request_frame _ _ _).demand_eq (by simp)]
    rfl
  · exact s.checkWant_lines T
  · rfl

/-- A tote that becomes wanted gets its record, and WANT is requested. -/
theorem State.deriveWant_of_fresh {s : State} {T : ToteNo} {W : Nat} (hw : s.wantOf T = none)
    (hW : s.weightOf T = some W) :
    s.deriveWant T =
      (s.withWants (s.demand.wants ++ [{ tote := T, weight := W, time := s.clock }])).request T
        (.want (BitVec.ofNat 16 W)) := by
  simp [State.deriveWant, hw, hW]

/-- A tote that stays wanted has its announcement check. -/
theorem State.deriveWant_of_wanted {s : State} {T : ToteNo} {w : WantRec} {W : Nat}
    (hw : s.wantOf T = some w) (hW : s.weightOf T = some W) : s.deriveWant T = s.checkWant T := by
  simp [State.deriveWant, hw, hW]

theorem State.deriveWant_of_unwanted {s : State} {T : ToteNo} (hw : s.wantOf T = none)
    (hW : s.weightOf T = none) : s.deriveWant T = s := by
  simp [State.deriveWant, hw, hW]

theorem WantsLaw.wantOf_eq_none {s : State} (h : WantsLaw s) {T : ToteNo}
    (hT : hasWorkable s.demand.lines s.puts T = false) : s.wantOf T = none := by
  refine List.find?_eq_none.mpr fun w hw e => ?_
  have workable := (h.2 T).mp ⟨w, hw, by simpa using e⟩
  rw [hT] at workable
  cases workable

theorem State.deriveWant_requests (s : State) (T : ToteNo) :
    Requests (· = .wantDrop T) s (s.deriveWant T) := by
  unfold State.deriveWant
  split
  · exact ((s.withWants_frame _).requests (by simp)).trans (State.request_requests _ T (.want _))
  · exact ((s.withWants_frame _).requests (by simp)).trans (State.request_requests _ T .drop)
  · exact (s.checkWant_requests T).mono fun k h => h.1
  · exact .refl _ _

/-- A want record's check in the words of the statements: the weight announced, where one is. -/
theorem State.wantDue_eq {s : State} {w : WantRec} {W : Nat}
    (nodup : (s.demand.wants.map WantRec.tote).Nodup) (hw : w ∈ s.demand.wants)
    (hW : s.weightOf w.tote = some W) :
    s.wantDue w.tote =
      if 128 ≤ |(W : Int) - (w.weight : Int)| ∨ s.conf.refreshPeriod ≤ elapsed s.clock w.time
      then some W else none := by
  have cast : (128 ≤ max W w.weight - min W w.weight) ↔ 128 ≤ |(W : Int) - (w.weight : Int)| := by
    rw [abs_sub_cast]
    omega
  rw [State.wantDue, wantOf_of_nodup nodup hw, Option.bind_some, hW, Option.bind_some,
    State.refreshDue]
  simp only [cast, decide_eq_true_eq]

/-! ### The ready flag (R34) -/

theorem State.reready_of_unplaced {s : State} {x : Handle} (h : isPlaced s.puts x = false) :
    s.reready x = s := by
  have none : positionOf s.puts x = none := by simpa [isPlaced] using h
  simp [State.reready, none]

theorem orderReady_of_open {ls : List Line} {l : Line} (hl : l ∈ ls) (ho : l.state.isOpen = true) :
    orderReady ls l.handle = false := by
  have kept : l ∈ ls.filter fun m => m.handle == l.handle := List.mem_filter.mpr ⟨hl, by simp⟩
  rw [orderReady, Bool.and_eq_false_iff]
  exact .inr (List.all_eq_false.mpr ⟨l, kept, by simp [ho]⟩)

/-- An open line clears its order's ready flag, and nothing is raised. -/
theorem State.reready_of_open {s : State} {l : Line} {k : PutIdx} {o : Order}
    (hl : l ∈ s.demand.lines) (isOpen : l.state.isOpen = true)
    (hk : positionOf s.puts l.handle = some k) (ho : s.puts[k] = some o) :
    s.reready l.handle = { s with puts := s.puts.set k (some { o with ready := false }) } := by
  simp only [State.reready, hk, ho, orderReady_of_open hl isOpen, Bool.false_and]
  rfl

/-! ### The urgent flags of some totes (R48) -/

/-- The flags of these totes re-evaluated, before any check. -/
def State.flaggedWhere (s : State) (p : ToteNo → Bool) : State :=
  s.updRecs fun q => if p q.tote then s.urgentMark q else q

theorem State.reurgent_parks (s : State) (p : ToteNo → Bool) :
    Parks (s.flaggedWhere p) (s.reurgent p) := by
  unfold State.reurgent
  dsimp only
  split
  · exact (s.flaggedWhere p).headTurnedUrgent_parks
  · exact .refl _

theorem State.reurgent_wants (s : State) (p : ToteNo → Bool) :
    (s.reurgent p).demand.wants = s.demand.wants := (s.reurgent_parks p).wants

theorem State.reurgent_facts (s : State) (p : ToteNo → Bool) :
    lineFacts (s.reurgent p).demand.lines = lineFacts s.demand.lines := (s.reurgent_parks p).facts

/-- A park suspends one line, which is ACTIVE where no two lines have one tag, and so no workable one. -/
theorem State.reurgent_weightOf {s : State} (h : (s.demand.lines.map Line.tag).Nodup)
    (p : ToteNo → Bool) (T : ToteNo) : (s.reurgent p).weightOf T = s.weightOf T := by
  obtain ⟨f, lines, hf⟩ := (s.reurgent_parks p).lines h
  have frame := s.reurgent_frame p
  have workable : workableOf (s.reurgent p).demand.lines s.puts T =
      workableOf s.demand.lines s.puts T := by
    rw [lines]
    refine workableOf_map (.refl _) fun l hm => (hf l hm).imp_right fun ⟨ha, e⟩ => ?_
    exact ⟨fun _ => by simp [ha], fun _ => by simp [e]⟩
  rw [State.weightOf, frame.puts_eq (by simp), frame.clock_eq (by simp)]
  exact claimWeight_congr (.refl _) workable _

/-! ### Room in the queue (R57) -/

theorem RoomFor.of_length {L : List TxKey} {s : State}
    (h : s.bus.queue.length + L.length ≤ 16) : RoomFor L s := by
  have := List.length_filter_le (fun k => s.bus.queue.all fun g => frameKey g != k) L
  unfold RoomFor
  omega

/-! ### What the end of an event goes by (R111, R125, R147) -/

theorem SameExcept.outputsLaw {bs : List Block} {s t : State} (h : SameExcept bs s t)
    (lane : Block.lane ∉ bs) (mode : Block.modeCtl ∉ bs) (o : OutputsLaw s) : OutputsLaw t := by
  unfold OutputsLaw State.isBlocked State.accounted State.mode at *
  rw [h.lane_eq lane, h.modeCtl_eq mode]
  exact o

theorem SameExcept.ableNow_eq {bs : List Block} {s t : State} (h : SameExcept bs s t)
    (cfg : Block.cfg ∉ bs) (divert : Block.divert ∉ bs) (lane : Block.lane ∉ bs)
    (mode : Block.modeCtl ∉ bs) : t.ableNow = s.ableNow := by
  unfold State.ableNow State.mode State.queueRecords State.conf
  rw [h.cfg_eq cfg, h.divert_eq divert, h.lane_eq lane, h.modeCtl_eq mode]

end Sys2Proof.Machine
end

section
/-! PROOFS. LOAD_LINE (R18, R20): its fields, its answers, and the stages of an accepted line. -/

namespace Sys2Proof.Machine

/-! ### The fields of the command (R18, check 1) -/

theorem classOfCode_eq_none_iff (b : Byte) : classOfCode b = none ↔ 2 < b.toNat := by
  unfold classOfCode
  split
  · next h => simp [h]
  · next h => simp [h]
  · next h => simp [h]
  · next h0 h1 h2 =>
    have : b.toNat ≠ 0 ∧ b.toNat ≠ 1 ∧ b.toNat ≠ 2 := ⟨h0, h1, h2⟩
    exact ⟨fun _ => by omega, fun _ => rfl⟩

theorem priorityOfCode_eq_none_iff (b : Byte) : priorityOfCode b = none ↔ 1 < b.toNat := by
  unfold priorityOfCode
  split
  · next h => simp [h]
  · next h => simp [h]
  · next h0 h1 =>
    have : b.toNat ≠ 0 ∧ b.toNat ≠ 1 := ⟨h0, h1⟩
    exact ⟨fun _ => by omega, fun _ => rfl⟩

theorem classOfCode_classCode (c : TempClass) : classOfCode (classCode c) = some c := by
  cases c <;> rfl

theorem priorityOfCode_priorityCode (p : Priority) : priorityOfCode (priorityCode p) = some p := by
  cases p <;> rfl

theorem lineOfFields_eq_none_iff (r : Record) (tag : Tag) (tote : ToteNo) (handle : Handle)
    (cls qty prio : Byte) :
    lineOfFields r tag tote handle cls qty prio = none ↔
      tag = 0 ∨ isProduct r tote = false ∨ handle = 0 ∨ 2 < cls.toNat ∨ qty.toNat = 0 ∨
        99 < qty.toNat ∨ 1 < prio.toNat := by
  rw [← classOfCode_eq_none_iff, ← priorityOfCode_eq_none_iff]
  unfold lineOfFields
  cases classOfCode cls with
  | none => simp
  | some c =>
    cases priorityOfCode prio with
    | none => simp
    | some p =>
      have low : qty.toNat = 0 ↔ ¬ 1 ≤ qty.toNat := by omega
      have high : 99 < qty.toNat ↔ ¬ qty.toNat ≤ 99 := by omega
      simp only [ite_eq_right_iff, reduceCtorEq, imp_false, false_or, or_false, low, high,
        not_and_or, not_not, ne_eq, Bool.not_eq_true]

theorem lineOfFields_of_valid {r : Record} {tag : Tag} {tote : ToteNo} {handle : Handle} {qty : Nat}
    (htag : tag ≠ 0) (htote : isProduct r tote = true) (hhandle : handle ≠ 0) (hlow : 1 ≤ qty)
    (hhigh : qty ≤ 99) (cls : TempClass) (prio : Priority) :
    lineOfFields r tag tote handle (classCode cls) (BitVec.ofNat 8 qty) (priorityCode prio) =
      some { tag := tag, tote := tote, handle := handle, cls := cls, qty := qty, puts := 0,
             prio := prio, state := .waiting } := by
  have value : (BitVec.ofNat 8 qty).toNat = qty := by
    rw [BitVec.toNat_ofNat]
    omega
  rw [lineOfFields, classOfCode_classCode, priorityOfCode_priorityCode]
  simp only [value]
  exact if_pos ⟨htag, htote, hhandle, hlow, hhigh⟩

/-! ### The answers of the command (R18) -/

section
variable {s : State} {tag : Tag} {tote : ToteNo} {handle : Handle} {cls qty prio : Byte} {l : Line}
  (configured : s.mode ≠ .unconfigured)
include configured

theorem State.loadLine_of_badValue
    (h : lineOfFields s.conf tag tote handle cls qty prio = none) :
    s.loadLine tag tote handle cls qty prio = s.reply 4 .badValue := by
  rw [State.loadLine, State.whenConfigured_configured configured, h]

variable (fields : lineOfFields s.conf tag tote handle cls qty prio = some l)
include fields

theorem State.loadLine_of_duplicate (h : ∃ m ∈ s.demand.lines, m.tag = tag) :
    s.loadLine tag tote handle cls qty prio = s.reply 4 .duplicateTag := by
  rw [State.loadLine, State.whenConfigured_configured configured, fields]
  exact if_pos (by simpa using h)

variable (fresh : ∀ m ∈ s.demand.lines, m.tag ≠ tag)
include fresh

theorem State.loadLine_of_full (h : 128 ≤ s.demand.lines.length) :
    s.loadLine tag tote handle cls qty prio = s.reply 4 .tableFull := by
  rw [State.loadLine, State.whenConfigured_configured configured, fields]
  exact (if_neg (by simpa using fresh)).trans (if_pos h)

theorem State.loadLine_of_room (h : s.demand.lines.length < 128) :
    s.loadLine tag tote handle cls qty prio = (s.addLine l).reply 4 .accepted := by
  rw [State.loadLine, State.whenConfigured_configured configured, fields]
  exact (if_neg (by simpa using fresh)).trans (if_neg (by omega))

end

/-! ### The stages of an accepted line (log 24) -/

/-- The line is held, and PUT_MISS raised where R20 has it. -/
def State.withNewLine (s : State) (l : Line) : State :=
  if s.putMiss l.handle then
    (s.withLines (s.demand.lines ++ [l])).raise .putMiss (l.handle.setWidth 32)
  else s.withLines (s.demand.lines ++ [l])

/-- An accepted line up to the urgent flags. -/
def State.lineAdded (s : State) (l : Line) : State :=
  ((s.withNewLine l).deriveWant l.tote).reready l.handle

theorem State.addLine_eq (s : State) (l : Line) :
    s.addLine l = ((s.lineAdded l).reurgent (· == l.tote)).settleLane := rfl

theorem State.withNewLine_frame (s : State) (l : Line) :
    SameExcept [.demand, .notices] s (s.withNewLine l) := by
  have held := s.withLines_frame (s.demand.lines ++ [l])
  unfold State.withNewLine
  split
  · exact held.step (State.raise_frame _ _ _) (by simp) (by simp)
  · exact held.mono (by simp)

theorem State.withNewLine_demand (s : State) (l : Line) :
    (s.withNewLine l).demand = { s.demand with lines := s.demand.lines ++ [l] } := by
  unfold State.withNewLine
  split <;> rfl

theorem WantsLaw.wantOf_withNewLine {s : State} {l : Line} (law : WantsLaw s)
    (idle : hasWorkable s.demand.lines s.puts l.tote = false) :
    (s.withNewLine l).wantOf l.tote = none := by
  rw [State.wantOf, s.withNewLine_demand]
  exact law.wantOf_eq_none idle

theorem State.lineAdded_frame (s : State) (l : Line) :
    SameExcept [.demand, .puts, .bus, .notices] s (s.lineAdded l) :=
  ((s.withNewLine_frame l).trans (State.deriveWant_frame _ _)).step (State.reready_frame _ _)
    (by simp) (by simp)

theorem State.lineAdded_demand (s : State) (l : Line) :
    (s.lineAdded l).demand = ((s.withNewLine l).deriveWant l.tote).demand :=
  (State.reready_frame _ _).demand_eq (by simp)

theorem State.lineAdded_lines (s : State) (l : Line) :
    (s.lineAdded l).demand.lines = s.demand.lines ++ [l] := by
  rw [s.lineAdded_demand, State.deriveWant_lines, s.withNewLine_demand]

theorem State.lineAdded_weightOf (s : State) (l : Line) (T : ToteNo) :
    (s.lineAdded l).weightOf T = (s.withNewLine l).weightOf T := by
  have orders := ((s.withNewLine l).deriveWant l.tote).reready_orders l.handle
  rw [(State.deriveWant_frame _ _).puts_eq (by simp)] at orders
  have clock : (s.lineAdded l).clock = (s.withNewLine l).clock := by
    rw [(s.lineAdded_frame l).clock_eq (by simp), (s.withNewLine_frame l).clock_eq (by simp)]
  rw [State.weightOf, clock, s.lineAdded_lines]
  refine claimWeight_congr orders ?_ _
  rw [s.withNewLine_demand, workableOf, workableOf]
  simp only [isWorkable, orders.isPlaced_eq]

theorem State.withNewLine_room {s : State} (h : s.bus.queue.length < 15) (l : Line) :
    RoomFor [.wantDrop l.tote, .state] (s.withNewLine l) := by
  refine .of_length ?_
  rw [(s.withNewLine_frame l).bus_eq (by simp), List.length_cons, List.length_singleton]
  omega

end Sys2Proof.Machine
end

section
/-! PROOFS. What an accepted LOAD_LINE brings: the table, the order, the tote's want record, PUT_MISS (R18,
R20, R29, R34, R40). -/

namespace Sys2Proof.Machine

/-! ### Every accepted line -/

theorem State.addLine_frame (s : State) (l : Line) :
    SameExcept ([.demand, .puts, .picker] ++ settleBlocks) s (s.addLine l) :=
  ((s.lineAdded_frame l).trans (State.reurgent_frame _ _)).step (State.settleLane_frame _)
    (by simp [settleBlocks]) (by simp [settleBlocks])

/-- The end of the event after the urgent flags leaves the table as the flags leave it. -/
theorem State.addLine_demand (s : State) (l : Line) :
    (s.addLine l).demand = ((s.lineAdded l).reurgent (· == l.tote)).demand :=
  (State.settleLane_frame _).demand_eq (by simp)

/-- The line stands after the others, and no line changes but in its state (R18). -/
theorem State.addLine_facts (s : State) (l : Line) :
    lineFacts (s.addLine l).demand.lines =
      lineFacts s.demand.lines ++ [{ l with state := .waiting }] := by
  rw [s.addLine_demand, State.reurgent_facts, s.lineAdded_lines]
  simp [lineFacts]

theorem State.addLine_wants (s : State) (l : Line) :
    (s.addLine l).demand.wants = ((s.withNewLine l).deriveWant l.tote).demand.wants := by
  rw [s.addLine_demand, State.reurgent_wants, s.lineAdded_demand]

/-- The order of a placed handle is not ready (R34). -/
theorem State.addLine_puts {s : State} {l : Line} {k : PutIdx} {o : Order}
    (isOpen : l.state.isOpen = true) (hk : positionOf s.puts l.handle = some k)
    (ho : s.puts[k] = some o) :
    (s.addLine l).puts = s.puts.set k (some { o with ready := false }) := by
  have puts : ((s.withNewLine l).deriveWant l.tote).puts = s.puts := by
    rw [(State.deriveWant_frame _ _).puts_eq (by simp), (s.withNewLine_frame l).puts_eq (by simp)]
  have held : l ∈ ((s.withNewLine l).deriveWant l.tote).demand.lines := by
    rw [State.deriveWant_lines, s.withNewLine_demand]
    simp
  rw [s.addLine_eq, (State.settleLane_frame _).puts_eq (by simp),
    (State.reurgent_frame _ _).puts_eq (by simp), State.lineAdded,
    State.reready_of_open held isOpen (puts ▸ hk) (puts ▸ ho), puts]

/-- After the want record an accepted line requests at most STATE. -/
theorem State.addLine_requests (s : State) (l : Line) :
    Requests (· = .state) ((s.withNewLine l).deriveWant l.tote) (s.addLine l) :=
  ((State.reready_frame _ _).requests (by simp)).trans
    (((State.reurgent_frame _ _).requests (by simp)).trans (State.settleLane_requests _))

/-- What the want record requested is queued at the end of the event too. -/
theorem State.addLine_queued {s : State} {l : Line} {f : Frame} (hr : s.bus.queue.length < 15)
    (hk : frameKey f = .wantDrop l.tote)
    (hf : f ∈ ((s.withNewLine l).deriveWant l.tote).bus.queue) :
    f ∈ (s.addLine l).bus.queue := by
  have room : RoomFor [.wantDrop l.tote, .state] ((s.withNewLine l).deriveWant l.tote) :=
    (State.deriveWant_requests _ _).room _ (by simp) (State.withNewLine_room hr l)
  exact (s.addLine_requests l).kept _ (by simp) room f hf (by simp [hk])

/-! ### A line of a tote outside the lane -/

section
variable {s : State} {l : Line} (away : s.inOwnLane l.tote = false)
include away

theorem State.addLine_of_away : s.addLine l = (s.lineAdded l).settleLane := by
  have : (s.lineAdded l).inOwnLane l.tote = false := by
    rw [State.inOwnLane, (s.lineAdded_frame l).divert_eq (by simp),
      (s.lineAdded_frame l).lane_eq (by simp)]
    exact away
  rw [s.addLine_eq, State.reurgent_of_absent this]

/-- No line changes, no record of the lane, and no light (R18). -/
theorem State.addLine_lines_of_away :
    (s.addLine l).demand.lines = s.demand.lines ++ [l] ∧
    (s.addLine l).lane.queue = s.lane.queue ∧ (s.addLine l).lane.faceRec = s.lane.faceRec ∧
    (s.addLine l).lane.parkRec = s.lane.parkRec ∧ (s.addLine l).picker = s.picker := by
  obtain ⟨d, ss, lane⟩ := (s.lineAdded l).settleLane_lane
  rw [(s.lineAdded_frame l).lane_eq (by simp)] at lane
  rw [State.addLine_of_away away, (State.settleLane_frame _).demand_eq (by simp),
    (State.settleLane_frame _).picker_eq (by simp), (s.lineAdded_frame l).picker_eq (by simp), lane]
  exact ⟨s.lineAdded_lines l, rfl, rfl, rfl, rfl⟩

theorem State.addLine_weightOf_of_away (T : ToteNo) :
    (s.addLine l).weightOf T = (s.withNewLine l).weightOf T := by
  have frame := (s.lineAdded l).settleLane_frame
  rw [← s.lineAdded_weightOf, State.addLine_of_away away, State.weightOf,
    frame.demand_eq (by simp), frame.puts_eq (by simp), frame.clock_eq (by simp)]
  rfl

/-- The want record of a tote that had none is made, and WANT requested at its weight (R29, R40). -/
theorem State.addLine_of_unwanted {W : Nat} (law : WantsLaw s)
    (idle : hasWorkable s.demand.lines s.puts l.tote = false)
    (weight : (s.addLine l).weightOf l.tote = some W) :
    (s.addLine l).demand.wants =
      s.demand.wants ++ [{ tote := l.tote, weight := W, time := s.clock }] ∧
    (s.bus.tx = .on → s.bus.queue.length < 15 →
      { sender := s.bus.ownStation.getD 0, tote := l.tote, body := .want (BitVec.ofNat 16 W) } ∈
        (s.addLine l).bus.queue) := by
  have derived := State.deriveWant_of_fresh (law.wantOf_withNewLine idle)
    ((State.addLine_weightOf_of_away away l.tote).symm.trans weight)
  have frame := s.withNewLine_frame l
  refine ⟨?_, fun on room => State.addLine_queued room rfl ?_⟩
  · rw [s.addLine_wants, derived, (State.request_frame _ _ _).demand_eq (by simp),
      s.withNewLine_demand, frame.clock_eq (by simp)]
    rfl
  · have bus := frame.bus_eq (by simp)
    rw [derived, ← bus]
    exact State.request_queued (s := (s.withNewLine l).withWants _) (bus ▸ on) (List.mem_cons_self)
      (State.withNewLine_room room l)

/-- A line of an unplaced handle brings nothing but what R20 names. -/
theorem State.addLine_of_unplaced (unplaced : isPlaced s.puts l.handle = false)
    (outputs : OutputsLaw s) (able : AbleLaw s) (law : WantsLaw s)
    (idle : hasWorkable s.demand.lines s.puts l.tote = false) : s.addLine l = s.withNewLine l := by
  have frame := s.withNewLine_frame l
  have weightless : (s.withNewLine l).weightOf l.tote = none := by
    rw [State.weightOf, ← Option.not_isSome_iff_eq_none, claimWeight_isSome, hasWorkable_iff,
      s.withNewLine_demand, frame.puts_eq (by simp)]
    rintro ⟨m, hm, hT, hs, hm'⟩
    rcases List.mem_append.mp hm with hm | hm
    · rw [hasWorkable_iff.mpr ⟨m, hm, hT, hs, hm'⟩] at idle
      cases idle
    · rw [List.mem_singleton.mp hm, unplaced] at hm'
      cases hm'
  have settled : (s.withNewLine l).settleLane = s.withNewLine l := by
    refine State.settleLane_of_law (frame.outputsLaw (by simp) (by simp) outputs) ?_
    rw [frame.modeCtl_eq (by simp),
      frame.ableNow_eq (by simp) (by simp) (by simp) (by simp)]
    exact able.1
  rw [State.addLine_of_away away, State.lineAdded,
    State.deriveWant_of_unwanted (law.wantOf_withNewLine idle) weightless, State.reready_of_unplaced, settled]
  rwa [frame.puts_eq (by simp)]

end

/-! ### PUT_MISS (R20) -/

section
variable {s : State} {l : Line}

theorem State.withNewLine_raises (unplaced : isPlaced s.puts l.handle = false)
    (first : ∀ m ∈ s.demand.lines, m.handle ≠ l.handle) :
    RaisedOnce .putMiss (l.handle.setWidth 32) s (s.withNewLine l) := by
  have miss : s.putMiss l.handle = true := by simpa [State.putMiss, unplaced] using first
  rw [State.withNewLine, if_pos miss]
  exact (s.withLines (s.demand.lines ++ [l])).raise_once _ _

theorem State.withNewLine_quiet (later : ∃ m ∈ s.demand.lines, m.handle = l.handle) :
    (s.withNewLine l).notices = s.notices := by
  have miss : s.putMiss l.handle = false := by
    have held : (s.demand.lines.any fun m => m.handle == l.handle) = true := by simpa using later
    simp [State.putMiss, held]
  rw [State.withNewLine, miss]
  rfl

end

/-! ### The announcement check of a wanted tote (R40, R42) -/

/-- With no two lines of one tag, the weight at the end of the event is that which the check saw. -/
theorem State.addLine_weightOf {s : State} {l : Line}
    (tags : ((s.demand.lines ++ [l]).map Line.tag).Nodup) (T : ToteNo) :
    (s.addLine l).weightOf T = (s.withNewLine l).weightOf T := by
  have frame := ((s.lineAdded l).reurgent (· == l.tote)).settleLane_frame
  rw [← s.lineAdded_lines] at tags
  rw [← s.lineAdded_weightOf, ← State.reurgent_weightOf tags, s.addLine_eq, State.weightOf,
    frame.demand_eq (by simp), frame.puts_eq (by simp), frame.clock_eq (by simp)]
  rfl

/-- A tote that was wanted has its record checked at the weight that the new line leaves (R40, R42),
where no two lines have one tag (R18). -/
theorem State.addLine_checked {s : State} {l : Line} {w : WantRec} (law : WantsLaw s)
    (tags : ((s.demand.lines ++ [l]).map Line.tag).Nodup) (hw : w ∈ s.demand.wants)
    (hT : w.tote = l.tote) : Checked w s (s.addLine l) := by
  have frame := s.withNewLine_frame l
  have wants : (s.withNewLine l).demand.wants = s.demand.wants := by rw [s.withNewLine_demand]
  have workable := (law.2 w.tote).mp ⟨w, hw, rfl⟩
  obtain ⟨m, hm, hmT, hms, hmp⟩ := hasWorkable_iff.mp workable
  obtain ⟨W, hW⟩ : ∃ W, (s.withNewLine l).weightOf w.tote = some W := by
    rw [← Option.isSome_iff_exists, State.weightOf, claimWeight_isSome, hasWorkable_iff,
      s.withNewLine_demand, frame.puts_eq (by simp)]
    exact ⟨m, List.mem_append_left _ hm, hmT, hms, hmp⟩
  have kept : w ∈ (s.withNewLine l).demand.wants := wants ▸ hw
  have nodup : ((s.withNewLine l).demand.wants.map WantRec.tote).Nodup := wants ▸ law.1
  have derived : (s.withNewLine l).deriveWant l.tote = (s.withNewLine l).checkAll [w.tote] := by
    rw [← hT]
    exact State.deriveWant_of_wanted (wantOf_of_nodup nodup kept) hW
  have due := State.wantDue_eq nodup kept hW
  have clock : (s.addLine l).clock = (s.withNewLine l).clock := by
    rw [(s.addLine_frame l).clock_eq (by simp [settleBlocks]), frame.clock_eq (by simp)]
  have conf : (s.withNewLine l).conf = s.conf := by rw [State.conf, frame.cfg_eq (by simp)]; rfl
  have bus := frame.bus_eq (by simp)
  refine ⟨W, by rw [State.addLine_weightOf tags, hW], fun change => ?_, fun near recent => ?_⟩
  · rw [conf, ← clock, if_pos change] at due
    obtain ⟨announced, queued⟩ := State.checkAll_due (Ts := [w.tote]) (by simp) (by simp) kept due
    rw [← derived] at announced queued
    refine ⟨by rwa [s.addLine_wants, clock], fun on room => ?_⟩
    have lines := List.length_pos_of_mem hm
    have free : s.bus.queue.length < 15 := by
      unfold HasRoom at room
      omega
    refine State.addLine_queued free (by rw [← hT]; rfl) ?_
    rw [← bus]
    exact queued _ (by simp [hT]) (State.withNewLine_room free l) (bus ▸ on)
  · rw [conf, ← clock, if_neg (by omega)] at due
    refine ⟨?_, fun f hf hfT ⟨v, hv⟩ => ?_⟩
    · rw [s.addLine_wants, derived]
      exact State.checkAll_not_due (by simp) kept due
    · have key : frameKey f = .wantDrop w.tote := by
        rw [frameKey_eq_requestKey, hfT, hv]
        rfl
      rcases (s.addLine_requests l).new f hf with old | state
      · rw [derived] at old
        rcases ((s.withNewLine l).checkWant_requests w.tote).new f old with old | ⟨-, requested⟩
        · exact bus ▸ old
        · exact absurd due requested
      · rw [key] at state
        cases state

end Sys2Proof.Machine
end

section
/-! PROOFS. LOAD_LINE: what holds of it in every state, and a state in which the want record of its tote is
not checked at the weight that the line leaves. -/

namespace Sys2Proof.Machine

/-! ### The command -/

/-- R18's refusals, in its order. -/
theorem exec_loadLine_refused (tag : Tag) (tote : ToteNo) (handle : Handle) (cls qty prio : Byte)
    {s : State} (configured : s.mode ≠ .unconfigured) :
    let bad := tag = 0 ∨ isProduct s.conf tote = false ∨ handle = 0 ∨ 2 < cls.toNat ∨
      qty.toNat = 0 ∨ 99 < qty.toNat ∨ 1 < prio.toNat
    let answer := exec (.loadLine tag tote handle cls qty prio) s
    (bad → answer = .next (s.answered [4, 12, 240])) ∧
    (¬ bad → (∃ l ∈ s.demand.lines, l.tag = tag) → answer = .next (s.answered [4, 6, 246])) ∧
    (¬ bad → (∀ l ∈ s.demand.lines, l.tag ≠ tag) → 128 ≤ s.demand.lines.length →
      answer = .next (s.answered [4, 5, 247])) := by
  intro bad answer
  have fields := lineOfFields_eq_none_iff s.conf tag tote handle cls qty prio
  have good (h : ¬ bad) : ∃ l, lineOfFields s.conf tag tote handle cls qty prio = some l :=
    Option.ne_none_iff_exists'.mp fun none => h (fields.mp none)
  refine ⟨fun h => ?_, fun h held => ?_, fun h fresh full => ?_⟩
  · exact congrArg Host.Outcome.next (State.loadLine_of_badValue configured (fields.mpr h))
  · obtain ⟨l, hl⟩ := good h
    exact congrArg Host.Outcome.next (State.loadLine_of_duplicate configured hl held)
  · obtain ⟨l, hl⟩ := good h
    exact congrArg Host.Outcome.next (State.loadLine_of_full configured hl fresh full)

/-- What an accepted LOAD_LINE of the line `l` brings between `s` and `t` (R18, R20, R29, R34, R40, R42), in
the clauses of O21. -/
structure LineLoaded (l : Line) (s t : State) : Prop where
  frame : SameExcept ([.demand, .puts, .picker] ++ settleBlocks) s t
  facts : lineFacts t.demand.lines = lineFacts s.demand.lines ++ [l]
  away : s.inOwnLane l.tote = false →
    t.demand.lines = s.demand.lines ++ [l] ∧ t.lane.queue = s.lane.queue ∧
    t.lane.faceRec = s.lane.faceRec ∧ t.lane.parkRec = s.lane.parkRec ∧ t.picker = s.picker
  unplaced : isPlaced s.puts l.handle = false → s.inOwnLane l.tote = false → OutputsLaw s →
    AbleLaw s → WantsLaw s → hasWorkable s.demand.lines s.puts l.tote = false →
    t.puts = s.puts ∧ t.demand.wants = s.demand.wants ∧ t.bus = s.bus ∧ t.lane = s.lane ∧
    ((∀ m ∈ s.demand.lines, m.handle ≠ l.handle) →
      RaisedOnce .putMiss (l.handle.setWidth 32) s t) ∧
    ((∃ m ∈ s.demand.lines, m.handle = l.handle) → t.notices = s.notices)
  ready : ∀ k o, positionOf s.puts l.handle = some k → s.puts[k] = some o →
    t.puts = s.puts.set k (some { o with ready := false })
  unwanted : ∀ W, WantsLaw s → hasWorkable s.demand.lines s.puts l.tote = false →
    s.inOwnLane l.tote = false → t.weightOf l.tote = some W →
    t.demand.wants = s.demand.wants ++ [{ tote := l.tote, weight := W, time := s.clock }] ∧
    (s.bus.tx = .on → s.bus.queue.length < 15 →
      { sender := s.bus.ownStation.getD 0, tote := l.tote, body := .want (BitVec.ofNat 16 W) } ∈
        t.bus.queue)
  wanted : (s.demand.lines.map Line.tag).Nodup → WantsLaw s →
    ∀ w ∈ s.demand.wants, w.tote = l.tote → Checked w s t

/-- Every clause but the last holds in every state, and the last where no two lines have one tag. -/
theorem State.addLine_loaded {s : State} {l : Line} (waiting : l.state = .waiting)
    (fresh : ∀ m ∈ s.demand.lines, m.tag ≠ l.tag) :
    LineLoaded l s (s.addLine l) where
  frame := s.addLine_frame l
  facts := by
    have same : { l with state := .waiting } = l := by rw [← waiting]
    rw [s.addLine_facts l, same]
  away h := State.addLine_lines_of_away h
  unplaced hp h outputs able law idle := by
    have frame := s.withNewLine_frame l
    rw [State.addLine_of_unplaced h hp outputs able law idle]
    exact ⟨frame.puts_eq (by simp), by rw [s.withNewLine_demand],
      frame.bus_eq (by simp), frame.lane_eq (by simp), State.withNewLine_raises hp,
      State.withNewLine_quiet⟩
  ready k o hk ho := State.addLine_puts (by rw [waiting]; rfl) hk ho
  unwanted W law idle h weight := State.addLine_of_unwanted h law idle weight
  wanted tags law w hw hT := by
    refine State.addLine_checked law ?_ hw hT
    rw [List.map_append, List.nodup_append]
    refine ⟨tags, List.nodup_singleton _, ?_⟩
    simpa using fresh

/-- An accepted LOAD_LINE holds the line, and its reply changes the link alone. -/
theorem exec_loadLine_accepted {tag : Tag} {tote : ToteNo} {handle : Handle} {cls : TempClass}
    {qty : Nat} {prio : Priority} {s : State} (configured : s.mode ≠ .unconfigured) (htag : tag ≠ 0)
    (htote : isProduct s.conf tote = true) (hhandle : handle ≠ 0) (hlow : 1 ≤ qty) (hhigh : qty ≤ 99)
    (fresh : ∀ l ∈ s.demand.lines, l.tag ≠ tag) (room : s.demand.lines.length < 128) :
    ∃ t, exec (.loadLine tag tote handle (classCode cls) (BitVec.ofNat 8 qty) (priorityCode prio))
        s = .next (t.reply 4 .accepted) ∧
      LineLoaded { tag, tote, handle, cls, qty, puts := 0, prio, state := .waiting } s t :=
  ⟨_, congrArg Host.Outcome.next (State.loadLine_of_room configured
    (lineOfFields_of_valid htag htote hhandle hlow hhigh cls prio) fresh room),
    State.addLine_loaded rfl fresh⟩

/-! ### Two lines of one tag -/

/-- ACTIVE, configured with the fields' defaults, at bench time 10,000: tote 61204 is presented with an
ACTIVE line of tag 40 that has taken no put, and tote 40117, whose one line is workable at weight 3659 and
has the tag 40 too, waits at the queue's head. -/
def twoLinesOneTag : State :=
  { State.reset with
    cfg := some (recordOf
      { station := 5, loopLen := 6000, pR := 1500, pM := 4200, c := 0, wWin := 0, divertReach := 0,
        w := 0, lapLimit := 0, chilledBudget := 0, frozenBudget := 0, alert := 0, stale := 0, g := 0,
        urgentSlack := 0, lockRun := 0, attemptLimit := 0, missLimit := 0, moveTime := 0,
        mergeWait := 0, settle := 0 })
    clock := 10000
    bus := { Bus.reset with ownStation := some 5, rxOn := true, tx := .on }
    modeCtl := { mode := .active, sweepReturn := .active, able := true }
    puts := (putsReset.set 2 (some { handle := 501, deadline := 10500, ready := false })).set 8
      (some { handle := 610, deadline := 20000, ready := false })
    demand :=
      { lines := [
          { tag := 40, tote := 61204, handle := 610, cls := .ambient, qty := 5, puts := 0,
            prio := .normal, state := .active },
          { tag := 40, tote := 40117, handle := 501, cls := .ambient, qty := 2, puts := 0,
            prio := .normal, state := .waiting }]
        wants := [{ tote := 40117, weight := 3659, time := 10000 }] }
    lane := { Lane.reset with
      queue := [newLaneRec 40117 .ambient (.unknown 10000) 0]
      face := .presenting
      faceRec := some { newLaneRec 61204 .ambient (.unknown 10000) 0 with stage := .face } }
    picker := { Picker.reset with
      active := some 8, toteLight := true, display := some 5, putLight := some 8 } }

theorem twoLinesOneTag_wants : WantsLaw twoLinesOneTag := by
  have placed : isPlaced twoLinesOneTag.puts 501 = true := by decide
  refine ⟨by decide, fun T => ?_⟩
  rw [hasWorkable_iff]
  constructor
  · rintro ⟨w, hw, rfl⟩
    obtain rfl := List.mem_singleton.mp hw
    exact ⟨_, .tail _ (.head _), rfl, rfl, placed⟩
  · rintro ⟨l, hl, hT, waiting, -⟩
    rcases List.mem_cons.mp hl with rfl | hl
    · cases waiting
    · obtain rfl := List.mem_singleton.mp hl
      exact ⟨_, .head _, hT⟩

/-- An EXPRESS line of the tote at the head, its order's deadline 500 seconds ahead: 4747 is announced, the
head turns urgent, and the presented tote is parked. The park suspends every line of tag 40 and leaves the
weight at 4683. -/
theorem twoLinesOneTag_loaded :
    let t := twoLinesOneTag.loadLine 41 40117 501 0 1 1
    t.weightOf 40117 = some 4683 ∧
      t.demand.wants = [{ tote := 40117, weight := 4747, time := 10000 }] := by
  decide

/-- Refutes O21: its last clause, the check of a wanted tote's record, does not ask that no two lines have
one tag. A park suspends the lines of the ACTIVE line's tag; where a workable line of the loaded tote has
that tag too, the weight falls after it was announced. With distinct tags, as R18 keeps them, the clause
holds, and the others hold in every state (`exec_loadLine_refused`, `exec_loadLine_accepted`). -/
theorem not_loadLine : ¬ Obligations.LoadLine := by
  rintro ⟨-, accepted⟩
  obtain ⟨t, ht, -, -, -, -, -, -, -, checked⟩ := accepted 41 40117 501 .ambient 1 .express
    twoLinesOneTag (by decide) (by decide) (by decide) (by decide) (by decide) (by decide)
    (by decide) (by decide)
  obtain rfl := Host.Outcome.next.inj ht
  obtain ⟨weight, wants⟩ := twoLinesOneTag_loaded
  obtain ⟨W, hW, announced, -⟩ := checked twoLinesOneTag_wants _ List.mem_cons_self rfl
  obtain rfl : W = 4683 := Option.some.inj (hW.symm.trans weight)
  have stored : (_ : WantRec) ∈ (twoLinesOneTag.loadLine 41 40117 501 0 1 1).demand.wants :=
    (announced (.inl (by decide))).1
  rw [wants] at stored
  simp at stored

end Sys2Proof.Machine
end

section
/-! PROOFS. The receive path (R58 to R60) of an accepted frame, and what STATE and DROP do to the Station Table
and the Interest Board (R66, R70). -/

namespace Sys2Proof.Machine

/-! ### The receive path (R58 to R60) -/

/-- A frame from another station with good values is accepted once the line is idle. -/
theorem State.receiveWith_accepted {s : State} {f : Frame} (accept : State → State)
    (hrx : s.bus.rxOn = true) (hown : s.bus.ownStation ≠ some f.sender)
    (hok : frameValuesOk s.conf f = true) : s.receiveWith f accept = accept s.lineIdled := by
  simp [State.receiveWith, hrx, hown, hok, State.frameOver_eq]

@[simp] theorem State.lineIdled_board (s : State) : s.lineIdled.board = s.board := rfl

theorem exec_stateFrame_accepted {x : StationNo} {able : Byte} {s : State}
    (hrx : s.bus.rxOn = true) (hown : s.bus.ownStation ≠ some x) (hable : able.toNat ≤ 1) :
    exec (.stateFrame x 0 able) s = .next (s.lineIdled.acceptState x able) :=
  congrArg _ (State.receiveWith_accepted _ hrx hown (by simp [frameValuesOk, hable]))

theorem exec_dropFrame_accepted {x : StationNo} {T : ToteNo} {s : State} (hrx : s.bus.rxOn = true)
    (hown : s.bus.ownStation ≠ some x) (hT : isProduct s.conf T = true) :
    exec (.dropFrame x T) s = .next (s.lineIdled.acceptDrop x T) :=
  congrArg _ (State.receiveWith_accepted (f := ⟨x, T, .drop⟩) _ hrx hown hT)

/-! ### STATE on the Station Table (R66) -/

theorem State.acceptState_frame (s : State) (x : StationNo) (able : Byte) :
    SameExcept [.board] s (s.acceptState x able) := by
  simp [SameExcept, State.acceptState]

theorem State.acceptState_station_same (s : State) (x : StationNo) (able : Byte) :
    (s.acceptState x able).board.stations[x] =
      { heard := true, able := decide (able = 1), age := 0 } :=
  Vector.getElem_set_self x.isLt

theorem State.acceptState_station_other (s : State) (able : Byte) {x y : StationNo} (h : y ≠ x) :
    (s.acceptState x able).board.stations[y] = s.board.stations[y] :=
  Vector.getElem_set_ne x.isLt y.isLt fun e => h (Fin.ext e).symm

/-! ### DROP on the Interest Board (R70) -/

theorem isEntry_iff {x : StationNo} {T : ToteNo} {e : InterestEntry} :
    isEntry x T e = true ↔ e.station = x ∧ e.tote = T := by
  simp [isEntry]

/-- The pair's entry stays where it is holding, without its weight, and goes where it is not. -/
theorem mem_boardDrop {b : Board} {x : StationNo} {T : ToteNo} {e : InterestEntry} :
    e ∈ (boardDrop b x T).entries ↔
      (e ∈ b.entries ∧ ¬ (e.station = x ∧ e.tote = T)) ∨
      ∃ o ∈ b.entries, o.station = x ∧ o.tote = T ∧ o.holding = true ∧
        e = { o with weight := none } := by
  simp only [boardDrop, List.mem_map, List.mem_filter]
  constructor
  · rintro ⟨o, ⟨ho, kept⟩, rfl⟩
    by_cases pair : isEntry x T o = true
    · have holding : o.holding = true := by simpa [pair] using kept
      obtain ⟨station, tote⟩ := isEntry_iff.mp pair
      exact .inr ⟨o, ho, station, tote, holding, if_pos pair⟩
    · rw [if_neg pair]
      exact .inl ⟨ho, mt isEntry_iff.mpr pair⟩
  · rintro (⟨he, other⟩ | ⟨o, ho, station, tote, holding, rfl⟩)
    · have pair : ¬ isEntry x T e = true := mt isEntry_iff.mp other
      exact ⟨e, ⟨he, by simp [pair]⟩, if_neg pair⟩
    · exact ⟨o, ⟨ho, by simp [holding]⟩, if_pos (isEntry_iff.mpr ⟨station, tote⟩)⟩

/-- A DROP of a pair without an entry does nothing. -/
theorem boardDrop_of_absent {b : Board} {x : StationNo} {T : ToteNo}
    (absent : ∀ o ∈ b.entries, ¬ (o.station = x ∧ o.tote = T)) : boardDrop b x T = b := by
  have other : ∀ o ∈ b.entries, isEntry x T o = false := fun o ho =>
    Bool.eq_false_iff.mpr (mt isEntry_iff.mp (absent o ho))
  have kept : (b.entries.filter fun e => !(isEntry x T e && !e.holding)) = b.entries :=
    List.filter_eq_self.mpr fun o ho => by simp [other o ho]
  have same : (b.entries.map fun e => if isEntry x T e then { e with weight := none } else e) =
      b.entries :=
    (List.map_congr_left fun o ho => by simp [other o ho]).trans (List.map_id _)
  simp only [boardDrop, kept, same]

theorem State.acceptDrop_frame (s : State) (x : StationNo) (T : ToteNo) :
    SameExcept [.board] s (s.acceptDrop x T) := by
  simp [SameExcept, State.acceptDrop]

/-! ### The obligation -/

/-- Settles O37: the frame is accepted once the line is idle, STATE by the rules of the Station Table, DROP by
`mem_boardDrop` and `boardDrop_of_absent`. -/
theorem stateAndDropFrames : Obligations.StateAndDropFrames := by
  refine ⟨fun x able s hrx hown hable => ?_, fun x T s hrx hown hT => ?_⟩
  · exact ⟨_, exec_stateFrame_accepted hrx hown hable, State.acceptState_frame _ x able,
      State.acceptState_station_same _ x able,
      fun y hy => State.acceptState_station_other _ able hy, rfl, rfl, rfl⟩
  · exact ⟨_, exec_dropFrame_accepted hrx hown hT, State.acceptDrop_frame _ x T, rfl, rfl, rfl,
      fun e => mem_boardDrop, boardDrop_of_absent⟩

end Sys2Proof.Machine
end

section
/-! PROOFS. What a divert timeout goes by beside its record: the class and the cold used figure of the RELEASE
(R30, R46, R104), a request that finds room (R55), the place in an empty list of expected arrivals (R79), the
tests at the end of the event (R147, R151). -/

namespace Sys2Proof.Machine

/-! ### The class of a divert record (R30, R104) -/

theorem mem_open_classes {ls : List Line} {T : ToteNo} {c : TempClass} :
    c ∈ (ls.filter fun l => l.tote == T && l.state.isOpen).map Line.cls ↔
      ∃ l, (l ∈ ls ∧ l.tote = T ∧
        (l.state = .waiting ∨ l.state = .active ∨ l.state = .suspended ∨ l.state = .held)) ∧
        l.cls = c := by
  simp only [List.mem_map, List.mem_filter, Bool.and_eq_true, beq_iff_eq, LineState.isOpen_iff]

theorem classFromLines_spec (s : State) (T : ToteNo) :
    ClassFromLines s T (classFromLines s.demand.lines T) := by
  have hmem (c : TempClass) := mem_open_classes (ls := s.demand.lines) (T := T) (c := c)
  unfold ClassFromLines classFromLines
  dsimp only
  generalize (s.demand.lines.filter fun l => l.tote == T && l.state.isOpen).map Line.cls = cs at hmem
  have ambient : (∀ l, (l ∈ s.demand.lines ∧ l.tote = T ∧
      (l.state = .waiting ∨ l.state = .active ∨ l.state = .suspended ∨ l.state = .held)) →
        l.cls = .ambient) ↔ .frozen ∉ cs ∧ .chilled ∉ cs := by
    rw [hmem, hmem]
    constructor
    · exact fun h => ⟨fun ⟨l, hl, e⟩ => by simp [h l hl] at e,
        fun ⟨l, hl, e⟩ => by simp [h l hl] at e⟩
    · rintro ⟨frozen, chilled⟩ l hl
      cases e : l.cls with
      | ambient => rfl
      | chilled => exact absurd ⟨l, hl, e⟩ chilled
      | frozen => exact absurd ⟨l, hl, e⟩ frozen
  rw [ambient, ← hmem]
  by_cases hf : .frozen ∈ cs <;> by_cases hc : .chilled ∈ cs <;> simp [hf, hc]

theorem divertClass_spec (s : State) (d : DivertRec) :
    ClassOfDivert s d (divertClass s.demand.lines d) := by
  unfold ClassOfDivert divertClass
  cases d.entry with
  | none => exact ⟨by simp, fun _ => classFromLines_spec s d.tote⟩
  | some p =>
    cases known : p.cold.isKnown with
    | true => simp [known]
    | false => simp [known, classFromLines_spec]

/-! ### The cold used figure (R46) -/

theorem releaseColdUsed_known (r : Record) (c : TempClass) (used : Nat) (time t : Clock) :
    (releaseColdUsed r c (.known used time) t).toNat = min 65535 (used + elapsed t time) := by
  simp only [releaseColdUsed, ColdRef.isKnown, Bool.true_or, if_true, coldUsed, BitVec.toNat_ofNat]
  omega

theorem releaseColdUsed_unknown (r : Record) (c : TempClass) (time t : Clock) :
    (releaseColdUsed r c (.unknown time) t).toNat =
      if c = .ambient then 0
      else min 65535 (budget r c - alertMargin r c + elapsed t time) := by
  by_cases h : c = .ambient
  · simp [releaseColdUsed, ColdRef.isKnown, h]
  · have : (c != .ambient) = true := by simpa using h
    simp only [releaseColdUsed, ColdRef.isKnown, this, Bool.or_true, if_true, coldUsed, if_neg h,
      BitVec.toNat_ofNat]
    omega

/-! ### A request that finds room (R55) -/

/-- A queue with room for the frame's key turns no frame away. -/
theorem enqueue_takes {L : List TxKey} {s : State} {f : Frame} (hL : frameKey f ∈ L)
    (hr : RoomFor L s) : (enqueue s.bus.queue f).2 = false := by
  by_cases h : ∃ g ∈ s.bus.queue, frameKey g = frameKey f
  · have : (s.bus.queue.any fun g => frameKey g == frameKey f) = true := by simpa using h
    simp [enqueue, this]
  · have fresh : frameKey f ∈ L.filter fun k => s.bus.queue.all fun g => frameKey g != k := by
      simp only [List.mem_filter, List.all_eq_true, bne_iff_ne]
      exact ⟨hL, fun g hg e => h ⟨g, hg, e⟩⟩
    have pos := List.length_pos_of_mem fresh
    have room : s.bus.queue.length < 16 := by unfold RoomFor at hr; omega
    have : (s.bus.queue.any fun g => frameKey g == frameKey f) = false := by simpa using h
    simp [enqueue, this, room]

theorem State.request_frame_of_room {L : List TxKey} {s : State} {T : ToteNo} {b : FrameBody}
    (hL : requestKey T b ∈ L) (hr : RoomFor L s) : SameExcept [.bus] s (s.request T b) := by
  by_cases on : s.bus.tx = .on
  · have taken := enqueue_takes
      (f := { sender := s.bus.ownStation.getD 0, tote := T, body := b })
      (by rwa [frameKey_eq_requestKey]) hr
    simp only [State.request, if_pos on, taken]
    exact s.withTx_frame _
  · rw [State.request_bus_off on]
    exact .refl _ _

/-! ### The end of the event (R111, R125, R147, R148) -/

theorem State.settleLane_frame_of_room {L : List TxKey} {s : State} (hL : .state ∈ L)
    (hr : RoomFor L s) : SameExcept [.lane, .modeCtl, .bus] s s.settleLane := by
  unfold State.settleLane
  dsimp only
  split
  · exact (s.withLane_frame _).mono (by simp)
  · exact ((s.withLane_frame _).trans (State.withModeCtl_frame _ _)).step
      (State.request_frame_of_room hL hr) (by simp) (by simp)

/-- Where able already follows the state, the end of an event touches the lane alone. -/
theorem State.settleLane_frame_of_able {s : State} (h : s.ableNow = s.modeCtl.able) :
    SameExcept [.lane] s s.settleLane := by
  unfold State.settleLane
  dsimp only
  split
  · exact s.withLane_frame _
  · next differs => exact absurd h differs

theorem State.settleLane_mode (s : State) : s.settleLane.mode = s.mode := by
  unfold State.settleLane State.mode
  dsimp only
  split
  · rfl
  · rw [(State.requestState_frame _).modeCtl_eq (by simp)]
    rfl

/-! ### Draining to REST (R63, R151) -/

theorem State.laneEmpty_iff (s : State) :
    s.laneEmpty = true ↔ s.divert.records = [] ∧ s.lane.queue = [] ∧ s.lane.parkRec = none ∧
      s.lane.face = .empty := by
  simp [State.laneEmpty, and_assoc]

theorem State.drainTest_of_drained {s : State} (hm : s.mode = .draining)
    (he : s.laneEmpty = true) : s.drainTest = s.enterMode .rest := by
  simp [State.drainTest, hm, he]

theorem State.drainTest_of_not_drained {s : State}
    (h : ¬ (s.mode = .draining ∧ s.laneEmpty = true)) : s.drainTest = s := by
  simpa [State.drainTest] using fun hm he => absurd ⟨hm, he⟩ h

theorem busOnMode_queue (b : Bus) (m : BenchMode) : (busOnMode b m).queue = b.queue := by
  cases m <;> unfold busOnMode <;> dsimp only
  split <;> rfl

theorem State.drainTest_queue (s : State) : s.drainTest.bus.queue = s.bus.queue := by
  unfold State.drainTest
  split
  · exact busOnMode_queue _ _
  · rfl

theorem State.enterRest_modeCtl (s : State) :
    (s.enterMode .rest).modeCtl = { s.modeCtl with mode := .rest, able := false } := rfl

theorem State.enterRest_able (s : State) :
    (s.enterMode .rest).ableNow = (s.enterMode .rest).modeCtl.able := rfl

theorem State.enterRest_notices (s : State) :
    (s.enterMode .rest).notices = (s.raise .modeChanged 4).notices := rfl

/-- With frames still to send the transmitter closes first (R63). -/
theorem State.enterRest_tx {s : State} (on : s.bus.tx = .on) (hq : s.bus.queue ≠ []) :
    (s.enterMode .rest).bus.tx = .closing := by
  have waiting : s.bus.queue.isEmpty = false := by simpa using hq
  show (busOnMode s.bus .rest).tx = .closing
  simp [busOnMode, on, waiting]

/-! ### The expected arrival list (R79, R84) -/

theorem reAddEntry_tote (r : Record) (T : ToteNo) (c : Count) (t : Clock) (part : Option EntryPart) :
    (reAddEntry r T c t part).tote = T := by
  unfold reAddEntry
  cases part <;> rfl

/-- The next pass is one lap after the reading (R84). -/
theorem reAddEntry_expected (r : Record) (T : ToteNo) (c : Count) (t : Clock)
    (part : Option EntryPart) :
    (reAddEntry r T c t part).expected = c + BitVec.ofNat 16 r.loopLen := by
  unfold reAddEntry
  cases part <;> rfl

theorem placeEntry_of_none_expected {r : Record} {current : Count} {e : EalEntry} {tr : Tracker}
    (empty : tr.eal = []) (h : isOverdue r current e = false) :
    (placeEntry r current e tr).eal = [e] := by
  simp [placeEntry, empty, h, insertEntry]

/-- The oldest divert record's tote is nowhere else in the own lane, so that its removal takes the tote out
of the lane (R78, R98). -/
theorem OwnLaneLaw.oldest_leaves {s t : State} (own : OwnLaneLaw s) {d : DivertRec}
    {rest : List DivertRec} (hd : s.divert.records = d :: rest) (records : t.divert.records = rest)
    (lane : t.lane = s.lane) : t.inOwnLane d.tote = false := by
  obtain ⟨nodup, nonzero, -⟩ := own
  have stock : d.tote ≠ 0 := nonzero d (by simp [hd])
  have alone : d.tote ∉ ownTotes t := by
    have split : ownTotes s = d.tote :: ownTotes t := by
      simp [ownTotes, hd, records, lane]
    rw [split, List.filter_cons_of_pos (by simpa using stock), List.nodup_cons] at nodup
    exact fun h => nodup.1 (List.mem_filter.mpr ⟨h, by simpa using stock⟩)
  simp only [ownTotes, List.mem_append, not_or, List.mem_map, Option.mem_toList, not_exists,
    not_and] at alone
  obtain ⟨⟨⟨inFlight, queued⟩, face⟩, park⟩ := alone
  simp only [State.inOwnLane, Bool.or_eq_false_iff, List.any_eq_false, Option.any_eq_false,
    beq_iff_eq, beq_eq_false_iff_ne]
  exact ⟨⟨⟨inFlight, queued⟩, face⟩, park⟩

end Sys2Proof.Machine
end

section
/-! PROOFS. A divert timeout (R106) stage by stage, and the obligation O30. -/

namespace Sys2Proof.Machine

/-! ### The stages of a divert timeout -/

/-- The RELEASE that a divert record's timeout requests (R46, R106). -/
def State.divertRelease (s : State) (d : DivertRec) : Announcement :=
  s.releaseFields (divertClass s.demand.lines d) (divertCold d) (divertLaps d) s.conf.pR d.readCount

/-- The timeout up to the RELEASE: the notice raised and the record removed. -/
def State.divertFailed (s : State) (d : DivertRec) (rest : List DivertRec) : State :=
  { s.raise .divertFail d.tote with divert := { s.divert with records := rest } }

/-- The timeout up to the expected arrival: the RELEASE requested. -/
def State.divertReleased (s : State) (d : DivertRec) (rest : List DivertRec) : State :=
  (s.divertFailed d rest).request d.tote (.release (s.divertRelease d))

theorem State.divertFailed_frame (s : State) (d : DivertRec) (rest : List DivertRec) :
    SameExcept [.notices, .divert] s (s.divertFailed d rest) := by
  simp [SameExcept, State.divertFailed, State.raise]

theorem State.divertReleased_frame (s : State) (d : DivertRec) (rest : List DivertRec) :
    SameExcept [.notices, .divert, .bus] s (s.divertReleased d rest) :=
  (s.divertFailed_frame d rest).step (State.request_frame _ _ _) (by simp) (by simp)

theorem State.divertReleased_divert (s : State) (d : DivertRec) (rest : List DivertRec) :
    (s.divertReleased d rest).divert = { s.divert with records := rest } :=
  (State.request_frame _ _ _).divert_eq (by simp)

theorem State.timeOut_eq (s : State) (d : DivertRec) (rest : List DivertRec) :
    s.timeOut d rest = (s.divertReleased d rest).place
      (reAddEntry s.conf d.tote d.readCount d.takeTime d.entry) := by
  have conf : (s.divertReleased d rest).conf = s.conf := by
    rw [State.conf, (s.divertReleased_frame d rest).cfg_eq (by simp)]
    rfl
  rw [← conf]
  rfl

theorem State.timeOut_of_released (s : State) (d : DivertRec) (rest : List DivertRec) :
    SameExcept [.tracker] (s.divertReleased d rest) (s.timeOut d rest) := by
  rw [s.timeOut_eq]
  exact State.place_frame _ _

theorem State.timeOut_frame (s : State) (d : DivertRec) (rest : List DivertRec) :
    SameExcept [.notices, .divert, .bus, .tracker] s (s.timeOut d rest) :=
  (s.divertReleased_frame d rest).step (s.timeOut_of_released d rest) (by simp) (by simp)

theorem State.timeOut_divert (s : State) (d : DivertRec) (rest : List DivertRec) :
    (s.timeOut d rest).divert = { s.divert with records := rest } :=
  ((s.timeOut_of_released d rest).divert_eq (by simp)).trans (s.divertReleased_divert d rest)

theorem State.timeOut_mode (s : State) (d : DivertRec) (rest : List DivertRec) :
    (s.timeOut d rest).mode = s.mode :=
  congrArg ModeCtl.mode ((s.timeOut_frame d rest).modeCtl_eq (by simp))

theorem State.timeOut_laneEmpty_iff (s : State) (d : DivertRec) (rest : List DivertRec) :
    (s.timeOut d rest).laneEmpty = true ↔
      rest = [] ∧ s.lane.queue = [] ∧ s.lane.parkRec = none ∧ s.lane.face = .empty := by
  rw [State.laneEmpty_iff, s.timeOut_divert, (s.timeOut_frame d rest).lane_eq (by simp)]

theorem State.timeOut_eal {s : State} {d : DivertRec} {rest : List DivertRec} (own : OwnLaneLaw s)
    (hd : s.divert.records = d :: rest) (empty : s.tracker.eal = [])
    (h : isOverdue s.conf s.count
      (reAddEntry s.conf d.tote d.readCount d.takeTime d.entry) = false) :
    (s.timeOut d rest).tracker.eal =
      [reAddEntry s.conf d.tote d.readCount d.takeTime d.entry] := by
  have frame := s.divertReleased_frame d rest
  have out := own.oldest_leaves hd (t := s.divertReleased d rest)
    (congrArg Divert.records (s.divertReleased_divert d rest)) (frame.lane_eq (by simp))
  rw [s.timeOut_eq, State.place, reAddEntry_tote, out, State.conf, frame.cfg_eq (by simp),
    frame.count_eq (by simp), frame.tracker_eq (by simp)]
  exact placeEntry_of_none_expected empty h

/-! ### The transmit queue at a timeout -/

/-- The keys that a divert timeout may request: RELEASE of the tote, and STATE where able changes. -/
def timeoutKeys (d : DivertRec) : List TxKey := [.holdRelease d.tote, .state]

section
variable {s : State} (d : DivertRec) (rest : List DivertRec)

theorem State.timeOut_bus : (s.timeOut d rest).bus = (s.divertReleased d rest).bus :=
  (s.timeOut_of_released d rest).bus_eq (by simp)

theorem State.divertFailed_room (h : s.bus.queue.length < 15) :
    RoomFor (timeoutKeys d) (s.divertFailed d rest) :=
  RoomFor.of_length (by
    show s.bus.queue.length + 2 ≤ 16
    omega)

theorem State.timeOut_room (h : s.bus.queue.length < 15) :
    RoomFor (timeoutKeys d) (s.timeOut d rest) :=
  RoomFor.of_bus_eq ((State.request_requests _ _ _).room _ (by rintro k rfl; exact .head _)
    (State.divertFailed_room d rest h)) (State.timeOut_bus d rest)

theorem State.timeOut_releases (on : s.bus.tx = .on) (h : s.bus.queue.length < 15) :
    { sender := s.bus.ownStation.getD 0, tote := d.tote, body := .release (s.divertRelease d) } ∈
      (s.timeOut d rest).bus.queue := by
  rw [State.timeOut_bus]
  exact State.request_queued (s := s.divertFailed d rest) (L := timeoutKeys d) on (.head _)
    (State.divertFailed_room d rest h)

theorem State.timeOut_tx : (s.timeOut d rest).bus.tx = s.bus.tx := by
  rw [State.timeOut_bus]
  exact (State.request_requests _ _ _).tx

theorem State.timeOut_notices (h : s.bus.queue.length < 15) :
    (s.timeOut d rest).notices = (s.raise .divertFail d.tote).notices := by
  rw [(s.timeOut_of_released d rest).notices_eq (by simp)]
  exact (State.request_frame_of_room (L := timeoutKeys d) (.head _)
    (State.divertFailed_room d rest h)).notices_eq (by simp)

end

/-! ### The event with its end -/

/-- A divert timeout with what follows it: the test that ends a drain and the end of the event. -/
def State.timedOut (s : State) (d : DivertRec) (rest : List DivertRec) : State :=
  (s.timeOut d rest).drainTest.settleLane

theorem exec_divertTimeout {s : State} (configured : s.mode ≠ .unconfigured) :
    exec .divertTimeout s = .next s.divertStep.drainTest.settleLane := by
  show execDivertTimeout s = _
  rw [execDivertTimeout, if_pos (s.configured_iff.mpr configured)]

section
variable {s : State} {d : DivertRec} {rest : List DivertRec}

theorem exec_divertTimeout_not_due (configured : s.mode ≠ .unconfigured)
    (hd : s.divert.records = d :: rest) (outputs : OutputsLaw s) (able : AbleLaw s)
    (h : signed16 (s.count - d.readCount) < (s.conf.divertReach : Int)) :
    exec .divertTimeout s = .next s := by
  have early : reachPassed s.conf s.count d = false := by simpa [reachPassed] using h
  have step : s.divertStep = s := by simp [State.divertStep, hd, early]
  have occupied : ¬ (s.mode = .draining ∧ s.laneEmpty = true) := by
    simp [State.laneEmpty_iff, hd]
  rw [exec_divertTimeout configured, step, State.drainTest_of_not_drained occupied,
    State.settleLane_of_law outputs able.1]

theorem exec_divertTimeout_due (configured : s.mode ≠ .unconfigured)
    (hd : s.divert.records = d :: rest)
    (h : (s.conf.divertReach : Int) ≤ signed16 (s.count - d.readCount)) :
    exec .divertTimeout s = .next (s.timedOut d rest) := by
  have due : reachPassed s.conf s.count d = true := by simpa [reachPassed] using h
  have step : s.divertStep = s.timeOut d rest := by simp [State.divertStep, hd, due]
  rw [exec_divertTimeout configured, step]
  rfl

theorem State.timedOut_of_timeOut (s : State) (d : DivertRec) (rest : List DivertRec) :
    SameExcept settleBlocks (s.timeOut d rest) (s.timedOut d rest) :=
  (State.drainTest_frame _).step (State.settleLane_frame _) (by simp [settleBlocks])
    (by simp [settleBlocks])

theorem State.timedOut_frame (s : State) (d : DivertRec) (rest : List DivertRec) :
    SameExcept (commandBlocks .divertTimeout) s (s.timedOut d rest) :=
  (s.timeOut_frame d rest).step (s.timedOut_of_timeOut d rest)
    (by simp [commandBlocks, settleBlocks]) (by simp [commandBlocks])

theorem State.timedOut_divert (s : State) (d : DivertRec) (rest : List DivertRec) :
    (s.timedOut d rest).divert = { s.divert with records := rest } :=
  ((s.timedOut_of_timeOut d rest).divert_eq (by simp [settleBlocks])).trans (s.timeOut_divert d rest)

theorem State.timedOut_tracker (s : State) (d : DivertRec) (rest : List DivertRec) :
    (s.timedOut d rest).tracker = (s.timeOut d rest).tracker :=
  (s.timedOut_of_timeOut d rest).tracker_eq (by simp [settleBlocks])

/-- The RELEASE outlasts the change to REST and the STATE of the event's end. -/
theorem State.timedOut_releases (on : s.bus.tx = .on) (hq : s.bus.queue.length < 15) :
    { sender := s.bus.ownStation.getD 0, tote := d.tote, body := .release (s.divertRelease d) } ∈
      (s.timedOut d rest).bus.queue := by
  have same := (s.timeOut d rest).drainTest_queue
  have room : RoomFor (timeoutKeys d) (s.timeOut d rest).drainTest := by
    have := State.timeOut_room d rest hq
    unfold RoomFor at *
    rwa [same]
  refine (State.settleLane_requests _).kept (timeoutKeys d) (by rintro k rfl; simp [timeoutKeys])
    room _ ?_ (by simp [frameKey])
  rw [same]
  exact State.timeOut_releases d rest on hq

theorem State.timedOut_stays (hq : s.bus.queue.length < 15)
    (h : s.mode ≠ .draining ∨ rest ≠ [] ∨ s.lane.queue ≠ [] ∨ s.lane.parkRec ≠ none ∨
      s.lane.face ≠ .empty) :
    (s.timedOut d rest).mode = s.mode ∧ RaisedOnce .divertFail d.tote s (s.timedOut d rest) := by
  have stays : ¬ ((s.timeOut d rest).mode = .draining ∧ (s.timeOut d rest).laneEmpty = true) := by
    rw [s.timeOut_mode, s.timeOut_laneEmpty_iff]
    rintro ⟨draining, records, queue, park, face⟩
    simp [draining, records, queue, park, face] at h
  have same : s.timedOut d rest = (s.timeOut d rest).settleLane := by
    rw [State.timedOut, State.drainTest_of_not_drained stays]
  have notices : (s.timedOut d rest).notices = (s.raise .divertFail d.tote).notices := by
    rw [same, (State.settleLane_frame_of_room (L := timeoutKeys d) (.tail _ (.head _))
      (State.timeOut_room d rest hq)).notices_eq (by simp), State.timeOut_notices d rest hq]
  refine ⟨by rw [same, State.settleLane_mode, s.timeOut_mode], ?_⟩
  unfold RaisedOnce
  rw [notices]
  exact s.raise_once _ _

theorem State.timedOut_drains (on : s.bus.tx = .on) (hq : s.bus.queue.length < 15)
    (draining : s.mode = .draining)
    (empty : rest = [] ∧ s.lane.queue = [] ∧ s.lane.parkRec = none ∧ s.lane.face = .empty) :
    let t := s.timedOut d rest
    t.mode = .rest ∧ t.bus.tx = .closing ∧ t.modeCtl.able = false ∧
      t.notices.sources[NoticeSource.divertFail.index].pending = true ∧
      t.notices.sources[NoticeSource.modeChanged.index].pending = true := by
  have same : s.timedOut d rest = ((s.timeOut d rest).enterMode .rest).settleLane := by
    rw [State.timedOut, State.drainTest_of_drained ((s.timeOut_mode d rest).trans draining)
      ((s.timeOut_laneEmpty_iff d rest).mpr empty)]
  have frame := State.settleLane_frame_of_able (s.timeOut d rest).enterRest_able
  have failed : (s.timeOut d rest).notices.sources[NoticeSource.divertFail.index].pending = true := by
    rw [State.timeOut_notices d rest hq]
    exact s.raise_pending _ _
  have waiting : (s.timeOut d rest).bus.queue ≠ [] :=
    List.ne_nil_of_mem (State.timeOut_releases d rest on hq)
  dsimp only
  rw [same, State.mode, frame.modeCtl_eq (by simp), frame.bus_eq (by simp),
    frame.notices_eq (by simp), State.enterRest_notices]
  exact ⟨rfl, State.enterRest_tx ((State.timeOut_tx d rest).trans on) waiting, rfl,
    (State.raise_raisesOnly _ _ _ .divertFail).2 failed, State.raise_pending _ _ _⟩

end

/-! ### The obligation -/

/-- Settles O30: short of its reach the record stays and the end of the event changes nothing; past it the
timeout's stages give the record, the RELEASE and the expected arrival, and the test that ends a drain decides
the mode. -/
theorem divertTimeout : Obligations.DivertTimeout := by
  intro s d rest configured hd on hq outputs able own
  refine ⟨exec_divertTimeout_not_due configured hd outputs able, fun due =>
    ⟨s.timedOut d rest, s.divertRelease d, divertClass s.demand.lines d,
      exec_divertTimeout_due configured hd due, s.timedOut_frame d rest,
      by rw [s.timedOut_divert], by rw [s.timedOut_divert], State.timedOut_releases on hq,
      divertClass_spec s d, rfl, fun used time known => ?_, fun time unknown => ?_, rfl, rfl, rfl,
      fun near empty => ?_, State.timedOut_stays hq,
      fun draining records queue park face =>
        State.timedOut_drains on hq draining ⟨records, queue, park, face⟩⟩⟩
  · have cold : divertCold d = .known used time := by rw [divertCold, known]; rfl
    show (releaseColdUsed s.conf _ (divertCold d) s.clock).toNat = _
    rw [cold, releaseColdUsed_known]
  · show (releaseColdUsed s.conf _ (divertCold d) s.clock).toNat = _
    rw [show divertCold d = .unknown time from unknown, releaseColdUsed_unknown]
  · have current : isOverdue s.conf s.count
        (reAddEntry s.conf d.tote d.readCount d.takeTime d.entry) = false := by
      rw [isOverdue, reAddEntry_expected]
      simpa using near
    rw [s.timedOut_tracker, State.timeOut_eal own hd empty current]
    unfold reAddEntry
    cases d.entry <;> rfl

end Sys2Proof.Machine
end

section
/-! PROOFS. The notice sources by their numbers (R162), ATTN (R163) and the notice commands (R164 to R166). -/

namespace Sys2Proof.Machine

/-! ### Replies (R156) -/

/-- A reply changes the reply slot only. -/
theorem State.reply_eq_answered (s : State) (code : Byte) (status : Status) (fields : List Byte) :
    s.reply code status fields = s.answered (replyFrame code status fields) := rfl

/-! ### Sources and their numbers (R162) -/

theorem allSources_index (i : Fin 19) : allSources[i].index = i := by
  revert i
  decide

theorem NoticeSource.index_surjective : Function.Surjective NoticeSource.index :=
  fun i => ⟨allSources[i], allSources_index i⟩

theorem mem_allSources (n : NoticeSource) : n ∈ allSources := by
  cases n <;> decide

theorem noticeOfNumber_number (n : NoticeSource) :
    noticeOfNumber (BitVec.ofNat 8 n.number) = some n := by
  cases n <;> rfl

/-- The numbers run from 1 to 19. -/
theorem noticeOfNumber_eq_none_iff (b : Byte) :
    noticeOfNumber b = none ↔ b.toNat = 0 ∨ 19 < b.toNat := by
  have numbers : allSources.map NoticeSource.number = List.range' 1 19 := rfl
  have absent : noticeOfNumber b = none ↔ b.toNat ∉ allSources.map NoticeSource.number := by
    simp [noticeOfNumber]
  rw [absent, numbers, List.mem_range'_1]
  omega

/-! ### ATTN (R163) -/

theorem NoticeRec.eligible_iff (q : NoticeRec) :
    q.eligible = true ↔ q.pending = true ∧ q.enable = true := by
  rw [NoticeRec.eligible, Bool.and_eq_true]

theorem attnOf_iff (sources : Vector NoticeRec 19) (floor : Nat) :
    attnOf sources floor = true ↔
      ∃ j : Fin 19, sources[j].pending = true ∧ sources[j].enable = true ∧
        floor < sources[j].level := by
  simp only [attnOf, Vector.any_toList, Vector.any_eq_true, Bool.and_eq_true, NoticeRec.eligible_iff,
    decide_eq_true_iff, and_assoc]
  exact (Fin.exists_iff (p := fun j => sources[j].pending = true ∧ sources[j].enable = true ∧
    floor < sources[j].level)).symm

/-! ### SET_NOTICE, SET_FLOOR and CLEAR_NOTICE (R165, R166) -/

theorem State.changeNotice_same (s : State) (n : NoticeSource) (f : NoticeRec → NoticeRec) :
    (s.changeNotice n f).notices.sources[n.index] = f s.notices.sources[n.index] := by
  simp

theorem State.changeNotice_other (s : State) {n : NoticeSource} (f : NoticeRec → NoticeRec)
    {j : Fin 19} (h : j ≠ n.index) :
    (s.changeNotice n f).notices.sources[j] = s.notices.sources[j] := by
  have : j.val ≠ n.index.val := Fin.val_ne_of_ne h
  simp [this]

/-- What a command that changes one source's record and is accepted leaves, with ATTN as R163 gives it. -/
theorem State.changeNotice_accepted (s : State) (n : NoticeSource) (f : NoticeRec → NoticeRec)
    (code : Byte) :
    let t := (s.changeNotice n f).reply code .accepted
    SameExcept [.notices, .link] s t ∧
    t.link = { s.link with reply := replyFrame code .accepted [] } ∧
    t.notices.sources[n.index] = f s.notices.sources[n.index] ∧
    (∀ j : Fin 19, j ≠ n.index → t.notices.sources[j] = s.notices.sources[j]) ∧
    t.notices.floor = s.notices.floor ∧
    (t.notices.attn = true ↔ ∃ j : Fin 19, t.notices.sources[j].pending = true ∧
      t.notices.sources[j].enable = true ∧ t.notices.floor < t.notices.sources[j].level) :=
  ⟨(s.changeNotice_frame n f).trans (State.reply_frame _ _ _ _), rfl, s.changeNotice_same n f,
    fun _ other => s.changeNotice_other f other, rfl, attnOf_iff _ _⟩

section
variable {s : State} (configured : s.mode ≠ .unconfigured)
include configured

theorem State.setNotice_of_valid (n : NoticeSource) {enable level : Byte} (he : enable.toNat ≤ 1)
    (hl : level.toNat ≤ 7) :
    s.setNotice (BitVec.ofNat 8 n.number) enable level =
      (s.changeNotice n fun q =>
        { q with enable := enable.toNat == 1, level := level.toNat }).reply 13 .accepted := by
  rw [State.setNotice, State.whenConfigured_configured configured, noticeOfNumber_number]
  exact if_pos ⟨he, hl⟩

theorem State.setNotice_of_badValue {source enable level : Byte}
    (bad : source.toNat = 0 ∨ 19 < source.toNat ∨ 1 < enable.toNat ∨ 7 < level.toNat) :
    s.setNotice source enable level = s.reply 13 .badValue := by
  rw [State.setNotice, State.whenConfigured_configured configured]
  cases h : noticeOfNumber source with
  | none => rfl
  | some n =>
    have named : ¬ (source.toNat = 0 ∨ 19 < source.toNat) := by
      rw [← noticeOfNumber_eq_none_iff, h]
      exact Option.some_ne_none n
    exact if_neg (by omega)

theorem State.setFloor_of_valid {floor : Byte} (h : floor.toNat ≤ 7) :
    s.setFloor floor =
      ({ s with notices := workAttn { s.notices with floor := floor.toNat } } : State).reply 14
        .accepted := by
  rw [State.setFloor, State.whenConfigured_configured configured]
  exact if_pos h

theorem State.setFloor_of_badValue {floor : Byte} (h : 7 < floor.toNat) :
    s.setFloor floor = s.reply 14 .badValue := by
  rw [State.setFloor, State.whenConfigured_configured configured]
  exact if_neg (by omega)

theorem State.clearNotice_of_valid (n : NoticeSource) :
    s.clearNotice (BitVec.ofNat 8 n.number) =
      (s.changeNotice n clearNoticeRec).reply 16 .accepted := by
  rw [State.clearNotice, State.whenConfigured_configured configured, noticeOfNumber_number]

theorem State.clearNotice_of_badValue {source : Byte}
    (bad : source.toNat = 0 ∨ 19 < source.toNat) :
    s.clearNotice source = s.reply 16 .badValue := by
  rw [State.clearNotice, State.whenConfigured_configured configured,
    (noticeOfNumber_eq_none_iff source).mpr bad]

end

theorem exec_setNotice (source enable level : Byte) (s : State) :
    exec (.setNotice source enable level) s = .next (s.setNotice source enable level) := rfl

theorem exec_setFloor (floor : Byte) (s : State) :
    exec (.setFloor floor) s = .next (s.setFloor floor) := rfl

theorem exec_clearNotice (source : Byte) (s : State) :
    exec (.clearNotice source) s = .next (s.clearNotice source) := rfl

/-- The enable byte read as a number is the byte itself. -/
theorem enable_byte_eq (b : Byte) : (b.toNat == 1) = decide (b = 1) := by
  rw [Bool.eq_iff_iff, beq_iff_eq, decide_eq_true_iff, BitVec.toNat_eq]
  rfl

/-- Settles O16: each of the three commands by whether its values are good, an accepted one through the change
of one record or of the floor. -/
theorem noticeSettingsAndClear : Obligations.NoticeSettingsAndClear := by
  intro s configured
  refine ⟨fun i enable level he hl => ?_, fun source enable level bad => ?_, fun floor h => ?_,
    fun floor h => ?_, fun i => ?_, fun source bad => ?_⟩
  · obtain ⟨n, rfl⟩ := NoticeSource.index_surjective i
    refine ⟨_, congrArg Host.Outcome.next (State.setNotice_of_valid configured n he hl), ?_⟩
    rw [enable_byte_eq]
    exact s.changeNotice_accepted n _ 13
  · rw [exec_setNotice, State.setNotice_of_badValue configured bad]
    rfl
  · exact ⟨_, congrArg Host.Outcome.next (State.setFloor_of_valid configured h), by simp [SameExcept],
      rfl, rfl, rfl, attnOf_iff _ _⟩
  · rw [exec_setFloor, State.setFloor_of_badValue configured h]
    rfl
  · obtain ⟨n, rfl⟩ := NoticeSource.index_surjective i
    exact ⟨_, congrArg Host.Outcome.next (State.clearNotice_of_valid configured n),
      s.changeNotice_accepted n _ 16⟩
  · rw [exec_clearNotice, State.clearNotice_of_badValue configured bad]
    rfl

/-! ### The choice of READ_NOTICE (R164) -/

/-- `b` is above `a` in the order of READ_NOTICE, or is `a`: a higher level, or the same level and no higher
number. -/
def NotBelow (n : Notices) (b a : NoticeSource) : Prop :=
  (noticeRec n a).level < (noticeRec n b).level ∨
    (noticeRec n a).level = (noticeRec n b).level ∧ b.index ≤ a.index

/-- What READ_NOTICE chooses of the sources in `l`: none where none is eligible, otherwise the eligible one
that no eligible one is above. -/
def ChosenOf (n : Notices) (l : List NoticeSource) : Option NoticeSource → Prop
  | none => ∀ a ∈ l, (noticeRec n a).eligible = false
  | some b => (noticeRec n b).eligible = true ∧ b ∈ l ∧
      ∀ a ∈ l, (noticeRec n a).eligible = true → NotBelow n b a

theorem NotBelow.refl (n : Notices) (a : NoticeSource) : NotBelow n a a := .inr ⟨rfl, le_refl _⟩

theorem NotBelow.antisymm {n : Notices} {a b : NoticeSource} (h : NotBelow n a b)
    (k : NotBelow n b a) : a = b := by
  unfold NotBelow at h k
  exact NoticeSource.index_injective (by omega)

theorem NotBelow.of_level_lt {n : Notices} {a b c : NoticeSource} (h : NotBelow n b a)
    (lt : (noticeRec n b).level < (noticeRec n c).level) : NotBelow n c a := by
  unfold NotBelow at *
  omega

/-- One comparison keeps the choice, where the source compared has the highest number so far. -/
theorem betterSource_chosen {n : Notices} {l : List NoticeSource} {best : Option NoticeSource}
    {c : NoticeSource} (h : ChosenOf n l best) (last : ∀ a ∈ l, a.index < c.index) :
    ChosenOf n (l ++ [c]) (betterSource n best c) := by
  have grown {p : NoticeSource → Prop} (hl : ∀ a ∈ l, p a) (hc : p c) : ∀ a ∈ l ++ [c], p a :=
    List.forall_mem_append.mpr ⟨hl, List.forall_mem_singleton.mpr hc⟩
  unfold betterSource
  split
  · next eligible =>
    cases best with
    | none =>
      refine ⟨eligible, List.mem_append_right _ (List.mem_singleton_self c),
        grown (fun a ha ea => ?_) fun _ => .refl n c⟩
      rw [h a ha] at ea
      contradiction
    | some b =>
      obtain ⟨eb, mem, top⟩ := h
      dsimp only
      split
      · next lt =>
        exact ⟨eligible, List.mem_append_right _ (List.mem_singleton_self c),
          grown (fun a ha ea => (top a ha ea).of_level_lt lt) fun _ => .refl n c⟩
      · next ge =>
        refine ⟨eb, List.mem_append_left _ mem, grown top fun _ => ?_⟩
        have := last b mem
        unfold NotBelow
        omega
  · next ineligible =>
    cases best with
    | none => exact grown h (Bool.eq_false_iff.mpr ineligible)
    | some b =>
      obtain ⟨eb, mem, top⟩ := h
      exact ⟨eb, List.mem_append_left _ mem, grown top fun ec => absurd ec ineligible⟩

theorem foldl_betterSource_chosen (n : Notices) (l : List NoticeSource)
    (ordered : l.Pairwise fun a b => a.index < b.index) :
    ChosenOf n l (l.foldl (betterSource n) none) := by
  induction l using List.reverseRecOn with
  | nil => exact fun a ha => absurd ha List.not_mem_nil
  | append_singleton l c ih =>
    obtain ⟨before, _, last⟩ := List.pairwise_append.mp ordered
    rw [List.foldl_append]
    exact betterSource_chosen (ih before) fun a ha => last a ha c (List.mem_singleton_self c)

theorem chosenSource_chosen (n : Notices) : ChosenOf n allSources (chosenSource n) :=
  foldl_betterSource_chosen n allSources (by decide)

/-- The one eligible source that no eligible one is above is the source chosen. -/
theorem chosenSource_eq_some {n : Notices} {b : NoticeSource}
    (eligible : (noticeRec n b).eligible = true)
    (top : ∀ a, (noticeRec n a).eligible = true → NotBelow n b a) : chosenSource n = some b := by
  have chosen := chosenSource_chosen n
  cases h : chosenSource n with
  | none =>
    rw [h] at chosen
    rw [chosen b (mem_allSources b)] at eligible
    contradiction
  | some c =>
    rw [h] at chosen
    obtain ⟨ec, -, topc⟩ := chosen
    rw [(topc b (mem_allSources b) eligible).antisymm (top c ec)]

theorem chosenSource_eq_none {n : Notices} (h : ∀ a, (noticeRec n a).eligible = false) :
    chosenSource n = none := by
  have chosen := chosenSource_chosen n
  cases hc : chosenSource n with
  | none => rfl
  | some b =>
    rw [hc] at chosen
    obtain ⟨eb, -, -⟩ := chosen
    rw [h b] at eb
    contradiction

theorem exec_readNotice {s : State} (configured : s.mode ≠ .unconfigured) :
    exec .readNotice s = .next (s.answered (replyFrame 15 .accepted (noticeFields s.notices))) :=
  congrArg Host.Outcome.next (State.whenConfigured_configured configured _ _)

/-- Settles O17: the source the statement singles out is the one that the comparisons choose. -/
theorem readNoticeChoosesTheHighest : Obligations.ReadNoticeChoosesTheHighest := by
  intro s configured
  rw [exec_readNotice configured]
  refine ⟨fun i pending enable top => ?_, fun quiet => ?_⟩
  · obtain ⟨b, rfl⟩ := NoticeSource.index_surjective i
    have chosen : chosenSource s.notices = some b :=
      chosenSource_eq_some ((NoticeRec.eligible_iff _).mpr ⟨pending, enable⟩) fun a ea =>
        have ⟨pa, na⟩ := (NoticeRec.eligible_iff _).mp ea
        top a.index pa na
    rw [noticeFields, chosen]
    rfl
  · have chosen : chosenSource s.notices = none :=
      chosenSource_eq_none fun a => Bool.and_eq_false_iff.mpr (quiet a.index)
    rw [noticeFields, chosen]
    rfl

end Sys2Proof.Machine
end

section
/-! PROOFS. READ_STATUS (R158), READ_LINE (R159), READ_TRACK (R94) and READ_CONFIG (R161). -/

namespace Sys2Proof.Machine

/-! ### The Put Map as READ_LINE reads it (R17, R159) -/

theorem mem_allPuts (k : PutIdx) : k ∈ allPuts := by
  revert k
  decide

theorem isPlaced_iff (puts : Vector (Option Order) 16) (h : Handle) :
    isPlaced puts h = true ↔ ∃ k : PutIdx, ∃ o, puts[k] = some o ∧ o.handle = h := by
  simp [isPlaced, positionOf, mem_allPuts, Option.any_eq_true]

/-! ### The reply bytes -/

/-- READ_STATUS's bytes, each of them as R158 lists it. -/
theorem statusReply_eq (s : State) :
    replyFrame 17 .accepted (statusFields s) = withCheckByte
      (([17, 0,
        (match s.mode with
          | .unconfigured => 0 | .sweeping => 1 | .active => 2 | .draining => 3 | .rest => 4),
        (match s.lane.face with
          | .empty => 0 | .arriving => 1 | .presenting => 2 | .parking => 3
          | .releasing => 4 | .leaving => 5),
        BitVec.ofNat 8 (s.divert.records.length + s.lane.queue.length),
        (if s.lane.parkRec.isSome = true then 1 else 0),
        (if s.modeCtl.able = true then 1 else 0),
        (match s.tracker.lock with
          | .seeking => 0 | .confirming => 1 | .locked => 2 | .faulted => 3),
        (if s.tracker.loopStopped = true then 1 else 0),
        (match s.lane.jam with
          | none => 0 | some .entry => 1 | some .head => 2 | some .face => 3
          | some .park => 4 | some .exit => 5),
        (match s.board.crowded, s.tracker.crowded with
          | false, false => 0 | true, false => 1 | false, true => 2 | true, true => 3)] : List Byte) ++
        bytes32 s.clock) := by
  refine congrArg withCheckByte ?_
  simp only [statusFields, List.cons_append, List.nil_append, List.cons.injEq]
  refine ⟨trivial, rfl, ?mode, ?face, rfl, rfl, rfl, ?lock, rfl, ?jam, ?crowded, trivial⟩
  case mode => cases s.mode <;> rfl
  case face => cases s.lane.face <;> rfl
  case lock => cases s.tracker.lock <;> rfl
  case jam =>
    cases s.lane.jam with
    | none => rfl
    | some x => cases x <;> rfl
  case crowded => cases s.board.crowded <;> cases s.tracker.crowded <;> rfl

/-- READ_LINE's bytes, each of them as R159 lists it. -/
theorem lineReply_eq (puts : Vector (Option Order) 16) (l : Line)
    [Decidable (∃ k : PutIdx, ∃ o, puts[k] = some o ∧ o.handle = l.handle)] :
    replyFrame 18 .accepted (lineFields puts l) = withCheckByte
      (([18, 0] : List Byte) ++ bytes16 l.tag ++ bytes32 l.tote ++ bytes16 l.handle ++
        ([(match l.cls with | .ambient => 0 | .chilled => 1 | .frozen => 2),
          BitVec.ofNat 8 l.qty, BitVec.ofNat 8 l.puts,
          (match l.prio with | .normal => 0 | .express => 1),
          (match l.state with
            | .waiting => 1 | .active => 2 | .suspended => 3 | .done => 4 | .short => 5
            | .cancelled => 6 | .held => 7),
          (if (∃ k : PutIdx, ∃ o, puts[k] = some o ∧ o.handle = l.handle) then 1 else 0)] :
          List Byte)) := by
  have state : BitVec.ofNat 8 (lineStateCode l.state) = (match l.state with
      | .waiting => 1 | .active => 2 | .suspended => 3 | .done => 4 | .short => 5
      | .cancelled => 6 | .held => 7) := by
    cases l.state <;> rfl
  have placed : boolCode (isPlaced puts l.handle) =
      if (∃ k : PutIdx, ∃ o, puts[k] = some o ∧ o.handle = l.handle) then 1 else 0 :=
    if_congr (isPlaced_iff puts l.handle) rfl rfl
  rw [lineFields, state, placed]
  rfl

/-- READ_TRACK's bytes, each of them as R161 lists it. -/
theorem trackReply_eq (tr : Tracker) :
    replyFrame 20 .accepted (trackFields tr) = withCheckByte
      (([20, 0,
        (match tr.lock with
          | .seeking => 0 | .confirming => 1 | .locked => 2 | .faulted => 3),
        BitVec.ofNat 8 tr.run, BitVec.ofNat 8 tr.attempts, BitVec.ofNat 8 tr.misses] : List Byte) ++
        bytes16 (BitVec.ofNat 16 tr.speed) ++ bytes16 (BitVec.ofNat 16 tr.maxDev) ++
        [BitVec.ofNat 8 tr.eal.length]) := by
  unfold trackFields
  cases tr.lock <;> rfl

/-! ### The commands -/

theorem exec_readStatus (s : State) : exec .readStatus s = .next s.readStatus := rfl

theorem State.readStatus_frame (s : State) : SameExcept [.board, .tracker, .link] s s.readStatus := by
  simp [SameExcept, State.readStatus]

section
variable {s : State} (configured : s.mode ≠ .unconfigured)
include configured

theorem exec_readLine_of_unknown {tag : Tag} (h : ∀ l ∈ s.demand.lines, l.tag ≠ tag) :
    exec (.readLine tag) s = .next (s.reply 18 .unknownTag) := by
  have absent : s.demand.lines.find? (fun l => l.tag == tag) = none := by simpa using h
  refine congrArg Host.Outcome.next ?_
  rw [State.readLine, State.whenConfigured_configured configured, absent]

theorem exec_readLine_of_held {tag : Tag} {l : Line}
    (h : s.demand.lines.find? (fun l => l.tag == tag) = some l) :
    exec (.readLine tag) s = .next (s.reply 18 .accepted (lineFields s.puts l)) := by
  refine congrArg Host.Outcome.next ?_
  rw [State.readLine, State.whenConfigured_configured configured, h]

theorem exec_readTrack :
    exec .readTrack s = .next (({ s with
      tracker := { s.tracker with maxDev := 0 } } : State).reply 20 .accepted
        (trackFields s.tracker)) :=
  congrArg Host.Outcome.next (State.whenConfigured_configured configured _ _)

theorem exec_readConfig :
    exec .readConfig s = .next (s.reply 21 .accepted
      ((recordFields s.conf).flatMap fun n => bytes16 (BitVec.ofNat 16 n))) :=
  congrArg Host.Outcome.next (State.whenConfigured_configured configured _ _)

end

theorem State.conf_of_cfg {s : State} {r : Record} (h : s.cfg = some r) : s.conf = r := by
  rw [State.conf, h]
  rfl

/-- Settles O19: the reply bytes of each command, with what else it changes. -/
theorem readStatusLineTrackAndConfig : Obligations.ReadStatusLineTrackAndConfig := by
  refine ⟨fun s => ?_, fun s tag configured => ⟨fun unknown => ?_, fun l held => ?_⟩,
    fun s configured => ⟨?_, fun r hr => ?_⟩⟩
  · refine ⟨s.readStatus, exec_readStatus s, s.readStatus_frame, rfl, rfl, ?_⟩
    exact congrArg (fun bytes => { s.link with reply := bytes }) (statusReply_eq s)
  · rw [exec_readLine_of_unknown configured unknown]
    rfl
  · rw [exec_readLine_of_held configured held, State.reply, lineReply_eq]
    rfl
  · exact ⟨_, exec_readTrack configured, by simp [SameExcept], rfl,
      congrArg (fun bytes => { s.link with reply := bytes }) (trackReply_eq s.tracker)⟩
  · refine ⟨(recordFields r).map (BitVec.ofNat 16), rfl, ?_, ?_⟩
    · rw [List.map_map]
      exact List.map_congr_left fun n _ => BitVec.toNat_ofNat n 16
    · rw [exec_readConfig configured, State.conf_of_cfg hr, List.flatMap_map]
      rfl

end Sys2Proof.Machine
end

section
/-! PROOFS. The frame of every command (O2): what each command's row leaves alone, from the frames of the shared
operations. -/

namespace Sys2Proof.Machine

/-! ### Lane events -/

theorem State.sensorLevel_frame (s : State) (x : Sensor) (b : Bool) :
    SameExcept [.lane] s (s.sensorLevel x b) := s.withLane_frame _

/-- A field event touches what its effect does and what the end of an event does. -/
theorem State.fieldEvent_frame {bs : List Block} {effect : State → State}
    (h : ∀ s, SameExcept bs s (effect s)) (s : State) :
    SameExcept (bs ++ settleBlocks) s (s.fieldEvent effect) := by
  unfold State.fieldEvent
  split
  · exact (h s).step (State.settleLane_frame _) (by simp) (by simp [settleBlocks])
  · exact .refl _ _

/-- A change of a sensor and the field event that it is. -/
theorem State.sensorEvent_frame {bs : List Block} {effect : State → State}
    (h : ∀ s, SameExcept bs s (effect s)) (s : State) (x : Sensor) (b : Bool) :
    SameExcept (bs ++ settleBlocks) s ((s.sensorLevel x b).fieldEvent effect) :=
  (s.sensorLevel_frame x b).step (State.fieldEvent_frame h _) (by simp [settleBlocks])
    (List.Subset.refl _)

theorem State.pushRecord_frame (s : State) (q : LaneRec) :
    SameExcept [.lane] s (s.pushRecord q) := s.withLane_frame _

theorem State.newHeadCheck_frame (s : State) :
    SameExcept [.demand, .picker, .lane, .notices] s s.newHeadCheck := by
  unfold State.newHeadCheck
  split
  · exact s.headTurnedUrgent_frame
  · exact .refl _ _

theorem State.complete_frame (s : State) (d : DivertRec) (rest : List DivertRec) :
    SameExcept [.divert, .demand, .picker, .puts, .lane, .bus, .notices] s (s.complete d rest) := by
  have records : SameExcept [.divert] s { s with divert := { s.divert with records := rest } } := by
    simp [SameExcept]
  unfold State.complete
  exact (((((records.trans (State.pushRecord_frame _ _)).trans
    (State.request_frame _ d.tote .hold)).trans (State.coldWork_frame _ d.tote)).trans
    (State.newHeadCheck_frame _)).trans (State.fill_frame _)).mono (by simp)

theorem State.strayEntry_frame (s : State) : SameExcept settleBlocks s s.strayEntry := by
  unfold State.strayEntry
  split
  · dsimp only
    split
    · exact (s.pushRecord_frame _).step (State.enterSweeping_frame _ _) (by simp [settleBlocks])
        (by simp [settleBlocks])
    · exact (s.pushRecord_frame _).step (State.fill_frame _) (by simp [settleBlocks])
        (by simp [settleBlocks])
  · exact (s.jamLane_frame _).mono (by simp [settleBlocks])

theorem State.entryBlocks_frame (s : State) :
    SameExcept (commandBlocks .entrySeen) s s.entryBlocks := by
  refine (State.sensorEvent_frame (bs := [.divert, .demand, .picker, .puts] ++ settleBlocks)
    (fun s => ?_) s .entry true).mono (by simp [commandBlocks, settleBlocks])
  split
  · exact (s.complete_frame _ _).mono (by simp [settleBlocks])
  · exact s.strayEntry_frame.mono (by simp [settleBlocks])

theorem State.headBlocks_frame (s : State) : SameExcept settleBlocks s s.headBlocks :=
  (State.sensorEvent_frame (bs := [.lane])
    (fun s => (s.withLane_frame _).step (State.fill_frame _) (by simp) (by simp)) s .head
    true).mono (by simp [settleBlocks])

theorem State.arrive_frame (s : State) (q : LaneRec) :
    SameExcept [.demand, .bus, .notices, .picker, .lane] s (s.arrive q) := by
  have placed := s.withLane_frame
    { s.lane with
      faceRec := some { q with stage := .face, savedTag := none }
      waits := { s.lane.waits with arrival := none } }
  have shown := placed.trans (State.withLane_frame _
    { (s.withLane { s.lane with
        faceRec := some { q with stage := .face, savedTag := none }
        waits := { s.lane.waits with arrival := none } }).lane with face := .presenting })
  unfold State.arrive
  dsimp only
  split
  · exact placed.step (State.beginRelease_frame _) (by simp) (by simp)
  · split
    · split
      · exact shown.step (State.preemptCheck_frame _) (by simp) (by simp)
      · exact (shown.trans (State.preemptCheck_frame _)).step (State.requestLine_frame _) (by simp)
          (by simp)
    · exact shown.step (State.requestLine_frame _) (by simp) (by simp)

theorem State.faceBlocks_frame (s : State) :
    SameExcept (commandBlocks .faceArrived) s s.faceBlocks := by
  refine (State.sensorEvent_frame (bs := [.demand, .picker] ++ settleBlocks)
    (fun s => ?_) s .face true).mono (by simp [commandBlocks, settleBlocks])
  split
  · exact (s.arrive_frame _).mono (by simp [settleBlocks])
  · split
    · exact s.fill_frame.mono (by simp [settleBlocks])
    · exact .refl _ _

theorem State.parkBlocks_frame (s : State) : SameExcept settleBlocks s s.parkBlocks := by
  refine (State.sensorEvent_frame (bs := [.lane]) (fun s => ?_) s .park true).mono
    (by simp [settleBlocks])
  split
  · exact (s.withLane_frame _).step (State.fill_frame _) (by simp) (by simp)
  · split
    · exact s.fill_frame
    · exact .refl _ _

theorem State.mergeOut_frame (s : State) (q : LaneRec) :
    SameExcept [.tracker, .bus, .notices] s (s.mergeOut q) := by
  unfold State.mergeOut
  split
  · exact .refl _ _
  · exact (s.request_frame _ _).step (State.place_frame _ _) (by simp) (by simp)

theorem State.leaves_frame (s : State) (q : LaneRec) :
    SameExcept (.tracker :: settleBlocks) s (s.leaves q) := by
  have out := (s.withLane_frame
    { s.lane with
      face := .empty
      faceRec := none
      waits := { s.lane.waits with merge := none } }).trans (State.mergeOut_frame _ q)
  exact (((out.trans (State.fill_frame _)).trans (State.drainTest_frame _)).trans
    (State.sweepTest_frame _)).mono (by simp [settleBlocks])

theorem State.exitClears_frame (s : State) :
    SameExcept (commandBlocks .merged) s s.exitClears := by
  refine (State.sensorEvent_frame (bs := .tracker :: settleBlocks) (fun s => ?_) s .exit
    false).mono (by simp [commandBlocks, settleBlocks])
  split
  · exact s.leaves_frame _
  · exact s.sweepTest_frame.mono (by simp [settleBlocks])

theorem State.exitBlocks_frame (s : State) : SameExcept settleBlocks s s.exitBlocks := by
  refine (State.sensorEvent_frame (bs := [.lane]) (fun s => ?_) s .exit true).mono
    (by simp [settleBlocks])
  split
  · exact s.fill_frame
  · exact .refl _ _

theorem State.sensorClears_frame (s : State) (x : Sensor) :
    SameExcept settleBlocks s (s.sensorClears x) :=
  (State.sensorEvent_frame State.sweepTest_frame s x false).mono (by simp [settleBlocks])

theorem execSensorBlocked_frame (x : Sensor) (s : State) :
    ∃ t, execSensorBlocked x s = .next t ∧ SameExcept (commandBlocks (.sensorBlocked x)) s t := by
  refine ⟨_, rfl, ?_⟩
  cases x with
  | entry => exact s.entryBlocks_frame
  | head => exact s.headBlocks_frame.mono (by simp [commandBlocks, settleBlocks])
  | face => exact s.faceBlocks_frame.mono (by simp [commandBlocks, settleBlocks])
  | park => exact s.parkBlocks_frame.mono (by simp [commandBlocks, settleBlocks])
  | exit => exact s.exitBlocks_frame.mono (by simp [commandBlocks, settleBlocks])

theorem execSensorClear_frame (x : Sensor) (s : State) :
    ∃ t, execSensorClear x s = .next t ∧ SameExcept (commandBlocks (.sensorClear x)) s t := by
  refine ⟨_, rfl, ?_⟩
  cases x with
  | exit => exact s.exitClears_frame
  | entry => exact (s.sensorClears_frame .entry).mono (by simp [commandBlocks, settleBlocks])
  | head => exact (s.sensorClears_frame .head).mono (by simp [commandBlocks, settleBlocks])
  | face => exact (s.sensorClears_frame .face).mono (by simp [commandBlocks, settleBlocks])
  | park => exact (s.sensorClears_frame .park).mono (by simp [commandBlocks, settleBlocks])

theorem State.mergeGap_frame (s : State) (g : Bool) :
    SameExcept settleBlocks s ((s.withLane { s.lane with gap := g }).fieldEvent State.tryLeave) :=
  (s.withLane_frame _).step (State.fieldEvent_frame State.tryLeave_frame _) (by simp [settleBlocks])
    (by simp [settleBlocks])

/-! ### The transmitter -/

theorem State.endAttempt_frame (s : State) (x : TxSlot) (r : List Bool) :
    SameExcept [.bus, .notices] s (s.endAttempt x r) := by
  have bus : ∀ (s : State) (b : Bus), SameExcept [.bus] s { s with bus := b } := by
    simp [SameExcept]
  unfold State.endAttempt
  split
  · exact .refl _ _
  · refine (bus s (s.bus.offLine r)).step (bs := [.bus, .notices]) ?_ (by simp) (by simp)
    unfold State.settleSlot
    dsimp only
    split
    · exact (bus _ _).mono (by simp)
    · split
      · exact (bus _ _).mono (by simp)
      · split
        · exact (bus _ _).step (State.raise_frame _ _ _) (by simp) (by simp)
        · split
          · exact (bus _ _).mono (by simp)
          · exact (bus _ _).mono (by simp)

theorem execAttemptEnd_frame (r : List Bool) (s : State) :
    ∃ t, execAttemptEnd r s = .next t ∧ SameExcept (commandBlocks (.attemptEnd r)) s t := by
  refine ⟨_, rfl, ?_⟩
  split
  · split
    · exact s.endAttempt_frame _ _
    · exact .refl _ _
  · exact .refl _ _

/-! ### The commands of the local link -/

/-- A command that UNCONFIGURED refuses touches what its effect does, and the reply. -/
theorem State.whenConfigured_frame {bs : List Block} (hb : Block.link ∈ bs) {effect : State → State}
    {s : State} (h : SameExcept bs s (effect s)) (code : Byte) :
    SameExcept bs s (s.whenConfigured code effect) := by
  unfold State.whenConfigured
  split
  · exact h
  · exact (s.reply_frame _ _ _).mono (by simpa using hb)

/-- An operation and the reply of its command. -/
theorem SameExcept.reply {bs : List Block} {s t : State} (h : SameExcept bs s t)
    (hb : Block.link ∈ bs) (code : Byte) (status : Status) (fields : List Byte := []) :
    SameExcept bs s (t.reply code status fields) :=
  h.step (t.reply_frame _ _ _) (List.Subset.refl _) (by simpa using hb)

theorem State.storeConfig_frame (s : State) (f : ConfigFields) :
    SameExcept [.cfg, .bus, .board, .picker] s (s.storeConfig f) := by
  simp [SameExcept, State.storeConfig]

theorem State.configure_frame (s : State) (f : ConfigFields) :
    SameExcept (commandBlocks (.configure f)) s (s.configure f) := by
  have replied : ∀ st, SameExcept (commandBlocks (.configure f)) s (s.reply 1 st) := fun st =>
    (SameExcept.refl _ s).reply (by simp [commandBlocks, settleBlocks]) 1 st
  unfold State.configure
  split
  · exact replied _
  · split
    · refine SameExcept.reply (((s.storeConfig_frame f).trans
        (State.enterSweeping_frame _ _)).step (State.settleLane_frame _) ?_ ?_) ?_ 1 _ <;>
        simp [commandBlocks, settleBlocks]
    · exact replied _

theorem State.clearWork_frame (s : State) :
    SameExcept [.clock, .demand, .puts, .bus, .board, .tracker, .divert, .lane, .picker] s
      s.clearWork := by
  simp [SameExcept, State.clearWork]

theorem State.clearNotices_frame (s : State) : SameExcept [.notices] s s.clearNotices := by
  simp [SameExcept, State.clearNotices]

theorem State.restart_frame (s : State) : SameExcept (commandBlocks .restart) s s.restart := by
  unfold State.restart
  split
  · refine SameExcept.reply (((s.clearWork_frame.trans (State.clearNotices_frame _)).trans
      (State.enterSweeping_frame _ _)).step (State.settleLane_frame _) ?_ ?_) ?_ 3 _ <;>
      simp [commandBlocks, settleBlocks]
  · refine SameExcept.reply (SameExcept.step (as := [.clock]) (by simp [SameExcept])
      (State.clearNotices_frame _) ?_ ?_) ?_ 3 _ <;> simp [commandBlocks, settleBlocks]

theorem State.moveClock_frame (s : State) (t : Clock) :
    SameExcept [.clock, .demand, .tracker, .divert, .lane] s (s.moveClock t) := by
  simp [SameExcept, State.moveClock, State.shiftTimes]

theorem State.setTime_frame (s : State) (t : Clock) :
    SameExcept (commandBlocks (.setTime t)) s (s.setTime t) := by
  refine State.whenConfigured_frame (by simp [commandBlocks, settleBlocks]) (SameExcept.reply
    ((((s.moveClock_frame t).trans (State.reurgent_frame _ _)).trans
      (State.checkWants_frame _ _)).step (State.settleLane_frame _) ?_ ?_) ?_ 2 _) 2 <;>
    simp [commandBlocks, settleBlocks]

theorem State.goToRest_frame (s : State) : SameExcept settleBlocks s s.goToRest := by
  unfold State.goToRest
  split
  · exact ((s.enterMode_frame _).trans (State.drainTest_frame _)).step (State.settleLane_frame _)
      (by simp [settleBlocks]) (by simp [settleBlocks])
  · exact (s.withModeCtl_frame _).mono (by simp [settleBlocks])
  all_goals exact .refl _ _

theorem State.restCommand_frame (s : State) :
    SameExcept (commandBlocks .rest) s s.restCommand :=
  State.whenConfigured_frame (by simp [commandBlocks, settleBlocks])
    ((s.goToRest_frame.mono (by simp [commandBlocks, settleBlocks])).reply (by simp [commandBlocks, settleBlocks]) 9 _) 9

theorem State.wakeUp_frame (s : State) : SameExcept settleBlocks s s.wakeUp := by
  have woken : SameExcept settleBlocks s (s.enterMode .active).settleLane :=
    (s.enterMode_frame _).step (State.settleLane_frame _) (by simp [settleBlocks])
      (by simp [settleBlocks])
  unfold State.wakeUp
  split
  · exact woken
  · exact woken
  · exact (s.withModeCtl_frame _).mono (by simp [settleBlocks])
  all_goals exact .refl _ _

theorem State.wakeCommand_frame (s : State) :
    SameExcept (commandBlocks .wake) s s.wakeCommand :=
  State.whenConfigured_frame (by simp [commandBlocks, settleBlocks])
    ((s.wakeUp_frame.mono (by simp [commandBlocks, settleBlocks])).reply (by simp [commandBlocks, settleBlocks]) 10 _) 10

theorem State.retrack_frame (s : State) : SameExcept (commandBlocks .retrack) s s.retrack :=
  State.whenConfigured_frame (by simp [commandBlocks])
    (by simp [SameExcept, State.seekAgain, commandBlocks]) 12

theorem State.loadLine_frame (s : State) (tag : Tag) (tote : ToteNo) (handle : Handle)
    (cls qty prio : Byte) :
    SameExcept (commandBlocks (.loadLine tag tote handle cls qty prio)) s
      (s.loadLine tag tote handle cls qty prio) := by
  refine State.whenConfigured_frame (by simp [commandBlocks, settleBlocks]) ?_ 4
  have replied : ∀ st, SameExcept (commandBlocks (.loadLine tag tote handle cls qty prio)) s
      (s.reply 4 st) := fun st => (SameExcept.refl _ s).reply (by simp [commandBlocks, settleBlocks]) 4 st
  split
  · exact replied _
  · split
    · exact replied _
    · split
      · exact replied _
      · exact ((s.addLine_frame _).mono (by simp [commandBlocks, settleBlocks])).reply (by simp [commandBlocks, settleBlocks]) 4 _

theorem State.cancelOpen_frame (s : State) (l : Line) :
    SameExcept ([.demand, .puts, .picker] ++ settleBlocks) s (s.cancelOpen l) := by
  have line := s.setLineState_frame l.tag .cancelled
  have checked := (line.trans (State.reready_frame _ l.handle)).trans
    (State.reurgent_frame _ (· == l.tote))
  unfold State.cancelOpen
  dsimp only
  split
  · exact ((line.trans (State.leaveActive_frame _)).trans (State.lineBoundary_frame _ l)).step
      (State.settleLane_frame _) (by simp [settleBlocks]) (by simp [settleBlocks])
  · exact (((line.trans (State.deriveWant_frame _ l.tote)).trans
      (State.reready_frame _ l.handle)).trans (State.reurgent_frame _ (· == l.tote))).step
      (State.settleLane_frame _) (by simp [settleBlocks]) (by simp [settleBlocks])
  · exact checked.step (State.settleLane_frame _) (by simp [settleBlocks]) (by simp [settleBlocks])
  · exact checked.step (State.settleLane_frame _) (by simp [settleBlocks]) (by simp [settleBlocks])
  all_goals exact .refl _ _

theorem State.cancelLine_frame (s : State) (tag : Tag) :
    SameExcept (commandBlocks (.cancelLine tag)) s (s.cancelLine tag) := by
  refine State.whenConfigured_frame (by simp [commandBlocks, settleBlocks]) ?_ 5
  have replied : ∀ st, SameExcept (commandBlocks (.cancelLine tag)) s (s.reply 5 st) := fun st =>
    (SameExcept.refl _ s).reply (by simp [commandBlocks, settleBlocks]) 5 st
  split
  · exact replied _
  · split
    · exact ((s.cancelOpen_frame _).mono (by simp [commandBlocks, settleBlocks])).reply (by simp [commandBlocks, settleBlocks])
        5 _
    · exact replied _

theorem State.newPlacement_frame (s : State) (h : Handle) (k : PutIdx) (deadline : Clock) :
    SameExcept ([.demand, .puts, .picker] ++ settleBlocks) s (s.newPlacement h k deadline) := by
  have put : SameExcept [.puts] s
      { s with
        puts := s.puts.set k (some { handle := h, deadline := deadline, ready := false }) } := by
    simp [SameExcept]
  exact (((put.trans (State.deriveWants_frame _ _)).trans (State.reready_frame _ h)).trans
    (State.reurgent_frame _ _)).step (State.settleLane_frame _) (by simp [settleBlocks])
    (by simp [settleBlocks])

theorem State.newDeadline_frame (s : State) (h : Handle) (k : PutIdx) (o : Order)
    (deadline : Clock) :
    SameExcept ([.demand, .puts, .picker] ++ settleBlocks) s (s.newDeadline h k o deadline) := by
  have put : SameExcept [.puts] s
      { s with puts := s.puts.set k (some { o with deadline := deadline }) } := by
    simp [SameExcept]
  exact ((put.trans (State.reurgent_frame _ _)).trans (State.checkWants_frame _ _)).step
    (State.settleLane_frame _) (by simp [settleBlocks]) (by simp [settleBlocks])

theorem State.placeOrder_frame (s : State) (h : Handle) (position : Byte) (deadline : Clock) :
    SameExcept (commandBlocks (.placeOrder h position deadline)) s
      (s.placeOrder h position deadline) := by
  refine State.whenConfigured_frame (by simp [commandBlocks, settleBlocks]) ?_ 6
  have replied : ∀ st, SameExcept (commandBlocks (.placeOrder h position deadline)) s
      (s.reply 6 st) := fun st => (SameExcept.refl _ s).reply (by simp [commandBlocks, settleBlocks]) 6 st
  split
  · exact replied _
  · split
    · exact replied _
    · split
      · exact replied _
      · split
        · split
          · exact ((s.newDeadline_frame _ _ _ _).mono (by simp [commandBlocks, settleBlocks])).reply
              (by simp [commandBlocks, settleBlocks]) 6 _
          · exact replied _
        · exact ((s.newPlacement_frame _ _ _).mono (by simp [commandBlocks, settleBlocks])).reply
            (by simp [commandBlocks, settleBlocks]) 6 _

theorem State.dropLines_frame (s : State) (h : Handle) : SameExcept [.demand] s (s.dropLines h) :=
  s.withLines_frame _

theorem State.closeOrder_frame (s : State) (h : Handle) :
    SameExcept (commandBlocks (.closeOrder h)) s (s.closeOrder h) := by
  refine State.whenConfigured_frame (by simp [commandBlocks]) ?_ 7
  have replied : ∀ st, SameExcept (commandBlocks (.closeOrder h)) s (s.reply 7 st) := fun st =>
    (SameExcept.refl _ s).reply (by simp [commandBlocks]) 7 st
  split
  · split
    · exact replied _
    · exact SameExcept.reply ((s.dropLines_frame h).step (bs := [.puts])
        (by simp [SameExcept]) (by simp [commandBlocks]) (by simp [commandBlocks]))
        (by simp [commandBlocks]) 7 _
  · split
    · exact SameExcept.reply ((s.dropLines_frame h).mono (by simp [commandBlocks]))
        (by simp [commandBlocks]) 7 _
    · exact replied _

theorem State.releaseFace_frame (s : State) :
    SameExcept (commandBlocks .releaseFace) s s.releaseFace := by
  refine State.whenConfigured_frame (by simp [commandBlocks, settleBlocks]) ?_ 8
  split
  · refine SameExcept.reply (s.releasePresenting_frame.step (State.settleLane_frame _) ?_ ?_) ?_ 8 _
      <;> simp [commandBlocks, settleBlocks]
  · exact (SameExcept.refl _ s).reply (by simp [commandBlocks, settleBlocks]) 8 _

theorem State.endJam_frame (s : State) : SameExcept settleBlocks s s.endJam := by
  have cleared := s.withLane_frame
    { s.lane with
      jam := none
      waits := restartWaits s.lane.waits
      sensors := restartSensors s.lane.sensors }
  exact (((cleared.trans (State.fill_frame _)).trans (State.tryLeave_frame _)).trans
    (State.sweepTest_frame _)).step (State.settleLane_frame _) (by simp [settleBlocks])
    (by simp [settleBlocks])

theorem State.clearJam_frame (s : State) : SameExcept (commandBlocks .clearJam) s s.clearJam := by
  refine State.whenConfigured_frame (by simp [commandBlocks, settleBlocks])
    (SameExcept.reply ?_ (by simp [commandBlocks, settleBlocks]) 11 _) 11
  split
  · exact s.endJam_frame.mono (by simp [commandBlocks, settleBlocks])
  · exact .refl _ _

theorem State.setNotice_frame (s : State) (source enable level : Byte) :
    SameExcept [.notices, .link] s (s.setNotice source enable level) := by
  refine State.whenConfigured_frame (by simp) ?_ 13
  split
  · exact (SameExcept.refl _ s).reply (by simp) 13 _
  · split
    · exact ((s.changeNotice_frame _ _).mono (by simp)).reply (by simp) 13 _
    · exact (SameExcept.refl _ s).reply (by simp) 13 _

theorem State.setFloor_frame (s : State) (floor : Byte) :
    SameExcept [.notices, .link] s (s.setFloor floor) := by
  refine State.whenConfigured_frame (by simp) ?_ 14
  split
  · simp [SameExcept]
  · exact (SameExcept.refl _ s).reply (by simp) 14 _

theorem State.clearNotice_frame (s : State) (source : Byte) :
    SameExcept [.notices, .link] s (s.clearNotice source) := by
  refine State.whenConfigured_frame (by simp) ?_ 16
  split
  · exact (SameExcept.refl _ s).reply (by simp) 16 _
  · exact ((s.changeNotice_frame _ _).mono (by simp)).reply (by simp) 16 _

theorem State.readNotice_frame (s : State) : SameExcept [.link] s s.readNotice :=
  State.whenConfigured_frame (by simp) (s.reply_frame _ _ _) 15

theorem State.readLine_frame (s : State) (tag : Tag) : SameExcept [.link] s (s.readLine tag) := by
  refine State.whenConfigured_frame (by simp) ?_ 18
  split
  · exact s.reply_frame _ _ _
  · exact s.reply_frame _ _ _

theorem State.readLane_frame (s : State) : SameExcept [.link] s s.readLane :=
  State.whenConfigured_frame (by simp) (s.reply_frame _ _ _) 19

theorem State.readTrack_frame (s : State) : SameExcept [.tracker, .link] s s.readTrack :=
  State.whenConfigured_frame (by simp) (by simp [SameExcept]) 20

theorem State.readConfig_frame (s : State) : SameExcept [.link] s s.readConfig :=
  State.whenConfigured_frame (by simp) (s.reply_frame _ _ _) 21

/-- A link command keeps to the parts of its row of the opcode table. -/
theorem State.runCommand_frame (s : State) (c : LinkCommand) :
    SameExcept (commandBlocks (commandRow c)) s (s.runCommand c) := by
  cases c with
  | configure f => exact s.configure_frame f
  | setTime t => exact s.setTime_frame t
  | restart => exact s.restart_frame
  | loadLine tag tote handle cls qty prio => exact s.loadLine_frame tag tote handle cls qty prio
  | cancelLine tag => exact s.cancelLine_frame tag
  | placeOrder h position deadline => exact s.placeOrder_frame h position deadline
  | closeOrder h => exact s.closeOrder_frame h
  | releaseFace => exact s.releaseFace_frame
  | rest => exact s.restCommand_frame
  | wake => exact s.wakeCommand_frame
  | clearJam => exact s.clearJam_frame
  | retrack => exact s.retrack_frame
  | setNotice source enable level => exact s.setNotice_frame source enable level
  | setFloor floor => exact s.setFloor_frame floor
  | readNotice => exact s.readNotice_frame
  | clearNotice source => exact s.clearNotice_frame source
  | readStatus => exact s.readStatus_frame
  | readLine tag => exact s.readLine_frame tag
  | readLane => exact s.readLane_frame
  | readTrack => exact s.readTrack_frame
  | readConfig => exact s.readConfig_frame

/-- A link command's row is carried out as the command. -/
theorem exec_commandRow (c : LinkCommand) (s : State) :
    exec (commandRow c) s = .next (s.runCommand c) := by cases c <;> rfl

theorem commandBlocks_commandRow_subset (c : LinkCommand) (bytes : List Byte) :
    commandBlocks (commandRow c) ⊆ commandBlocks (.badFrame bytes) := by
  cases c <;> simp [commandRow, commandBlocks, settleBlocks]

theorem State.takeFrame_frame (s : State) (bytes : List Byte) :
    SameExcept (commandBlocks (.badFrame bytes)) s (s.takeFrame bytes) := by
  unfold State.takeFrame
  split
  · exact .refl _ _
  · split
    · exact .refl _ _
    · split
      · exact (s.runCommand_frame _).mono (commandBlocks_commandRow_subset _ _)
      · exact (SameExcept.refl _ s).reply (by simp [commandBlocks]) _ _

/-! ### Picking -/

theorem State.setBeam_frame (s : State) (k : PutIdx) (f : Beam → Beam) :
    SameExcept [.picker] s (s.setBeam k f) := by
  simp [SameExcept, State.setBeam]

theorem State.countPut_frame (s : State) (l : Line) :
    SameExcept ([.demand, .picker, .puts] ++ settleBlocks) s (s.countPut l) := by
  have put : SameExcept [.demand] s (s.setPuts l.tag (l.puts + 1)) := s.withLines_frame _
  unfold State.countPut
  dsimp only
  split
  · exact put.step (bs := [.picker]) (by simp [SameExcept]) (by simp) (by simp)
  · exact ((((put.trans (State.setLineState_frame _ l.tag .done)).trans
      (State.raise_frame _ .lineDone _)).trans (State.leaveActive_frame _)).trans
      (State.lineBoundary_frame _ l)).step (State.settleLane_frame _) (by simp [settleBlocks])
      (by simp [settleBlocks])

theorem State.judgeBreak_frame (s : State) (k : PutIdx) :
    SameExcept ([.demand, .picker, .puts] ++ settleBlocks) s (s.judgeBreak k) := by
  have raised : ∀ n d, SameExcept ([.demand, .picker, .puts] ++ settleBlocks) s (s.raise n d) :=
    fun n d => (s.raise_frame n d).mono (by simp [settleBlocks])
  unfold State.judgeBreak
  split
  · exact .refl _ _
  · split
    · exact raised _ _
    · split
      · split
        · exact s.countPut_frame _
        · exact raised _ _
      · exact raised _ _

theorem State.beamBreak_frame (s : State) (k : PutIdx) :
    SameExcept (commandBlocks (.beamBreak k)) s (s.beamBreak k) := by
  unfold State.beamBreak
  split
  · exact (s.setBeam_frame k _).step (State.judgeBreak_frame _ k) (by simp [commandBlocks, settleBlocks])
      (by simp [commandBlocks, settleBlocks])
  · exact (s.setBeam_frame k _).mono (by simp [commandBlocks, settleBlocks])

theorem State.shortKey_frame (s : State) : SameExcept (commandBlocks .shortKey) s s.shortKey := by
  unfold State.shortKey
  split
  · exact .refl _ _
  · exact ((((s.setLineState_frame _ .short).trans (State.raise_frame _ .lineShort _)).trans
      (State.leaveActive_frame _)).trans (State.lineBoundary_frame _ _)).step
      (State.settleLane_frame _) (by simp [commandBlocks, settleBlocks])
      (by simp [commandBlocks, settleBlocks])

/-! ### The receive path -/

theorem State.lineIdled_frame (s : State) : SameExcept [.bus] s s.lineIdled := by
  simp [SameExcept, State.lineIdled]

/-- A received frame touches the line, STATION_CLASH, and what its acceptance does. -/
theorem State.receiveWith_frame {bs : List Block} {accept : State → State}
    (h : ∀ s, SameExcept bs s (accept s)) (s : State) (f : Frame) :
    SameExcept (bs ++ [.bus, .notices]) s (s.receiveWith f accept) := by
  unfold State.receiveWith
  split
  · rw [s.frameOver_eq]
    dsimp only
    split
    · exact s.lineIdled_frame.step (State.raise_frame _ _ _) (by simp) (by simp)
    · split
      · exact s.lineIdled_frame.step (h _) (by simp) (by simp)
      · exact s.lineIdled_frame.mono (by simp)
  · exact .refl _ _

theorem State.acceptWant_frame (s : State) (x : StationNo) (T : ToteNo) (W : BitVec 16) :
    SameExcept [.board] s (s.acceptWant x T W) := by
  simp [SameExcept, State.acceptWant]

theorem State.noteDuplicate_frame (s : State) (T : ToteNo) :
    SameExcept [.notices] s (s.noteDuplicate T) := by
  unfold State.noteDuplicate
  split
  · exact s.raise_frame _ _
  · exact .refl _ _

theorem State.acceptHold_frame (s : State) (x : StationNo) (T : ToteNo) :
    SameExcept [.notices, .board, .tracker] s (s.acceptHold x T) := by
  have board : SameExcept [.board] (s.noteDuplicate T)
      { s.noteDuplicate T with board := boardHold (s.noteDuplicate T).board x T } := by
    simp [SameExcept]
  exact ((s.noteDuplicate_frame T).trans board).trans (State.unexpect_frame _ T)

theorem State.expect_frame (s : State) (T : ToteNo) (a : Announcement) :
    SameExcept [.tracker] s (s.expect T a) := s.place_frame _

theorem State.acceptRelease_frame (s : State) (x : StationNo) (T : ToteNo) (a : Announcement) :
    SameExcept [.notices, .board, .tracker] s (s.acceptRelease x T a) := by
  have board : SameExcept [.board] (s.noteDuplicate T)
      { s.noteDuplicate T with board := boardRelease (s.noteDuplicate T).board x T } := by
    simp [SameExcept]
  exact ((s.noteDuplicate_frame T).trans board).trans (State.expect_frame _ T a)

theorem State.acceptInfeed_frame (s : State) (T : ToteNo) (a : Announcement) :
    SameExcept [.notices, .tracker] s (s.acceptInfeed T a) :=
  (s.noteDuplicate_frame T).trans (State.expect_frame _ T a)

/-- A received frame keeps to the parts of its row of the opcode table. -/
theorem State.receive_frame (s : State) (f : Frame) :
    SameExcept (commandBlocks (frameRow f)) s (s.receive f) := by
  obtain ⟨sender, T, body⟩ := f
  cases body with
  | infeed a =>
    exact (State.receiveWith_frame (fun s => s.acceptInfeed_frame T a) s _).mono
      (by simp [frameRow, commandBlocks])
  | release a =>
    exact (State.receiveWith_frame (fun s => s.acceptRelease_frame sender T a) s _).mono
      (by simp [frameRow, commandBlocks])
  | ret =>
    exact (State.receiveWith_frame (fun s => s.unexpect_frame T) s _).mono
      (by simp [frameRow, commandBlocks])
  | want w =>
    exact (State.receiveWith_frame (fun s => s.acceptWant_frame sender T w) s _).mono
      (by simp [frameRow, commandBlocks])
  | drop =>
    exact (State.receiveWith_frame (fun s => s.acceptDrop_frame sender T) s _).mono
      (by simp [frameRow, commandBlocks])
  | hold =>
    exact (State.receiveWith_frame (fun s => s.acceptHold_frame sender T) s _).mono
      (by simp [frameRow, commandBlocks])
  | state able =>
    exact (State.receiveWith_frame (fun s => s.acceptState_frame sender able) s _).mono
      (by simp [frameRow, commandBlocks])

/-- A received frame's row is carried out as the frame. -/
theorem exec_frameRow (f : Frame) (s : State) : exec (frameRow f) s = .next (s.receive f) := by
  obtain ⟨sender, T, body⟩ := f
  cases body <;> rfl

theorem execFrameDiscarded_frame (bits : List Bool) (s : State) :
    ∃ t, execFrameDiscarded bits s = .next t ∧
      SameExcept (commandBlocks (.frameDiscarded bits)) s t := by
  refine ⟨_, rfl, ?_⟩
  split
  · rw [s.frameOver_eq]
    exact s.lineIdled_frame.mono (by simp [commandBlocks])
  · refine (s.receive_frame _).mono ?_
    unfold frameRow
    split <;> simp [commandBlocks]

/-! ### The reader -/

theorem State.matchRead_frame (s : State) (e : EalEntry) :
    SameExcept [.tracker, .notices] s (s.matchRead e) := by
  unfold State.matchRead
  dsimp only
  split
  · simp [SameExcept, State.unexpect]
  · exact SameExcept.step (as := [.tracker]) (by simp [SameExcept, State.unexpect])
      (State.lockFailure_frame _ _) (by simp) (by simp)

theorem State.judge_frame (s : State) (T : ToteNo) (part : Option EntryPart) :
    SameExcept [.tracker, .divert, .notices] s (s.judge T part) := by
  unfold State.judge
  split
  · exact (s.raise_frame _ _).mono (by simp)
  · split
    · simp [SameExcept, State.take]
    · exact (s.place_frame _).mono (by simp)

theorem State.sighted_frame (s : State) (T : ToteNo) (part : Option EntryPart) :
    SameExcept ([.board, .tracker, .divert] ++ settleBlocks) s (s.sighted T part) := by
  have board : SameExcept [.board] s { s with board := boardSighting s.board T } := by
    simp [SameExcept]
  exact (board.trans (State.judge_frame _ T part)).step (State.settleLane_frame _)
    (by simp [settleBlocks]) (by simp [settleBlocks])

theorem State.goodRead_frame (s : State) (T : ToteNo) :
    SameExcept ([.board, .tracker, .divert] ++ settleBlocks) s (s.goodRead T) := by
  unfold State.goodRead
  split
  · exact (s.matchRead_frame _).step (State.sighted_frame _ T _) (by simp [settleBlocks])
      (List.Subset.refl _)
  · exact s.sighted_frame T none

theorem State.failedRead_frame (s : State) :
    SameExcept ([.board, .tracker, .divert] ++ settleBlocks) s s.failedRead := by
  unfold State.failedRead
  split
  · exact (s.unexpect_frame _).step (State.sighted_frame _ _ _) (by simp) (List.Subset.refl _)
  · exact .refl _ _

theorem State.readReport_frame (s : State) (r : ReaderReport) :
    SameExcept (commandBlocks (.readerEvent r)) s (s.readReport r) := by
  unfold State.readReport
  split
  · split
    · exact s.failedRead_frame
    · split
      · exact s.goodRead_frame _
      · exact .refl _ _
      · exact s.failedRead_frame
      · exact s.failedRead_frame
  · exact .refl _ _

/-! ### Pulses and counted events -/

theorem State.overdueStep_frame (s : State) :
    SameExcept [.tracker, .notices] s s.overdueStep := by
  unfold State.overdueStep
  split
  · exact .refl _ _
  · split
    · exact SameExcept.step (as := [.tracker]) (by simp [SameExcept])
        (State.lockFailure_frame _ _) (by simp) (by simp)
    · exact .refl _ _

theorem State.overdueSteps_frame (n : Nat) (s : State) :
    SameExcept [.tracker, .notices] s (State.overdueSteps n s) := by
  induction n generalizing s with
  | zero => exact .refl _ _
  | succ n ih => exact s.overdueStep_frame.step (ih _) (List.Subset.refl _) (List.Subset.refl _)

theorem State.divertStep_frame (s : State) :
    SameExcept [.notices, .divert, .bus, .tracker] s s.divertStep := by
  unfold State.divertStep
  split
  · exact .refl _ _
  · split
    · exact s.timeOut_frame _ _
    · exact .refl _ _

theorem State.divertSteps_frame (n : Nat) (s : State) :
    SameExcept [.notices, .divert, .bus, .tracker] s (State.divertSteps n s) := by
  induction n generalizing s with
  | zero => exact .refl _ _
  | succ n ih => exact s.divertStep_frame.step (ih _) (List.Subset.refl _) (List.Subset.refl _)

theorem execDivertTimeout_frame (s : State) :
    ∃ t, execDivertTimeout s = .next t ∧ SameExcept (commandBlocks .divertTimeout) s t := by
  refine ⟨_, rfl, ?_⟩
  split
  · exact (s.divertStep_frame.trans (State.drainTest_frame _)).step (State.settleLane_frame _)
      (by simp [commandBlocks, settleBlocks]) (by simp [commandBlocks, settleBlocks])
  · exact .refl _ _

theorem State.advanceCount_frame (s : State) : SameExcept [.count, .tracker] s s.advanceCount := by
  simp [SameExcept, State.advanceCount]

theorem State.pulse_frame (s : State) : SameExcept (commandBlocks .encoderPulse) s s.pulse := by
  unfold State.pulse
  dsimp only
  split
  · exact (((s.advanceCount_frame.trans (State.overdueSteps_frame _ _)).trans
      (State.divertSteps_frame _ _)).trans (State.drainTest_frame _)).step
      (State.settleLane_frame _) (by simp [commandBlocks, settleBlocks])
      (by simp [commandBlocks, settleBlocks])
  · exact s.advanceCount_frame.mono (by simp [commandBlocks, settleBlocks])

theorem execWantRefresh_frame (T : ToteNo) (s : State) :
    ∃ t, execWantRefresh T s = .next t ∧ SameExcept (commandBlocks (.wantRefresh T)) s t := by
  refine ⟨_, rfl, ?_⟩
  split
  · split
    · exact s.announce_frame _ _
    · exact .refl _ _
  · exact .refl _ _

theorem execColdBreach_frame (T : ToteNo) (s : State) :
    ∃ t, execColdBreach T s = .next t ∧ SameExcept (commandBlocks (.coldBreach T)) s t := by
  refine ⟨_, rfl, ?_⟩
  split
  · exact ((s.breach_frame T).trans (State.reurgent_frame _ _)).step (State.settleLane_frame _)
      (by simp [commandBlocks, settleBlocks]) (by simp [commandBlocks, settleBlocks])
  · exact .refl _ _

/-! ### The obligation -/

/-- Every row of the opcode table has a next state, within the row's parts. -/
theorem exec_frame (c : Instr) (s : State) :
    ∃ t, exec c s = .next t ∧ SameExcept (commandBlocks c) s t := by
  cases c with
  | powerOnReset => exact ⟨_, rfl, by simp [SameExcept, commandBlocks, State.powerOn]⟩
  | transaction bits =>
    exact ⟨_, rfl, (s.shiftOut_frame _).step (State.takeFrame_frame _ _) (by simp [commandBlocks])
      (by simp [commandBlocks])⟩
  | badFrame bytes => exact ⟨_, rfl, s.takeFrame_frame bytes⟩
  | configure f => exact ⟨_, rfl, s.configure_frame f⟩
  | setTime t => exact ⟨_, rfl, s.setTime_frame t⟩
  | restart => exact ⟨_, rfl, s.restart_frame⟩
  | loadLine tag tote handle cls qty prio =>
    exact ⟨_, rfl, s.loadLine_frame tag tote handle cls qty prio⟩
  | cancelLine tag => exact ⟨_, rfl, s.cancelLine_frame tag⟩
  | placeOrder h position deadline => exact ⟨_, rfl, s.placeOrder_frame h position deadline⟩
  | closeOrder h => exact ⟨_, rfl, s.closeOrder_frame h⟩
  | releaseFace => exact ⟨_, rfl, s.releaseFace_frame⟩
  | rest => exact ⟨_, rfl, s.restCommand_frame⟩
  | wake => exact ⟨_, rfl, s.wakeCommand_frame⟩
  | clearJam => exact ⟨_, rfl, s.clearJam_frame⟩
  | retrack => exact ⟨_, rfl, s.retrack_frame⟩
  | setNotice source enable level => exact ⟨_, rfl, s.setNotice_frame source enable level⟩
  | setFloor floor => exact ⟨_, rfl, s.setFloor_frame floor⟩
  | readNotice => exact ⟨_, rfl, s.readNotice_frame⟩
  | clearNotice source => exact ⟨_, rfl, s.clearNotice_frame source⟩
  | readStatus => exact ⟨_, rfl, s.readStatus_frame⟩
  | readLine tag => exact ⟨_, rfl, s.readLine_frame tag⟩
  | readLane => exact ⟨_, rfl, s.readLane_frame⟩
  | readTrack => exact ⟨_, rfl, s.readTrack_frame⟩
  | readConfig => exact ⟨_, rfl, s.readConfig_frame⟩
  | encoderPulse => exact ⟨_, rfl, s.pulse_frame⟩
  | overdueRemoval =>
    refine ⟨_, rfl, ?_⟩
    split
    · exact s.overdueStep_frame
    · exact .refl _ _
  | divertTimeout => exact execDivertTimeout_frame s
  | oneSecondTick => exact ⟨_, rfl, s.tick_frame⟩
  | stationStale x => exact ⟨_, rfl, by simp [SameExcept, commandBlocks]⟩
  | entryStale x T => exact ⟨_, rfl, by simp [SameExcept, commandBlocks]⟩
  | stateAndHoldRefresh => exact ⟨_, rfl, s.refreshWork_frame⟩
  | wantRefresh T => exact execWantRefresh_frame T s
  | coldAlert T => exact ⟨_, rfl, s.coldAlertWork_frame T⟩
  | coldBreach T => exact execColdBreach_frame T s
  | mergeStall => exact ⟨_, rfl, s.stallWork_frame⟩
  | laneJam w =>
    exact ⟨_, rfl, (State.passAll_frame _ s).mono (by simp [commandBlocks, settleBlocks])⟩
  | unaccountedSensor x =>
    exact ⟨_, rfl, (State.passAll_frame _ s).mono (by simp [commandBlocks, settleBlocks])⟩
  | settleEnd k =>
    exact ⟨_, rfl, (State.passAll_frame _ s).mono (by simp [commandBlocks, settleBlocks])⟩
  | beamStuck k =>
    exact ⟨_, rfl, (State.passAll_frame _ s).mono (by simp [commandBlocks, settleBlocks])⟩
  | beamRecovered k =>
    exact ⟨_, rfl, (State.passAll_frame _ s).mono (by simp [commandBlocks, settleBlocks])⟩
  | frameDiscarded bits => exact execFrameDiscarded_frame bits s
  | stateFrame x T able => exact ⟨_, rfl, s.receive_frame ⟨x, T, .state able⟩⟩
  | wantFrame x T w => exact ⟨_, rfl, s.receive_frame ⟨x, T, .want w⟩⟩
  | dropFrame x T => exact ⟨_, rfl, s.receive_frame ⟨x, T, .drop⟩⟩
  | holdFrame x T => exact ⟨_, rfl, s.receive_frame ⟨x, T, .hold⟩⟩
  | releaseFrame x T a => exact ⟨_, rfl, s.receive_frame ⟨x, T, .release a⟩⟩
  | infeedFrame x T a => exact ⟨_, rfl, s.receive_frame ⟨x, T, .infeed a⟩⟩
  | returnFrame x T => exact ⟨_, rfl, s.receive_frame ⟨x, T, .ret⟩⟩
  | sendAttempt => exact ⟨_, rfl, by simp [SameExcept, commandBlocks]⟩
  | attemptEnd r => exact execAttemptEnd_frame r s
  | readerEvent r => exact ⟨_, rfl, s.readReport_frame r⟩
  | entrySeen => exact ⟨_, rfl, s.entryBlocks_frame⟩
  | headBlocked => exact ⟨_, rfl, s.headBlocks_frame⟩
  | faceArrived => exact ⟨_, rfl, s.faceBlocks_frame⟩
  | parkArrived => exact ⟨_, rfl, s.parkBlocks_frame⟩
  | merged => exact ⟨_, rfl, s.exitClears_frame⟩
  | mergeGap g => exact ⟨_, rfl, s.mergeGap_frame g⟩
  | sensorBlocked x => exact execSensorBlocked_frame x s
  | sensorClear x => exact execSensorClear_frame x s
  | beamBreak k => exact ⟨_, rfl, s.beamBreak_frame k⟩
  | beamClear k => exact ⟨_, rfl, s.setBeam_frame k _⟩
  | shortKey =>
    refine ⟨_, rfl, ?_⟩
    split
    · exact s.shortKey_frame
    · exact .refl _ _
  | logonKey => exact ⟨_, rfl, s.wakeUp_frame⟩

theorem pending_not_mem_commandBlocks (c : Instr) : Block.pending ∉ commandBlocks c := by
  cases c <;> simp [commandBlocks, settleBlocks]

/-- Settles O2: the queue is in no row's parts, and every row keeps to its own. -/
theorem everyCommandKeepsToItsParts : Obligations.EveryCommandKeepsToItsParts := fun c s =>
  ⟨pending_not_mem_commandBlocks c, exec_frame c s⟩

/-- Settles O1: a step takes the command at the front, by its definition. -/
theorem stepTakesFront : Obligations.StepTakesFront := by
  intro c rest s h
  simp only [step, h]

end Sys2Proof.Machine
end

section
/-! PROOFS. The laws at the reset state (O56), and that every step keeps the laws of the transmit queue, the
transmitter, the attempt in progress and the notices (O57). -/

namespace Sys2Proof.Machine

/-! ### The reset state -/

theorem reset_txQueueLaw : TxQueueLaw State.reset := ⟨by decide, List.nodup_nil⟩

theorem reset_transmitterLaw : TransmitterLaw State.reset := by
  unfold TransmitterLaw
  decide

theorem reset_attemptLaw : AttemptLaw State.reset :=
  ⟨by decide, by decide, fun x h => (by cases h), fun _ => rfl⟩

/-- R162: a source's record within its limits. -/
def NoticeRec.lawful (q : NoticeRec) : Prop :=
  q.count ≤ 255 ∧ q.level ≤ 7 ∧ (q.pending = false → q.count = 0 ∧ q.detail = 0)

theorem reset_noticesLaw : NoticesLaw State.reset := by
  refine ⟨by decide +kernel, by decide, ?_⟩
  show ∀ i : Fin 19, State.reset.notices.sources[i].count ≤ 255 ∧
    State.reset.notices.sources[i].level ≤ 7 ∧ (State.reset.notices.sources[i].pending = false →
      State.reset.notices.sources[i].count = 0 ∧ State.reset.notices.sources[i].detail = 0)
  decide +kernel

theorem puts_reset (k : PutIdx) : putsReset[k] = none := by simp [putsReset]

/-- Settles O56: nothing is held at reset, and the counters stand at 0. -/
theorem lawsHoldAtReset : Obligations.LawsHoldAtReset := by
  have noLine : ∀ {p : Line → Prop}, ∀ l ∈ State.reset.demand.lines, p l := fun l h => by cases h
  have noOrder : ∀ (k : PutIdx) (o : Order), State.reset.puts[k] ≠ some o := fun k o h => by
    rw [show State.reset.puts[k] = none from puts_reset k] at h
    cases h
  refine ⟨reset_txQueueLaw, reset_transmitterLaw, reset_attemptLaw, reset_noticesLaw,
    ⟨by decide, List.nodup_nil, noLine⟩, ⟨List.nodup_nil, fun T => ?_⟩,
    fun j k o p h => absurd h (noOrder j o), fun k o h => absurd h (noOrder k o),
    ⟨by decide, List.nodup_nil, fun e h => (by cases h)⟩,
    ⟨by decide, List.nodup_nil, List.Pairwise.nil, fun e h => (by cases h), fun _ => rfl, by decide⟩,
    ⟨List.nodup_nil, fun d h => (by cases h), fun e h => (by cases h)⟩,
    ⟨fun _ => ⟨rfl, rfl, rfl, rfl⟩, fun h => absurd rfl h⟩,
    ⟨by decide, fun _ => by decide⟩, ⟨⟨fun h => ?_, fun ⟨l, h, _⟩ => (by cases h)⟩, noLine, noLine,
      noLine, noLine, fun _ => ⟨rfl, rfl, rfl, rfl⟩⟩,
    ⟨by decide, fun h => absurd rfl h, fun _ => by decide⟩, ⟨by decide, fun x => ?_⟩⟩
  · exact ⟨fun ⟨w, h, _⟩ => (by cases h), fun h => (by cases h)⟩
  · cases h
  · cases x <;> decide

/-! ### The relation between the ends of a chain of operations -/

/-- From `s` to `t` the laws of the transmitter and of the notices are kept. -/
def CommKept (s t : State) : Prop :=
  (TxQueueLaw s → TxQueueLaw t) ∧ (TransmitterLaw s → TransmitterLaw t) ∧
    (TransmitterLaw s → AttemptLaw s → AttemptLaw t) ∧ (NoticesLaw s → NoticesLaw t)

theorem CommKept.of_eq {s t : State} (mode : t.mode = s.mode) (bus : t.bus = s.bus)
    (notices : t.notices = s.notices) : CommKept s t := by
  unfold CommKept TxQueueLaw TransmitterLaw AttemptLaw NoticesLaw
  rw [mode, bus, notices]
  exact ⟨id, id, fun _ => id, id⟩

theorem CommKept.refl (s : State) : CommKept s s := .of_eq rfl rfl rfl

theorem CommKept.trans {s t u : State} (h : CommKept s t) (k : CommKept t u) : CommKept s u := by
  obtain ⟨hq, ht, ha, hn⟩ := h
  obtain ⟨kq, kt, ka, kn⟩ := k
  exact ⟨fun l => kq (hq l), fun l => kt (ht l), fun l a => ka (ht l) (ha l a), fun l => kn (hn l)⟩

/-- A chain of operations read from its last one, the states between being those of the operations. -/
theorem CommKept.after {s t u : State} (k : CommKept t u) (h : CommKept s t) : CommKept s u :=
  h.trans k

theorem CommKept.foldl {α : Type} {f : State → α → State} (hf : ∀ s a, CommKept s (f s a))
    (l : List α) (s : State) : CommKept s (l.foldl f s) := by
  induction l generalizing s with
  | nil => exact .refl _
  | cons a l ih => exact (hf s a).trans (ih _)

theorem SameExcept.mode_eq {bs : List Block} {s t : State} (h : SameExcept bs s t)
    (hb : Block.modeCtl ∉ bs) : t.mode = s.mode := congrArg ModeCtl.mode (h.modeCtl_eq hb)

/-- What leaves the bus, the notices and the mode alone keeps their laws. -/
theorem SameExcept.commKept {bs : List Block} {s t : State} (h : SameExcept bs s t)
    (bus : Block.bus ∉ bs) (notices : Block.notices ∉ bs) (mode : Block.modeCtl ∉ bs) :
    CommKept s t :=
  .of_eq (h.mode_eq mode) (h.bus_eq bus) (h.notices_eq notices)

/-! ### Notices -/

theorem NoticesLaw.changeNotice {s : State} (h : NoticesLaw s) (n : NoticeSource)
    {f : NoticeRec → NoticeRec} (hf : ∀ q : NoticeRec, q.lawful → (f q).lawful) :
    NoticesLaw (s.changeNotice n f) := by
  obtain ⟨-, floor, recs⟩ := h
  refine ⟨rfl, floor, fun i => ?_⟩
  by_cases hi : i = n.index
  · subst hi
    rw [s.changeNotice_same n f]
    exact hf _ (recs n.index)
  · rw [s.changeNotice_other f hi]
    exact recs i

theorem State.changeNotice_commKept (s : State) (n : NoticeSource) {f : NoticeRec → NoticeRec}
    (hf : ∀ q : NoticeRec, q.lawful → (f q).lawful) : CommKept s (s.changeNotice n f) :=
  ⟨id, id, fun _ => id, fun h => h.changeNotice n hf⟩

theorem bumpNotice_lawful (d : BitVec 32) (q : NoticeRec) (h : q.lawful) :
    (bumpNotice d q).lawful := by
  obtain ⟨count, level, -⟩ := h
  cases hp : q.pending with
  | true => exact ⟨by simp [bumpNotice, hp], by simpa [bumpNotice, hp] using level,
      by simp [bumpNotice, hp]⟩
  | false => exact ⟨by simp [bumpNotice, hp], by simpa [bumpNotice, hp] using level,
      by simp [bumpNotice, hp]⟩

theorem clearNoticeRec_lawful (q : NoticeRec) (h : q.lawful) : (clearNoticeRec q).lawful :=
  ⟨Nat.zero_le _, h.2.1, fun _ => ⟨rfl, rfl⟩⟩

theorem State.raise_commKept (s : State) (n : NoticeSource) (d : BitVec 32) :
    CommKept s (s.raise n d) :=
  s.changeNotice_commKept n (bumpNotice_lawful d)

theorem NoticesLaw.clearNotices {s : State} (h : NoticesLaw s) : NoticesLaw s.clearNotices := by
  obtain ⟨-, floor, recs⟩ := h
  refine ⟨rfl, floor, fun i => ?_⟩
  rw [show s.clearNotices.notices.sources[i] = clearNoticeRec s.notices.sources[i] from
    getElem_mapVec _ _ _ _]
  exact clearNoticeRec_lawful _ (recs i)

/-! ### The transmit queue -/

theorem dropNewestClass3_sublist (q : List Frame) : (dropNewestClass3 q).Sublist q := by
  have h := (List.eraseP_sublist (p := fun f : Frame => f.body.lineClass == 3)
    (l := q.reverse)).reverse
  rwa [List.reverse_reverse] at h

/-- A frame goes out where one of class 3 is queued. -/
theorem dropNewestClass3_length {q : List Frame} (h : q.any fun g => g.body.lineClass == 3) :
    (dropNewestClass3 q).length + 1 = q.length := by
  obtain ⟨f, hf, h3⟩ := List.any_eq_true.mp h
  have pos : 0 < q.length := List.length_pos_of_mem hf
  have erased := List.length_eraseP_of_mem (p := fun f : Frame => f.body.lineClass == 3)
    (List.mem_reverse.mpr hf) h3
  rw [dropNewestClass3, List.length_reverse, erased, List.length_reverse]
  omega

/-- A queue with one frame for each key, and a frame of another key at its end. -/
theorem keys_nodup_append {q : List Frame} (h : (q.map frameKey).Nodup) {f : Frame}
    (hf : ∀ g ∈ q, frameKey g ≠ frameKey f) : ((q ++ [f]).map frameKey).Nodup := by
  rw [List.map_append, List.nodup_append]
  refine ⟨h, List.nodup_singleton _, fun a ha b hb => ?_⟩
  obtain ⟨g, hg, rfl⟩ := List.mem_map.mp ha
  rw [List.mem_singleton.mp hb]
  exact hf g hg

/-- A requested frame keeps the queue within R54 and R55. -/
theorem enqueue_keeps {q : List Frame} (f : Frame) (len : q.length ≤ 16)
    (keys : (q.map frameKey).Nodup) :
    (enqueue q f).1.length ≤ 16 ∧ ((enqueue q f).1.map frameKey).Nodup := by
  unfold enqueue
  split
  · have same : ((q.map fun g => if frameKey g = frameKey f then f else g).map frameKey) =
        q.map frameKey := by
      rw [List.map_map]
      refine List.map_congr_left fun g _ => ?_
      by_cases h : frameKey g = frameKey f <;> simp [h]
    exact ⟨by simpa using len, by rw [same]; exact keys⟩
  · rename_i other
    have away : ∀ g ∈ q, frameKey g ≠ frameKey f := by simpa using other
    split
    · exact ⟨by simp; omega, keys_nodup_append keys away⟩
    · split
      · exact ⟨len, keys⟩
      · split
        · rename_i h3
          have shorter := dropNewestClass3_length h3
          have sub := dropNewestClass3_sublist q
          exact ⟨by simp; omega, keys_nodup_append (keys.sublist (sub.map _))
            fun g hg => away g (sub.subset hg)⟩
        · exact ⟨len, keys⟩

theorem State.withTx_commKept {s : State} (on : s.bus.tx = .on) {q : List Frame}
    (h : TxQueueLaw s → q.length ≤ 16 ∧ (q.map frameKey).Nodup) : CommKept s (s.withTx q) := by
  refine ⟨h, fun ⟨unc, rest, _, rx⟩ => ⟨unc, rest, fun l => ?_, rx⟩, fun _ => id, id⟩
  rw [State.withTx_bus_tx, on] at l
  cases l

theorem State.request_commKept (s : State) (T : ToteNo) (b : FrameBody) :
    CommKept s (s.request T b) := by
  unfold State.request
  split
  · rename_i on
    have queued := State.withTx_commKept on
      fun law => enqueue_keeps ⟨s.bus.ownStation.getD 0, T, b⟩ law.1 law.2
    dsimp only
    split
    · exact queued.trans (State.raise_commKept _ _ _)
    · exact queued
  · exact .refl _

theorem State.requestState_commKept (s : State) : CommKept s s.requestState :=
  s.request_commKept _ _

/-! ### The shared operations -/

theorem State.withWants_commKept (s : State) (ws : List WantRec) : CommKept s (s.withWants ws) :=
  .of_eq rfl rfl rfl

theorem State.announce_commKept (s : State) (T : ToteNo) (W : Nat) :
    CommKept s (s.announce T W) :=
  (s.withWants_commKept _).trans (State.request_commKept _ _ _)

theorem State.checkWant_commKept (s : State) (T : ToteNo) : CommKept s (s.checkWant T) := by
  unfold State.checkWant
  split
  · split
    · exact s.announce_commKept _ _
    · exact .refl _
  · exact .refl _

theorem State.deriveWant_commKept (s : State) (T : ToteNo) : CommKept s (s.deriveWant T) := by
  unfold State.deriveWant
  split
  · exact (s.withWants_commKept _).trans (State.request_commKept _ _ _)
  · exact (s.withWants_commKept _).trans (State.request_commKept _ _ _)
  · exact s.checkWant_commKept _
  · exact .refl _

theorem State.reready_commKept (s : State) (h : Handle) : CommKept s (s.reready h) := by
  unfold State.reready
  split
  · exact .refl _
  · split
    · exact .refl _
    · dsimp only
      split
      · exact (State.raise_commKept _ _ _).after (.of_eq rfl rfl rfl)
      · exact .of_eq rfl rfl rfl

theorem State.parkFace_commKept (s : State) : CommKept s s.parkFace :=
  s.parkFace_frame.commKept (by simp) (by simp) (by simp)

theorem State.preemptCheck_commKept (s : State) : CommKept s s.preemptCheck := by
  unfold State.preemptCheck
  split
  · split
    · exact s.parkFace_commKept
    · split
      · exact .refl _
      · exact (State.raise_commKept _ _ _).after (.of_eq rfl rfl rfl)
    · exact .refl _
  · exact .refl _

theorem State.headTurnedUrgent_commKept (s : State) : CommKept s s.headTurnedUrgent := by
  unfold State.headTurnedUrgent
  split
  · exact s.preemptCheck_commKept
  · exact .refl _

theorem State.reurgent_commKept (s : State) (p : ToteNo → Bool) : CommKept s (s.reurgent p) := by
  unfold State.reurgent
  dsimp only
  split
  · exact (State.headTurnedUrgent_commKept _).after (.of_eq rfl rfl rfl)
  · exact .of_eq rfl rfl rfl

theorem State.beginRelease_commKept (s : State) : CommKept s s.beginRelease :=
  s.beginRelease_frame.commKept (by simp) (by simp) (by simp)

theorem State.fill_commKept (s : State) : CommKept s s.fill :=
  s.fill_frame.commKept (by simp) (by simp) (by simp)

theorem State.returnActive_commKept (s : State) : CommKept s s.returnActive := by
  unfold State.returnActive
  split
  · exact .refl _
  · exact (State.reurgent_commKept _ _).after ((State.deriveWant_commKept _ _).after (.of_eq rfl rfl rfl))

theorem State.releasePresenting_commKept (s : State) : CommKept s s.releasePresenting :=
  s.returnActive_commKept.trans (State.beginRelease_commKept _)

theorem State.requestLine_commKept (s : State) : CommKept s s.requestLine := by
  unfold State.requestLine
  split
  · exact .refl _
  · split
    · exact s.beginRelease_commKept
    · exact (State.reurgent_commKept _ _).after ((State.deriveWant_commKept _ _).after (.of_eq rfl rfl rfl))

theorem State.lineBoundary_commKept (s : State) (l : Line) : CommKept s (s.lineBoundary l) := by
  have checked := (s.reurgent_commKept (· == l.tote)).trans (State.reready_commKept _ l.handle)
  unfold State.lineBoundary
  dsimp only
  split
  · split
    · exact checked.trans (State.beginRelease_commKept _)
    · split
      · exact checked.trans (State.preemptCheck_commKept _)
      · exact (checked.trans (State.preemptCheck_commKept _)).trans (State.requestLine_commKept _)
  · exact checked

theorem State.jamLane_commKept (s : State) (x : Sensor) : CommKept s (s.jamLane x) := by
  unfold State.jamLane
  split
  · exact .refl _
  · exact (State.raise_commKept _ _ _).after (.of_eq rfl rfl rfl)

theorem State.settleLane_commKept (s : State) : CommKept s s.settleLane := by
  unfold State.settleLane
  dsimp only
  split
  · exact .of_eq rfl rfl rfl
  · exact (State.requestState_commKept _).after (.of_eq rfl rfl rfl)

theorem State.place_commKept (s : State) (e : EalEntry) : CommKept s (s.place e) :=
  (s.place_frame e).commKept (by simp) (by simp) (by simp)

theorem State.lockFailure_commKept (s : State) (T : ToteNo) : CommKept s (s.lockFailure T) := by
  unfold State.lockFailure
  dsimp only
  split
  · exact (State.raise_commKept _ _ _).after (.of_eq rfl rfl rfl)
  · exact .of_eq rfl rfl rfl

theorem State.coldAlertWork_commKept (s : State) (T : ToteNo) :
    CommKept s (s.coldAlertWork T) := by
  unfold State.coldAlertWork
  split
  · split
    · exact (State.raise_commKept _ _ _).after (.of_eq rfl rfl rfl)
    · exact .refl _
  · exact .refl _

theorem State.holdLines_commKept (s : State) (T : ToteNo) : CommKept s (s.holdLines T) := by
  have raised : CommKept s ((s.updRec T fun q => { q with breachMark := true }).raise
      .coldBreach T) := (State.raise_commKept _ _ _).after (.of_eq rfl rfl rfl)
  unfold State.holdLines
  dsimp only
  split
  · exact raised.trans (.of_eq rfl rfl rfl)
  · exact raised.trans (.of_eq rfl rfl rfl)

theorem State.breach_commKept (s : State) (T : ToteNo) : CommKept s (s.breach T) := by
  have held : CommKept s (s.holdTote T) := ((s.holdLines_commKept T).trans
    (State.deriveWant_commKept _ T)).trans (CommKept.foldl State.reready_commKept _ _)
  rw [State.breach_eq]
  split
  · exact held.trans (State.beginRelease_commKept _)
  · exact held

theorem State.coldBreachWork_commKept (s : State) (T : ToteNo) :
    CommKept s (s.coldBreachWork T) := by
  unfold State.coldBreachWork
  split
  · exact s.breach_commKept _
  · exact .refl _

theorem State.coldWork_commKept (s : State) (T : ToteNo) : CommKept s (s.coldWork T) :=
  (s.coldAlertWork_commKept T).trans (State.coldBreachWork_commKept _ T)

/-! ### The bench mode -/

/-- A configured mode is entered from a configured mode: the transmitter follows (R63). -/
theorem busOnMode_keeps {s t : State} {m : BenchMode} (hs : s.mode ≠ .unconfigured)
    (hm : m ≠ .unconfigured) (mode : t.mode = m) (bus : t.bus = busOnMode s.bus m)
    (notices : t.notices = s.notices) : CommKept s t := by
  refine ⟨fun h => ?_, fun ⟨unc, rest, listen, rx⟩ => ?_, fun ⟨unc, rest, listen, rx⟩ a => ?_,
    fun h => ?_⟩
  · unfold TxQueueLaw at h ⊢
    rw [bus, busOnMode_queue]
    exact h
  · have on : s.bus.tx ≠ .off := fun e => hs (unc.mpr e)
    have up : s.bus.rxOn = true := by
      cases h : s.bus.rxOn with
      | true => rfl
      | false => exact absurd (rx.mp h) hs
    unfold TransmitterLaw
    rw [mode, bus]
    cases m with
    | unconfigured => exact absurd rfl hm
    | rest =>
      cases htx : s.bus.tx with
      | off => exact absurd htx on
      | closing => simp [busOnMode, htx, up]
      | listenOnly => simp [busOnMode, htx, up, listen htx]
      | on =>
        by_cases idle : s.bus.queue = [] ∧ s.bus.slot = none
        · simp [busOnMode, htx, idle, up]
        · have busy : (s.bus.queue.isEmpty && s.bus.slot.isNone) = false := by
            simpa [imp_iff_not_or, not_and_or, Option.isSome_iff_ne_none] using idle
          simp [busOnMode, htx, busy, up]
    | sweeping => simp [busOnMode, up]
    | active => simp [busOnMode, up]
    | draining => simp [busOnMode, up]
  · obtain ⟨going, quiet, tries, gap⟩ := a
    have kept : (busOnMode s.bus m).attempting = s.bus.attempting ∧
        (busOnMode s.bus m).slot = s.bus.slot ∧ (busOnMode s.bus m).meant = s.bus.meant ∧
        (busOnMode s.bus m).line = s.bus.line ∧ (busOnMode s.bus m).rxOn = s.bus.rxOn ∧
        (busOnMode s.bus m).slotDoomed = s.bus.slotDoomed ∧
        (s.bus.attempting = true →
          (busOnMode s.bus m).tx = .on ∨ (busOnMode s.bus m).tx = .closing) := by
      cases m with
      | unconfigured => exact absurd rfl hm
      | rest =>
        unfold busOnMode
        dsimp only
        split
        · refine ⟨rfl, rfl, rfl, rfl, rfl, rfl, fun h => ?_⟩
          obtain ⟨⟨x, hx, -⟩, -, -⟩ := going h
          simp [hx]
        · exact ⟨rfl, rfl, rfl, rfl, rfl, rfl, fun h => (going h).2.2⟩
      | sweeping => exact ⟨rfl, rfl, rfl, rfl, rfl, rfl, fun _ => .inl rfl⟩
      | active => exact ⟨rfl, rfl, rfl, rfl, rfl, rfl, fun _ => .inl rfl⟩
      | draining => exact ⟨rfl, rfl, rfl, rfl, rfl, rfl, fun _ => .inl rfl⟩
    obtain ⟨attempting, slot, meant, line, rxOn, doomed, tx⟩ := kept
    unfold AttemptLaw
    rw [bus, attempting, slot, meant, line, rxOn, doomed]
    exact ⟨fun h => ⟨(going h).1, (going h).2.1, tx h⟩, quiet, tries, gap⟩
  · unfold NoticesLaw
    rw [notices]
    exact h

/-- A mode entered, before STATE is requested (R63, R148). -/
def State.modeEntered (s : State) (m : BenchMode) : State :=
  let s1 := (s.withModeCtl { s.modeCtl with mode := m }).raise .modeChanged
    (BitVec.ofNat 32 (modeCode m))
  let s2 : State := { s1 with bus := busOnMode s1.bus m }
  s2.withModeCtl { s2.modeCtl with able := s2.ableNow }

theorem State.enterMode_eq (s : State) (m : BenchMode) :
    s.enterMode m = if m = .rest then s.modeEntered m else (s.modeEntered m).requestState := rfl

theorem State.modeEntered_bus (s : State) (m : BenchMode) :
    (s.modeEntered m).bus = busOnMode s.bus m := rfl

theorem State.modeEntered_notices (s : State) (m : BenchMode) :
    (s.modeEntered m).notices =
      (s.raise .modeChanged (BitVec.ofNat 32 (modeCode m))).notices := rfl

theorem State.modeEntered_modeCtl (s : State) (m : BenchMode) :
    (s.modeEntered m).modeCtl =
      { mode := m, sweepReturn := s.modeCtl.sweepReturn,
        able := m == .active && s.lane.jam.isNone && decide (s.queueRecords < s.conf.c) } := rfl

theorem State.modeEntered_frame (s : State) (m : BenchMode) :
    SameExcept [.modeCtl, .notices, .bus] s (s.modeEntered m) := by
  simp [SameExcept, State.modeEntered, State.raise]

theorem State.modeEntered_commKept {s : State} (hs : s.mode ≠ .unconfigured) {m : BenchMode}
    (hm : m ≠ .unconfigured) : CommKept s (s.modeEntered m) :=
  (s.raise_commKept .modeChanged (BitVec.ofNat 32 (modeCode m))).trans
    (busOnMode_keeps hs hm rfl rfl rfl)

theorem State.enterMode_commKept {s : State} (hs : s.mode ≠ .unconfigured) {m : BenchMode}
    (hm : m ≠ .unconfigured) : CommKept s (s.enterMode m) := by
  rw [s.enterMode_eq]
  split
  · exact State.modeEntered_commKept hs hm
  · exact (State.modeEntered_commKept hs hm).trans (State.requestState_commKept _)

theorem SweepReturn.toMode_configured (r : SweepReturn) : r.toMode ≠ .unconfigured := by
  cases r <;> decide

theorem State.sweepTest_commKept (s : State) : CommKept s s.sweepTest := by
  unfold State.sweepTest
  split
  · rename_i h
    have sweeping : s.mode = .sweeping := by
      rw [Bool.and_eq_true, beq_iff_eq] at h
      exact h.1
    exact State.enterMode_commKept (by simp [sweeping]) (SweepReturn.toMode_configured _)
  · exact .refl _

theorem State.drainTest_commKept (s : State) : CommKept s s.drainTest := by
  unfold State.drainTest
  split
  · rename_i h
    have draining : s.mode = .draining := by
      rw [Bool.and_eq_true, beq_iff_eq] at h
      exact h.1
    exact State.enterMode_commKept (by simp [draining]) (by decide)
  · exact .refl _

theorem State.enterSweeping_commKept {s : State} (hs : s.mode ≠ .unconfigured)
    (r : SweepReturn) : CommKept s (s.enterSweeping r) := by
  have entered : CommKept (s.withModeCtl { s.modeCtl with sweepReturn := r })
      ((s.withModeCtl { s.modeCtl with sweepReturn := r }).enterMode .sweeping) :=
    State.enterMode_commKept (s := s.withModeCtl { s.modeCtl with sweepReturn := r }) hs
      (by decide)
  exact ((entered.after (.of_eq rfl rfl rfl)).trans (State.fill_commKept _)).trans
    (State.sweepTest_commKept _)

/-! ### The local link -/

theorem State.reply_commKept (s : State) (c : Byte) (st : Status) (fs : List Byte) :
    CommKept s (s.reply c st fs) := .of_eq rfl rfl rfl

theorem CommKept.reply {s t : State} (h : CommKept s t) (c : Byte) (st : Status)
    (fs : List Byte) : CommKept s (t.reply c st fs) := h.trans (t.reply_commKept c st fs)

theorem State.whenConfigured_commKept {s : State} {effect : State → State} (code : Byte)
    (h : CommKept s (effect s)) : CommKept s (s.whenConfigured code effect) := by
  unfold State.whenConfigured
  split
  · exact h
  · exact s.reply_commKept _ _ _

/-- An accepted CONFIGURE turns the transmitter on with the receiver (R64), no attempt being under way. -/
theorem State.storeConfig_commKept {s : State} (hs : s.mode = .unconfigured) (f : ConfigFields)
    (r : SweepReturn) :
    CommKept s (((s.storeConfig f).withModeCtl { s.modeCtl with sweepReturn := r }).modeEntered
      .sweeping) := by
  refine ⟨id, fun _ => ?_, fun ⟨unc, _, _, _⟩ ⟨going, quiet, tries, _⟩ => ?_,
    (s.raise_commKept .modeChanged _).2.2.2⟩
  · unfold TransmitterLaw
    rw [State.modeEntered_bus]
    exact ⟨⟨fun h => (by cases h), fun h => (by cases h)⟩, ⟨fun h => (by cases h), fun h => by
      rcases h with h | h <;> cases h⟩, fun h => (by cases h), fun h => (by cases h),
      fun h => (by cases h)⟩
  · have off : s.bus.tx = .off := unc.mp hs
    have still : s.bus.attempting = false := by
      cases h : s.bus.attempting with
      | false => rfl
      | true => rcases (going h).2.2 with e | e <;> simp [off] at e
    unfold AttemptLaw
    rw [State.modeEntered_bus]
    refine ⟨fun h => ?_, fun _ => quiet still, tries, fun h => ?_⟩
    · exact absurd (still.symm.trans h) (by decide)
    · cases h

theorem State.configure_commKept (s : State) (f : ConfigFields) :
    CommKept s (s.configure f) := by
  unfold State.configure
  split
  · exact s.reply_commKept _ _ _
  · rename_i unconfigured
    have hs : s.mode = .unconfigured := by
      simpa [State.configured, State.mode] using unconfigured
    split
    · exact (((((State.storeConfig_commKept hs f .active).trans
        (State.requestState_commKept _)).trans (State.fill_commKept _)).trans
        (State.sweepTest_commKept _)).trans (State.settleLane_commKept _)).reply 1 _ _
    · exact s.reply_commKept _ _ _

theorem State.clearWork_commKept (s : State) : CommKept s s.clearWork := by
  refine ⟨fun _ => ⟨by simp [State.clearWork, busRestarted], List.nodup_nil⟩,
    fun ⟨unc, rest, listen, rx⟩ => ⟨unc, rest, fun h => ⟨rfl, ?_⟩, rx⟩,
    fun _ ⟨going, quiet, tries, gap⟩ => ⟨fun h => ?_, fun h => ⟨(quiet h).1, h⟩, fun x hx => ?_,
      gap⟩, id⟩
  · simp [State.clearWork, busRestarted, (listen h).2]
  · obtain ⟨⟨x, hx, meant⟩, line, tx⟩ := going h
    have on : s.bus.attempting = true := h
    exact ⟨⟨x, by simpa [State.clearWork, busRestarted, on] using hx, meant⟩, line, tx⟩
  · cases h : s.bus.attempting with
    | false => simp [State.clearWork, busRestarted, h] at hx
    | true => exact tries x (by simpa [State.clearWork, busRestarted, h] using hx)

theorem State.clearNotices_commKept (s : State) : CommKept s s.clearNotices :=
  ⟨id, id, fun _ => id, NoticesLaw.clearNotices⟩

theorem State.restart_commKept (s : State) : CommKept s s.restart := by
  unfold State.restart
  split
  · rename_i h
    have hs : s.clearWork.clearNotices.mode ≠ .unconfigured := s.configured_iff.mp h
    exact (((s.clearWork_commKept.trans (State.clearNotices_commKept _)).trans
      (State.enterSweeping_commKept hs _)).trans (State.settleLane_commKept _)).reply 3 _ _
  · refine CommKept.reply ?_ 3 _ _
    exact (State.clearNotices_commKept _).after (.of_eq rfl rfl rfl)

theorem State.setTime_commKept (s : State) (t : Clock) : CommKept s (s.setTime t) := by
  refine State.whenConfigured_commKept 2 (CommKept.reply ?_ 2 _ _)
  exact (State.settleLane_commKept _).after ((CommKept.foldl State.checkWant_commKept _ _).after
    ((State.reurgent_commKept _ _).after (.of_eq rfl rfl rfl)))

theorem State.goToRest_commKept (s : State) : CommKept s s.goToRest := by
  unfold State.goToRest
  split
  · rename_i h
    exact ((State.enterMode_commKept (by simp [h]) (by decide)).trans
      (State.drainTest_commKept _)).trans (State.settleLane_commKept _)
  · exact .of_eq rfl rfl rfl
  all_goals exact .refl _

theorem State.wakeUp_commKept (s : State) : CommKept s s.wakeUp := by
  unfold State.wakeUp
  split
  · rename_i h
    exact (State.enterMode_commKept (by simp [h]) (by decide)).trans (State.settleLane_commKept _)
  · rename_i h
    exact (State.enterMode_commKept (by simp [h]) (by decide)).trans (State.settleLane_commKept _)
  · exact .of_eq rfl rfl rfl
  all_goals exact .refl _

theorem State.addLine_commKept (s : State) (l : Line) : CommKept s (s.addLine l) := by
  have made : CommKept s (s.withNewLine l) := by
    unfold State.withNewLine
    split
    · exact (State.raise_commKept _ _ _).after (.of_eq rfl rfl rfl)
    · exact .of_eq rfl rfl rfl
  rw [State.addLine_eq]
  exact (((made.trans (State.deriveWant_commKept _ _)).trans (State.reready_commKept _ _)).trans
    (State.reurgent_commKept _ _)).trans (State.settleLane_commKept _)

theorem State.loadLine_commKept (s : State) (tag : Tag) (tote : ToteNo) (handle : Handle)
    (cls qty prio : Byte) : CommKept s (s.loadLine tag tote handle cls qty prio) := by
  refine State.whenConfigured_commKept 4 ?_
  split
  · exact s.reply_commKept _ _ _
  · split
    · exact s.reply_commKept _ _ _
    · split
      · exact s.reply_commKept _ _ _
      · exact (s.addLine_commKept _).reply 4 _ _

theorem State.setLineState_commKept (s : State) (tag : Tag) (x : LineState) :
    CommKept s (s.setLineState tag x) := .of_eq rfl rfl rfl

theorem State.cancelOpen_commKept (s : State) (l : Line) : CommKept s (s.cancelOpen l) := by
  have line := s.setLineState_commKept l.tag .cancelled
  have checked := ((line.trans (State.reready_commKept _ l.handle)).trans
    (State.reurgent_commKept _ (· == l.tote))).trans (State.settleLane_commKept _)
  unfold State.cancelOpen
  dsimp only
  split
  · exact (State.settleLane_commKept _).after ((State.lineBoundary_commKept _ l).after (.of_eq rfl rfl rfl))
  · exact (((line.trans (State.deriveWant_commKept _ _)).trans
      (State.reready_commKept _ _)).trans (State.reurgent_commKept _ _)).trans
      (State.settleLane_commKept _)
  · exact checked
  · exact checked
  all_goals exact .refl _

theorem State.cancelLine_commKept (s : State) (tag : Tag) : CommKept s (s.cancelLine tag) := by
  refine State.whenConfigured_commKept 5 ?_
  split
  · exact s.reply_commKept _ _ _
  · split
    · exact (s.cancelOpen_commKept _).reply 5 _ _
    · exact s.reply_commKept _ _ _

theorem State.newPlacement_commKept (s : State) (h : Handle) (k : PutIdx) (deadline : Clock) :
    CommKept s (s.newPlacement h k deadline) :=
  (State.settleLane_commKept _).after ((State.reurgent_commKept _ _).after ((State.reready_commKept _ _).after ((CommKept.foldl State.deriveWant_commKept _ _).after (.of_eq rfl rfl rfl))))

theorem State.newDeadline_commKept (s : State) (h : Handle) (k : PutIdx) (o : Order)
    (deadline : Clock) : CommKept s (s.newDeadline h k o deadline) :=
  (State.settleLane_commKept _).after ((CommKept.foldl State.checkWant_commKept _ _).after ((State.reurgent_commKept _ _).after (.of_eq rfl rfl rfl)))

theorem State.placeOrder_commKept (s : State) (h : Handle) (position : Byte) (deadline : Clock) :
    CommKept s (s.placeOrder h position deadline) := by
  refine State.whenConfigured_commKept 6 ?_
  split
  · exact s.reply_commKept _ _ _
  · split
    · exact s.reply_commKept _ _ _
    · split
      · exact s.reply_commKept _ _ _
      · split
        · split
          · exact (s.newDeadline_commKept _ _ _ _).reply 6 _ _
          · exact s.reply_commKept _ _ _
        · exact (s.newPlacement_commKept _ _ _).reply 6 _ _

theorem State.releaseFace_commKept (s : State) : CommKept s s.releaseFace := by
  refine State.whenConfigured_commKept 8 ?_
  split
  · exact (s.releasePresenting_commKept.trans (State.settleLane_commKept _)).reply 8 _ _
  · exact s.reply_commKept _ _ _

theorem State.clearJam_commKept (s : State) : CommKept s s.clearJam := by
  refine State.whenConfigured_commKept 11 (CommKept.reply ?_ 11 _ _)
  split
  · have left : CommKept s _ := (CommKept.trans (.of_eq rfl rfl rfl)
      (State.fill_commKept (s.withLane
        { s.lane with
          jam := none
          waits := restartWaits s.lane.waits
          sensors := restartSensors s.lane.sensors }))).trans
      ((State.tryLeave_frame _).commKept (by simp) (by simp) (by simp))
    exact (left.trans (State.sweepTest_commKept _)).trans (State.settleLane_commKept _)
  · exact .refl _

theorem State.setNotice_commKept (s : State) (source enable level : Byte) :
    CommKept s (s.setNotice source enable level) := by
  refine State.whenConfigured_commKept 13 ?_
  split
  · exact s.reply_commKept _ _ _
  · split
    · rename_i h
      refine CommKept.reply (s.changeNotice_commKept _ fun q hq => ?_) 13 _ _
      exact ⟨hq.1, h.2, hq.2.2⟩
    · exact s.reply_commKept _ _ _

theorem State.setFloor_commKept (s : State) (floor : Byte) : CommKept s (s.setFloor floor) := by
  refine State.whenConfigured_commKept 14 ?_
  split
  · rename_i h
    exact ⟨id, id, fun _ => id, fun ⟨_, _, recs⟩ => ⟨rfl, h, recs⟩⟩
  · exact s.reply_commKept _ _ _

theorem State.clearNotice_commKept (s : State) (source : Byte) :
    CommKept s (s.clearNotice source) := by
  refine State.whenConfigured_commKept 16 ?_
  split
  · exact s.reply_commKept _ _ _
  · exact (s.changeNotice_commKept _ clearNoticeRec_lawful).reply 16 _ _

theorem State.runCommand_commKept (s : State) (c : LinkCommand) :
    CommKept s (s.runCommand c) := by
  have quiet : ∀ {bs : List Block} {t : State}, SameExcept bs s t → Block.bus ∉ bs →
    Block.notices ∉ bs → Block.modeCtl ∉ bs → CommKept s t := fun h => h.commKept
  cases c with
  | configure f => exact s.configure_commKept f
  | setTime t => exact s.setTime_commKept t
  | restart => exact s.restart_commKept
  | loadLine tag tote handle cls qty prio => exact s.loadLine_commKept tag tote handle cls qty prio
  | cancelLine tag => exact s.cancelLine_commKept tag
  | placeOrder h position deadline => exact s.placeOrder_commKept h position deadline
  | closeOrder h =>
    exact quiet (s.closeOrder_frame h) (by simp [commandBlocks])
      (by simp [commandBlocks]) (by simp [commandBlocks])
  | releaseFace => exact s.releaseFace_commKept
  | rest => exact State.whenConfigured_commKept 9 (s.goToRest_commKept.reply 9 _ _)
  | wake => exact State.whenConfigured_commKept 10 (s.wakeUp_commKept.reply 10 _ _)
  | clearJam => exact s.clearJam_commKept
  | retrack =>
    exact quiet s.retrack_frame (by simp [commandBlocks]) (by simp [commandBlocks])
      (by simp [commandBlocks])
  | setNotice source enable level => exact s.setNotice_commKept source enable level
  | setFloor floor => exact s.setFloor_commKept floor
  | readNotice => exact quiet s.readNotice_frame (by simp) (by simp) (by simp)
  | clearNotice source => exact s.clearNotice_commKept source
  | readStatus => exact quiet s.readStatus_frame (by simp) (by simp) (by simp)
  | readLine tag => exact quiet (s.readLine_frame tag) (by simp) (by simp) (by simp)
  | readLane => exact quiet s.readLane_frame (by simp) (by simp) (by simp)
  | readTrack => exact quiet s.readTrack_frame (by simp) (by simp) (by simp)
  | readConfig => exact quiet s.readConfig_frame (by simp) (by simp) (by simp)

theorem State.takeFrame_commKept (s : State) (bytes : List Byte) :
    CommKept s (s.takeFrame bytes) := by
  unfold State.takeFrame
  split
  · exact .refl _
  · split
    · exact .refl _
    · split
      · exact s.runCommand_commKept _
      · exact s.reply_commKept _ _ _

/-! ### The bench line -/

/-- A quiet line that becomes idle. -/
theorem State.lineMs_commKept (s : State) : CommKept s s.lineMs := by
  refine ⟨id, id, fun _ ⟨going, quiet, tries, gap⟩ => ⟨fun h => ?_, quiet, tries, fun h => ?_⟩, id⟩
  · obtain ⟨slot, line, tx⟩ := going h
    exact ⟨slot, by simp [State.lineMs, Bus.gapOver_line, line], tx⟩
  · have off : s.bus.rxOn = false := h
    simp [State.lineMs, Bus.gapOver_line, off, gap off]

theorem State.lineIdled_commKept (s : State) : CommKept s s.lineIdled := by
  refine ⟨id, id, fun _ ⟨going, quiet, tries, gap⟩ => ⟨fun h => ?_, quiet, tries, fun h => ?_⟩, id⟩
  · obtain ⟨slot, line, tx⟩ := going h
    have on : s.bus.attempting = true := h
    exact ⟨slot, by simp [State.lineIdled, on, line], tx⟩
  · have off : s.bus.rxOn = false := h
    simp [State.lineIdled, off, gap off]

/-- The head of the queue is one of its frames. -/
theorem queueHead_mem {q : List Frame} {f : Frame} (h : queueHead q = some f) : f ∈ q := by
  unfold queueHead at h
  split at h
  · cases h
    exact List.mem_of_find?_eq_some (by assumption)
  · split at h
    · cases h
      exact List.mem_of_find?_eq_some (by assumption)
    · exact List.mem_of_mem_head? h

/-- What the slot's filling leaves alone, and what is then in the slot (R53). -/
theorem fillSlot_keeps (b : Bus) :
    (fillSlot b).tx = b.tx ∧ (fillSlot b).rxOn = b.rxOn ∧ (fillSlot b).queue.Sublist b.queue ∧
    (fillSlot b).slotDoomed = b.slotDoomed ∧
    ∀ x, (fillSlot b).slot = some x → b.slot = some x ∨ x.attempts = 0 := by
  unfold fillSlot
  split
  · exact ⟨rfl, rfl, .refl _, rfl, fun x h => .inl h⟩
  · split
    · exact ⟨rfl, rfl, .refl _, rfl, fun x h => .inl h⟩
    · refine ⟨rfl, rfl, List.erase_sublist, rfl, fun x h => .inr ?_⟩
      cases h
      rfl

/-- An attempt that begins takes the transmitter ON or CLOSING (R51, R53, R63). -/
theorem beginAttempt_commKept (s : State) : CommKept s { s with bus := beginAttempt s.bus } := by
  unfold beginAttempt
  split
  · rename_i may
    simp only [Bus.mayAttempt, Bool.and_eq_true, Bool.or_eq_true, beq_iff_eq] at may
    obtain ⟨⟨tx, -⟩, -⟩ := may
    obtain ⟨keptTx, keptRx, sub, doomed, slotOf⟩ := fillSlot_keeps s.bus
    split
    · rename_i x hx
      refine ⟨fun ⟨len, keys⟩ => ⟨sub.length_le.trans len, keys.sublist (sub.map _)⟩,
        fun ⟨unc, rest, listen, rx⟩ => ?_, fun ⟨unc, _, _, rx⟩ ⟨_, _, tries, _⟩ => ?_, id⟩
      · show (s.mode = .unconfigured ↔ (fillSlot s.bus).tx = .off) ∧
          (s.mode = .rest ↔ ((fillSlot s.bus).tx = .closing ∨ (fillSlot s.bus).tx = .listenOnly)) ∧
          ((fillSlot s.bus).tx = .listenOnly → _) ∧
          ((fillSlot s.bus).rxOn = false ↔ s.mode = .unconfigured)
        rw [keptTx, keptRx]
        exact ⟨unc, rest, fun e => by rcases tx with h | h <;> simp [h] at e, rx⟩
      · refine ⟨fun _ => ⟨⟨x, hx, rfl⟩, rfl, ?_⟩, fun h => (by cases h), fun y hy => ?_, fun h => ?_⟩
        · show (fillSlot s.bus).tx = .on ∨ (fillSlot s.bus).tx = .closing
          rw [keptTx]
          exact tx
        · rcases slotOf y hy with h | h
          · exact tries y h
          · omega
        · have off : s.bus.tx = .off := unc.mp (rx.mp (keptRx.symm.trans h))
          rcases tx with e | e <;> simp [off] at e
    · exact .refl _
  · exact .refl _

/-- The end of an attempt leaves the slot as the outcome says, and no bit meant (R52, R53, R64). -/
theorem State.endAttempt_commKept {s : State} {x : TxSlot} (hx : s.bus.slot = some x)
    (going : s.bus.attempting = true) (r : List Bool) : CommKept s (s.endAttempt x r) := by
  unfold State.endAttempt
  split
  · exact .refl _
  · rename_i outcome _
    -- the bus without its attempt, the slot emptied or kept with one more loss
    have emptied : CommKept s { s with bus := emptySlot (s.bus.offLine r) } := by
      have queue : (emptySlot (s.bus.offLine r)).queue = s.bus.queue := by rw [emptySlot_eq]; rfl
      have rxOn : (emptySlot (s.bus.offLine r)).rxOn = s.bus.rxOn := by rw [emptySlot_eq]; rfl
      have slot : (emptySlot (s.bus.offLine r)).slot = none := by rw [emptySlot_eq]
      refine ⟨fun law => ?_, fun ⟨unc, rest, listen, rx⟩ => ?_,
        fun ⟨unc, _, _, rx⟩ ⟨on, _, _, _⟩ => ?_, id⟩
      · unfold TxQueueLaw
        rw [queue]
        exact law
      · unfold TransmitterLaw
        rw [queue, rxOn, slot]
        by_cases c : s.bus.tx = .closing ∧ s.bus.queue = []
        · have tx : (emptySlot (s.bus.offLine r)).tx = .listenOnly := by
            rw [emptySlot_eq]
            exact if_pos c
          rw [tx]
          refine ⟨⟨fun e => ?_, fun e => (by cases e)⟩, ⟨fun _ => .inr rfl,
            fun _ => rest.mpr (.inl c.1)⟩, fun _ => ⟨c.2, rfl⟩, rx⟩
          have off := unc.mp e
          rw [c.1] at off
          cases off
        · have tx : (emptySlot (s.bus.offLine r)).tx = s.bus.tx := by
            rw [emptySlot_eq]
            exact if_neg c
          rw [tx]
          exact ⟨unc, rest, fun h => ⟨(listen h).1, rfl⟩, rx⟩
      · rw [emptySlot_eq]
        refine ⟨fun h => (by cases h), fun _ => ⟨rfl, rfl⟩, fun y h => (by cases h), fun h => ?_⟩
        have off : s.bus.tx = .off := unc.mp (rx.mp h)
        rcases (on going).2.2 with e | e <;> simp [off] at e
    have kept : s.bus.slotDoomed = false → x.attempts + 1 < 16 → CommKept s { s with bus :=
        { s.bus.offLine r with slot := some { x with attempts := x.attempts + 1 } } } := by
      intro doomed few
      refine ⟨id, fun ⟨unc, rest, listen, rx⟩ => ⟨unc, rest, fun h => ?_, rx⟩,
        fun ⟨unc, _, _, rx⟩ ⟨on, _, _, _⟩ => ⟨fun h => (by cases h), fun _ => ⟨rfl, doomed⟩,
          fun y h => ?_, fun h => ?_⟩, id⟩
      · rw [(listen h).2] at hx
        cases hx
      · cases h
        exact few
      · have off : s.bus.tx = .off := unc.mp (rx.mp h)
        rcases (on going).2.2 with e | e <;> simp [off] at e
    unfold State.settleSlot
    dsimp only
    split
    · exact emptied
    · rename_i doomed
      split
      · exact emptied
      · split
        · exact emptied.trans (State.raise_commKept _ _ _)
        · split
          · exact emptied
          · exact kept (by simpa using doomed) (by omega)

theorem execAttemptEnd_commKept (r : List Bool) (s : State) :
    ∃ t, execAttemptEnd r s = .next t ∧ CommKept s t := by
  refine ⟨_, rfl, ?_⟩
  split
  · split
    · exact State.endAttempt_commKept (by assumption) (by assumption) r
    · exact .refl _
  · exact .refl _

theorem State.receiveWith_commKept {accept : State → State} (h : ∀ s, CommKept s (accept s))
    (s : State) (f : Frame) : CommKept s (s.receiveWith f accept) := by
  unfold State.receiveWith
  split
  · rw [s.frameOver_eq]
    dsimp only
    split
    · exact s.lineIdled_commKept.trans (State.raise_commKept _ _ _)
    · split
      · exact s.lineIdled_commKept.trans (h _)
      · exact s.lineIdled_commKept
  · exact .refl _

theorem State.noteDuplicate_commKept (s : State) (T : ToteNo) :
    CommKept s (s.noteDuplicate T) := by
  unfold State.noteDuplicate
  split
  · exact s.raise_commKept _ _
  · exact .refl _

theorem State.receive_commKept (s : State) (f : Frame) : CommKept s (s.receive f) := by
  obtain ⟨sender, T, body⟩ := f
  cases body with
  | infeed a =>
    exact State.receiveWith_commKept (accept := fun s => s.acceptInfeed T a)
      (fun s => (s.noteDuplicate_commKept T).trans (State.place_commKept _ _)) s _
  | release a =>
    exact State.receiveWith_commKept (accept := fun s => s.acceptRelease sender T a)
      (fun s => (State.place_commKept _ _).after
        (CommKept.trans (s.noteDuplicate_commKept T) (.of_eq rfl rfl rfl))) s _
  | ret =>
    exact State.receiveWith_commKept (accept := fun s => s.acceptReturn T)
      (fun s => .of_eq rfl rfl rfl) s _
  | want w =>
    exact State.receiveWith_commKept (accept := fun s => s.acceptWant sender T w)
      (fun s => .of_eq rfl rfl rfl) s _
  | drop =>
    exact State.receiveWith_commKept (accept := fun s => s.acceptDrop sender T)
      (fun s => .of_eq rfl rfl rfl) s _
  | hold =>
    exact State.receiveWith_commKept (accept := fun s => s.acceptHold sender T)
      (fun s => CommKept.trans (s.noteDuplicate_commKept T) (.of_eq rfl rfl rfl)) s _
  | state able =>
    exact State.receiveWith_commKept (accept := fun s => s.acceptState sender able)
      (fun s => .of_eq rfl rfl rfl) s _

/-! ### The reader -/

theorem State.sighted_commKept (s : State) (T : ToteNo) (part : Option EntryPart) :
    CommKept s (s.sighted T part) := by
  have judged : ∀ s : State, CommKept s (s.judge T part) := by
    intro s
    unfold State.judge
    split
    · exact s.raise_commKept _ _
    · split
      · exact .of_eq rfl rfl rfl
      · exact s.place_commKept _
  exact (State.settleLane_commKept _).after ((judged _).after (.of_eq rfl rfl rfl))

theorem State.matchRead_commKept (s : State) (e : EalEntry) : CommKept s (s.matchRead e) := by
  unfold State.matchRead
  dsimp only
  split
  · exact .of_eq rfl rfl rfl
  · exact (State.lockFailure_commKept _ _).after (.of_eq rfl rfl rfl)

theorem State.failedRead_commKept (s : State) : CommKept s s.failedRead := by
  unfold State.failedRead
  split
  · exact (State.sighted_commKept _ _ _).after (.of_eq rfl rfl rfl)
  · exact .refl _

theorem State.readReport_commKept (s : State) (r : ReaderReport) :
    CommKept s (s.readReport r) := by
  unfold State.readReport
  split
  · split
    · exact s.failedRead_commKept
    · split
      · unfold State.goodRead
        split
        · exact (s.matchRead_commKept _).trans (State.sighted_commKept _ _ _)
        · exact s.sighted_commKept _ _
      · exact .refl _
      · exact s.failedRead_commKept
      · exact s.failedRead_commKept
  · exact .refl _

/-! ### Lane events -/

theorem State.sensorEvent_commKept {effect : State → State} (h : ∀ s, CommKept s (effect s))
    (s : State) (x : Sensor) (b : Bool) :
    CommKept s ((s.sensorLevel x b).fieldEvent effect) := by
  unfold State.fieldEvent
  split
  · exact (State.settleLane_commKept _).after ((h _).after (.of_eq rfl rfl rfl))
  · exact .of_eq rfl rfl rfl

theorem State.entryBlocks_commKept (s : State) : CommKept s s.entryBlocks := by
  have complete : ∀ (s : State) d rest, CommKept s (s.complete d rest) := by
    intro s d rest
    have checked : ∀ s : State, CommKept s s.newHeadCheck := by
      intro s
      unfold State.newHeadCheck
      split
      · exact s.headTurnedUrgent_commKept
      · exact .refl _
    exact (State.fill_commKept _).after ((checked _).after ((State.coldWork_commKept _ d.tote).after ((State.request_commKept _ d.tote .hold).after (.of_eq rfl rfl rfl))))
  have stray : ∀ s : State, CommKept s s.strayEntry := by
    intro s
    unfold State.strayEntry
    split
    · dsimp only
      split
      · rename_i rest
        have hs : (s.pushRecord (strayRec s.clock)).mode ≠ .unconfigured := by
          show s.mode ≠ .unconfigured
          simp [rest]
        exact (State.enterSweeping_commKept hs _).after (.of_eq rfl rfl rfl)
      · exact (State.fill_commKept _).after (.of_eq rfl rfl rfl)
    · exact s.jamLane_commKept _
  refine State.sensorEvent_commKept (fun s => ?_) s _ _
  split
  · exact complete s _ _
  · exact stray s

theorem State.faceBlocks_commKept (s : State) : CommKept s s.faceBlocks := by
  have arrive : ∀ (s : State) q, CommKept s (s.arrive q) := by
    intro s q
    unfold State.arrive
    dsimp only
    split
    · exact (State.beginRelease_commKept _).after (.of_eq rfl rfl rfl)
    · split
      · split
        · exact (State.preemptCheck_commKept _).after (.of_eq rfl rfl rfl)
        · exact (State.requestLine_commKept _).after ((State.preemptCheck_commKept _).after (.of_eq rfl rfl rfl))
      · exact (State.requestLine_commKept _).after (.of_eq rfl rfl rfl)
  refine State.sensorEvent_commKept (fun s => ?_) s _ _
  split
  · exact arrive s _
  · split
    · exact s.fill_commKept
    · exact .refl _

theorem State.headBlocks_commKept (s : State) : CommKept s s.headBlocks := by
  refine State.sensorEvent_commKept (fun s => ?_) s _ _
  exact (State.fill_commKept _).after (.of_eq rfl rfl rfl)

theorem State.parkBlocks_commKept (s : State) : CommKept s s.parkBlocks := by
  refine State.sensorEvent_commKept (fun s => ?_) s _ _
  split
  · exact (State.fill_commKept _).after (.of_eq rfl rfl rfl)
  · split
    · exact s.fill_commKept
    · exact .refl _

theorem State.exitBlocks_commKept (s : State) : CommKept s s.exitBlocks := by
  refine State.sensorEvent_commKept (fun s => ?_) s _ _
  split
  · exact s.fill_commKept
  · exact .refl _

theorem State.exitClears_commKept (s : State) : CommKept s s.exitClears := by
  have out : ∀ (s : State) q, CommKept s (s.mergeOut q) := by
    intro s q
    unfold State.mergeOut
    split
    · exact .refl _
    · exact (s.request_commKept _ _).trans (State.place_commKept _ _)
  refine State.sensorEvent_commKept (fun s => ?_) s _ _
  split
  · exact (State.sweepTest_commKept _).after ((State.drainTest_commKept _).after ((State.fill_commKept _).after ((out _ _).after (.of_eq rfl rfl rfl))))
  · exact s.sweepTest_commKept

theorem State.sensorClears_commKept (s : State) (x : Sensor) : CommKept s (s.sensorClears x) :=
  State.sensorEvent_commKept State.sweepTest_commKept s _ _

theorem State.mergeGap_commKept (s : State) (g : Bool) :
    CommKept s ((s.withLane { s.lane with gap := g }).fieldEvent State.tryLeave) := by
  unfold State.fieldEvent
  split
  · have left := (State.tryLeave_frame (s.withLane { s.lane with gap := g })).commKept
      (by simp) (by simp) (by simp)
    exact (CommKept.trans (.of_eq rfl rfl rfl) left).trans (State.settleLane_commKept _)
  · exact .of_eq rfl rfl rfl

/-! ### Picking -/

theorem State.beamBreak_commKept (s : State) (k : PutIdx) : CommKept s (s.beamBreak k) := by
  have counted : ∀ (s : State) l, CommKept s (s.countPut l) := by
    intro s l
    unfold State.countPut
    dsimp only
    split
    · exact .of_eq rfl rfl rfl
    · exact (State.settleLane_commKept _).after (((State.lineBoundary_commKept _ l).after (.of_eq rfl rfl rfl)).after ((State.raise_commKept
        ((s.setPuts l.tag (l.puts + 1)).setLineState l.tag .done) .lineDone _).after (.of_eq rfl rfl rfl)))
  have judged : ∀ s : State, CommKept s (s.judgeBreak k) := by
    intro s
    unfold State.judgeBreak
    split
    · exact .refl _
    · split
      · exact s.raise_commKept _ _
      · split
        · split
          · exact counted s _
          · exact s.raise_commKept _ _
        · exact s.raise_commKept _ _
  unfold State.beamBreak
  split
  · exact (judged _).after (.of_eq rfl rfl rfl)
  · exact .of_eq rfl rfl rfl

theorem State.shortKey_commKept (s : State) : CommKept s s.shortKey := by
  unfold State.shortKey
  split
  · exact .refl _
  · rename_i l _
    exact (State.settleLane_commKept _).after (((State.lineBoundary_commKept _ l).after (.of_eq rfl rfl rfl)).after ((State.raise_commKept
      (s.setLineState l.tag .short) .lineShort _).after (.of_eq rfl rfl rfl)))

/-! ### Pulses, ticks and milliseconds -/

theorem State.overdueSteps_commKept (n : Nat) (s : State) :
    CommKept s (State.overdueSteps n s) := by
  induction n generalizing s with
  | zero => exact .refl _
  | succ n ih =>
    refine CommKept.trans ?_ (ih _)
    unfold State.overdueStep
    split
    · exact .refl _
    · split
      · exact (State.lockFailure_commKept _ _).after (.of_eq rfl rfl rfl)
      · exact .refl _

theorem State.divertStep_commKept (s : State) : CommKept s s.divertStep := by
  unfold State.divertStep
  split
  · exact .refl _
  · split
    · exact (State.place_commKept _ _).after ((State.request_commKept _ _ _).after
        (CommKept.trans (s.raise_commKept .divertFail _) (.of_eq rfl rfl rfl)))
    · exact .refl _

theorem State.divertSteps_commKept (n : Nat) (s : State) :
    CommKept s (State.divertSteps n s) := by
  induction n generalizing s with
  | zero => exact .refl _
  | succ n ih => exact s.divertStep_commKept.trans (ih _)

theorem State.pulse_commKept (s : State) : CommKept s s.pulse := by
  unfold State.pulse
  dsimp only
  split
  · exact (State.settleLane_commKept _).after ((State.drainTest_commKept _).after ((State.divertSteps_commKept _ _).after ((State.overdueSteps_commKept _ _).after (.of_eq rfl rfl rfl))))
  · exact .of_eq rfl rfl rfl

theorem State.stallWork_commKept (s : State) : CommKept s s.stallWork := by
  unfold State.stallWork
  split
  · exact .refl _
  · split
    · exact (State.raise_commKept _ _ _).after (.of_eq rfl rfl rfl)
    · exact .refl _

theorem State.refreshWork_commKept (s : State) : CommKept s s.refreshWork := by
  unfold State.refreshWork
  split
  · exact (CommKept.foldl (fun s T => s.request_commKept T .hold) _ _).after ((State.requestState_commKept _).after (.of_eq rfl rfl rfl))
  · exact .refl _

theorem State.countRefresh_commKept (s : State) : CommKept s s.countRefresh :=
  (State.refreshWork_commKept _).after (.of_eq rfl rfl rfl)

theorem State.tickStart_commKept (s : State) : CommKept s s.tickStart := by
  have counted := (State.countMergeWait_frame
    s.advanceClock.ageStations.ageEntries).commKept (by simp) (by simp) (by simp)
  exact (State.stallWork_commKept _).after (counted.after (.of_eq rfl rfl rfl))

theorem State.tick_commKept (s : State) : CommKept s s.tick := by
  by_cases h : s.mode = .unconfigured
  · rw [State.tick_unconfigured h]
    exact .of_eq rfl rfl rfl
  · rw [State.tick_configured h]
    have cold : CommKept s s.tickCold :=
      s.tickStart_commKept.trans (CommKept.foldl State.coldWork_commKept _ _)
    have checked : CommKept s s.tickChecked := (cold.trans (State.reurgent_commKept _ _)).trans
      (CommKept.foldl State.checkWant_commKept _ _)
    exact (checked.trans (State.countRefresh_commKept _)).trans (State.settleLane_commKept _)

theorem State.passMs_commKept (s : State) : CommKept s s.passMs := by
  have picking : ∀ s : State, CommKept s s.pickingMs := by
    intro s
    unfold State.pickingMs
    exact (CommKept.foldl (fun s k => s.raise_commKept .beamStuck _) _ _).after
      (.of_eq rfl rfl rfl)
  have lane : ∀ s : State, CommKept s s.laneMs := by
    intro s
    unfold State.laneMs
    dsimp only
    split
    · exact .refl _
    · split
      · exact .of_eq rfl rfl rfl
      · exact (State.jamLane_commKept _ _).after (.of_eq rfl rfl rfl)
  unfold State.passMs
  split
  · exact ((s.lineMs_commKept.trans (picking _)).trans (lane _)).trans
      (State.settleLane_commKept _)
  · exact .refl _

theorem State.passAll_commKept (n : Nat) (s : State) : CommKept s (State.passAll n s) := by
  induction n generalizing s with
  | zero => exact .refl _
  | succ n ih => exact s.passMs_commKept.trans (ih _)

/-! ### The obligation -/

theorem State.powerOn_commKept (s : State) : CommKept s s.powerOn :=
  ⟨fun _ => reset_txQueueLaw, fun _ => reset_transmitterLaw, fun _ _ => reset_attemptLaw,
    fun _ => reset_noticesLaw⟩

/-- Every row of the opcode table keeps the laws. -/
theorem exec_commKept (c : Instr) (s : State) : ∃ t, exec c s = .next t ∧ CommKept s t := by
  cases c with
  | powerOnReset => exact ⟨_, rfl, s.powerOn_commKept⟩
  | transaction bits =>
    exact ⟨_, rfl, (State.takeFrame_commKept _ _).after (.of_eq rfl rfl rfl)⟩
  | badFrame bytes => exact ⟨_, rfl, s.takeFrame_commKept bytes⟩
  | configure f => exact ⟨_, rfl, s.runCommand_commKept (.configure f)⟩
  | setTime t => exact ⟨_, rfl, s.runCommand_commKept (.setTime t)⟩
  | restart => exact ⟨_, rfl, s.runCommand_commKept .restart⟩
  | loadLine tag tote handle cls qty prio =>
    exact ⟨_, rfl, s.runCommand_commKept (.loadLine tag tote handle cls qty prio)⟩
  | cancelLine tag => exact ⟨_, rfl, s.runCommand_commKept (.cancelLine tag)⟩
  | placeOrder h position deadline =>
    exact ⟨_, rfl, s.runCommand_commKept (.placeOrder h position deadline)⟩
  | closeOrder h => exact ⟨_, rfl, s.runCommand_commKept (.closeOrder h)⟩
  | releaseFace => exact ⟨_, rfl, s.runCommand_commKept .releaseFace⟩
  | rest => exact ⟨_, rfl, s.runCommand_commKept .rest⟩
  | wake => exact ⟨_, rfl, s.runCommand_commKept .wake⟩
  | clearJam => exact ⟨_, rfl, s.runCommand_commKept .clearJam⟩
  | retrack => exact ⟨_, rfl, s.runCommand_commKept .retrack⟩
  | setNotice source enable level =>
    exact ⟨_, rfl, s.runCommand_commKept (.setNotice source enable level)⟩
  | setFloor floor => exact ⟨_, rfl, s.runCommand_commKept (.setFloor floor)⟩
  | readNotice => exact ⟨_, rfl, s.runCommand_commKept .readNotice⟩
  | clearNotice source => exact ⟨_, rfl, s.runCommand_commKept (.clearNotice source)⟩
  | readStatus => exact ⟨_, rfl, s.runCommand_commKept .readStatus⟩
  | readLine tag => exact ⟨_, rfl, s.runCommand_commKept (.readLine tag)⟩
  | readLane => exact ⟨_, rfl, s.runCommand_commKept .readLane⟩
  | readTrack => exact ⟨_, rfl, s.runCommand_commKept .readTrack⟩
  | readConfig => exact ⟨_, rfl, s.runCommand_commKept .readConfig⟩
  | encoderPulse => exact ⟨_, rfl, s.pulse_commKept⟩
  | overdueRemoval =>
    refine ⟨_, rfl, ?_⟩
    split
    · exact State.overdueSteps_commKept 1 s
    · exact .refl _
  | divertTimeout =>
    refine ⟨_, rfl, ?_⟩
    split
    · exact (s.divertStep_commKept.trans (State.drainTest_commKept _)).trans
        (State.settleLane_commKept _)
    · exact .refl _
  | oneSecondTick => exact ⟨_, rfl, s.tick_commKept⟩
  | stationStale x => exact ⟨_, rfl, .of_eq rfl rfl rfl⟩
  | entryStale x T => exact ⟨_, rfl, .of_eq rfl rfl rfl⟩
  | stateAndHoldRefresh => exact ⟨_, rfl, s.refreshWork_commKept⟩
  | wantRefresh T =>
    refine ⟨_, rfl, ?_⟩
    split
    · split
      · exact s.announce_commKept _ _
      · exact .refl _
    · exact .refl _
  | coldAlert T => exact ⟨_, rfl, s.coldAlertWork_commKept T⟩
  | coldBreach T =>
    refine ⟨_, rfl, ?_⟩
    split
    · exact ((s.breach_commKept T).trans (State.reurgent_commKept _ _)).trans
        (State.settleLane_commKept _)
    · exact .refl _
  | mergeStall => exact ⟨_, rfl, s.stallWork_commKept⟩
  | laneJam w => exact ⟨_, rfl, State.passAll_commKept _ s⟩
  | unaccountedSensor x => exact ⟨_, rfl, State.passAll_commKept _ s⟩
  | settleEnd k => exact ⟨_, rfl, State.passAll_commKept _ s⟩
  | beamStuck k => exact ⟨_, rfl, State.passAll_commKept _ s⟩
  | beamRecovered k => exact ⟨_, rfl, State.passAll_commKept _ s⟩
  | frameDiscarded bits =>
    refine ⟨_, rfl, ?_⟩
    split
    · rw [s.frameOver_eq]
      exact s.lineIdled_commKept
    · exact s.receive_commKept _
  | stateFrame x T able => exact ⟨_, rfl, s.receive_commKept ⟨x, T, .state able⟩⟩
  | wantFrame x T w => exact ⟨_, rfl, s.receive_commKept ⟨x, T, .want w⟩⟩
  | dropFrame x T => exact ⟨_, rfl, s.receive_commKept ⟨x, T, .drop⟩⟩
  | holdFrame x T => exact ⟨_, rfl, s.receive_commKept ⟨x, T, .hold⟩⟩
  | releaseFrame x T a => exact ⟨_, rfl, s.receive_commKept ⟨x, T, .release a⟩⟩
  | infeedFrame x T a => exact ⟨_, rfl, s.receive_commKept ⟨x, T, .infeed a⟩⟩
  | returnFrame x T => exact ⟨_, rfl, s.receive_commKept ⟨x, T, .ret⟩⟩
  | sendAttempt => exact ⟨_, rfl, s.lineMs_commKept.trans (beginAttempt_commKept _)⟩
  | attemptEnd r => exact execAttemptEnd_commKept r s
  | readerEvent r => exact ⟨_, rfl, s.readReport_commKept r⟩
  | entrySeen => exact ⟨_, rfl, s.entryBlocks_commKept⟩
  | headBlocked => exact ⟨_, rfl, s.headBlocks_commKept⟩
  | faceArrived => exact ⟨_, rfl, s.faceBlocks_commKept⟩
  | parkArrived => exact ⟨_, rfl, s.parkBlocks_commKept⟩
  | merged => exact ⟨_, rfl, s.exitClears_commKept⟩
  | mergeGap g => exact ⟨_, rfl, s.mergeGap_commKept g⟩
  | sensorBlocked x =>
    refine ⟨_, rfl, ?_⟩
    cases x with
    | entry => exact s.entryBlocks_commKept
    | head => exact s.headBlocks_commKept
    | face => exact s.faceBlocks_commKept
    | park => exact s.parkBlocks_commKept
    | exit => exact s.exitBlocks_commKept
  | sensorClear x =>
    refine ⟨_, rfl, ?_⟩
    cases x with
    | exit => exact s.exitClears_commKept
    | entry => exact s.sensorClears_commKept .entry
    | head => exact s.sensorClears_commKept .head
    | face => exact s.sensorClears_commKept .face
    | park => exact s.sensorClears_commKept .park
  | beamBreak k => exact ⟨_, rfl, s.beamBreak_commKept k⟩
  | beamClear k => exact ⟨_, rfl, .of_eq rfl rfl rfl⟩
  | shortKey =>
    refine ⟨_, rfl, ?_⟩
    split
    · exact s.shortKey_commKept
    · exact .refl _
  | logonKey => exact ⟨_, rfl, s.wakeUp_commKept⟩

/-- Settles O57: a step is one millisecond or the front command, and each keeps the laws. -/
theorem transmitAndNoticeLawsKept : Obligations.TransmitAndNoticeLawsKept := by
  intro s t h
  show CommKept s t
  unfold step at h
  split at h
  · cases h
    exact s.passMs_commKept
  · rename_i c rest _
    obtain ⟨u, hu, kept⟩ := exec_commKept c { s with pending := rest }
    rw [hu] at h
    cases h
    exact CommKept.trans (.of_eq rfl rfl rfl) kept

end Sys2Proof.Machine
end

section
/-! PROOFS. What most operations leave as it is for the Loop Tracker and the Interest Board: the tote numbers of
the lane, the tracker, the board and the configured mode. -/

namespace Sys2Proof.Machine

/-! ### The tote numbers of the lane -/

theorem count_ownTotes (s : State) (T : ToteNo) :
    (ownTotes s).count T =
      (s.divert.records.map DivertRec.tote).count T + (laneTotes s.lane).count T := by
  simp [ownTotes, laneTotes, List.count_append]

theorem inOwnLane_iff (s : State) (T : ToteNo) : s.inOwnLane T = true ↔ T ∈ ownTotes s := by
  simp [State.inOwnLane, ownTotes, Option.any_eq_true, or_assoc]

theorem inOwnLane_eq_false_iff (s : State) (T : ToteNo) :
    s.inOwnLane T = false ↔ (ownTotes s).count T = 0 := by
  rw [List.count_eq_zero, ← inOwnLane_iff, Bool.not_eq_true]

/-- R78: the first clause of the law, by the number of times a tote number stands in the lane. -/
theorem ownTotes_nodup_iff (s : State) :
    ((ownTotes s).filter fun T => T != 0).Nodup ↔ ∀ T, T ≠ 0 → (ownTotes s).count T ≤ 1 := by
  rw [List.nodup_iff_count_le_one]
  refine forall_congr' fun T => ?_
  by_cases h : T = 0
  · rw [List.count_eq_zero_of_not_mem (by simp [h])]
    exact ⟨fun _ hT => absurd h hT, fun _ => Nat.zero_le _⟩
  · rw [List.count_filter (by simpa using h)]
    exact ⟨fun few _ => few, fun few => few h⟩

theorem Parks.totes {s t : State} (h : Parks s t) : laneTotes t.lane = laneTotes s.lane := by
  rw [laneTotes_eq_watched, laneTotes_eq_watched, h.watched]

theorem laneTotes_mapRecs {f : LaneRec → LaneRec} (hf : ∀ q, (f q).tote = q.tote) (l : Lane) :
    laneTotes (l.mapRecs f) = laneTotes l := by
  cases hq : l.faceRec <;> cases hp : l.parkRec <;>
    simp [laneTotes, Lane.mapRecs, hq, hp, hf, Function.comp_def]

theorem laneTotes_updRecs (s : State) {f : LaneRec → LaneRec} (hf : ∀ q, (f q).tote = q.tote) :
    laneTotes (s.updRecs f).lane = laneTotes s.lane := laneTotes_mapRecs hf s.lane

theorem State.reurgent_totes (s : State) (p : ToteNo → Bool) :
    laneTotes (s.reurgent p).lane = laneTotes s.lane :=
  (s.reurgent_parks p).totes.trans (laneTotes_updRecs s fun q => by
    split <;> rfl)

theorem State.beginRelease_totes (s : State) :
    laneTotes s.beginRelease.lane = laneTotes s.lane := by
  rw [State.beginRelease_lane, laneTotes_eq_watched, laneTotes_eq_watched, Lane.watched_released]

theorem State.tryLeave_totes (s : State) : laneTotes s.tryLeave.lane = laneTotes s.lane := by
  unfold State.tryLeave
  split <;> rfl

theorem State.settleLane_totes (s : State) : laneTotes s.settleLane.lane = laneTotes s.lane := by
  obtain ⟨d, ss, h⟩ := s.settleLane_lane
  rw [h]
  rfl

theorem State.coldAlertWork_totes (s : State) (T : ToteNo) :
    laneTotes (s.coldAlertWork T).lane = laneTotes s.lane := by
  rw [State.coldAlertWork_lane]
  exact laneTotes_mapRecs (fun q => by split <;> rfl) _

theorem State.breach_totes (s : State) (T : ToteNo) :
    laneTotes (s.breach T).lane = laneTotes s.lane := by
  have marked : laneTotes (s.lane.mapRecs (breachMarkOf T)) = laneTotes s.lane :=
    laneTotes_mapRecs (fun q => by simp) _
  by_cases h : s.lane.face = .presenting ∧ ∃ q ∈ s.lane.faceRec, q.tote = T
  · rw [(s.breach_lane T).1 h, laneTotes_eq_watched, Lane.watched_released,
      ← laneTotes_eq_watched, marked]
  · rw [(s.breach_lane T).2 h, marked]

theorem State.coldWork_totes (s : State) (T : ToteNo) :
    laneTotes (s.coldWork T).lane = laneTotes s.lane := by
  rw [State.coldWork_eq]
  split
  · rw [State.breach_totes, State.coldAlertWork_totes]
  · exact s.coldAlertWork_totes T

/-! ### Steady steps -/

/-- The parts that the laws of the tracker and the board do not read, and the lane. -/
def steadyBlocks : List Block :=
  [.clock, .demand, .puts, .bus, .lane, .picker, .modeCtl, .link, .notices, .freeDraws, .pending]

/-- From `s` to `t` the tracker, the board, the divert records, the configuration and the count stand, the
part stays configured or unconfigured, and no tote number came to the lane but a stray's. -/
structure Steady (s t : State) : Prop where
  frame : SameExcept steadyBlocks s t
  mode : t.mode = .unconfigured ↔ s.mode = .unconfigured
  totes : ∀ T, T ≠ 0 → (laneTotes t.lane).count T ≤ (laneTotes s.lane).count T

theorem Steady.refl (s : State) : Steady s s := ⟨.refl _ _, .rfl, fun _ _ => le_rfl⟩

theorem Steady.trans {s t u : State} (h : Steady s t) (k : Steady t u) : Steady s u :=
  ⟨h.frame.step k.frame (List.Subset.refl _) (List.Subset.refl _), k.mode.trans h.mode,
    fun T hT => (k.totes T hT).trans (h.totes T hT)⟩

theorem Steady.after {s t u : State} (k : Steady t u) (h : Steady s t) : Steady s u := h.trans k

theorem Steady.foldl {α : Type} {f : State → α → State} (hf : ∀ s a, Steady s (f s a))
    (l : List α) (s : State) : Steady s (l.foldl f s) := by
  induction l generalizing s with
  | nil => exact .refl _
  | cons a l ih => exact (hf s a).trans (ih _)

/-- A step inside these parts that leaves the mode and the lane's tote numbers is steady. -/
theorem SameExcept.steady_of_totes {bs : List Block} {s t : State} (h : SameExcept bs s t)
    (sub : bs ⊆ steadyBlocks) (mode : t.mode = s.mode)
    (totes : laneTotes t.lane = laneTotes s.lane) : Steady s t :=
  ⟨h.mono sub, by rw [mode], fun T _ => by rw [totes]⟩

theorem SameExcept.steady {bs : List Block} {s t : State} (h : SameExcept bs s t)
    (sub : bs ⊆ steadyBlocks) (lane : Block.lane ∉ bs) (mode : Block.modeCtl ∉ bs) :
    Steady s t :=
  h.steady_of_totes sub (h.mode_eq mode) (by rw [h.lane_eq lane])

theorem State.raise_steady (s : State) (n : NoticeSource) (d : BitVec 32) :
    Steady s (s.raise n d) :=
  (s.raise_frame n d).steady (by simp [steadyBlocks]) (by simp) (by simp)

theorem State.request_steady (s : State) (T : ToteNo) (b : FrameBody) :
    Steady s (s.request T b) :=
  (s.request_frame T b).steady (by simp [steadyBlocks]) (by simp) (by simp)

theorem State.setLineState_steady (s : State) (tag : Tag) (x : LineState) :
    Steady s (s.setLineState tag x) :=
  (s.setLineState_frame tag x).steady (by simp [steadyBlocks]) (by simp) (by simp)

theorem State.deriveWant_steady (s : State) (T : ToteNo) : Steady s (s.deriveWant T) :=
  (s.deriveWant_frame T).steady (by simp [steadyBlocks]) (by simp) (by simp)

theorem State.checkWants_steady (s : State) (p : ToteNo → Bool) : Steady s (s.checkWants p) :=
  (s.checkWants_frame p).steady (by simp [steadyBlocks]) (by simp) (by simp)

theorem State.reready_steady (s : State) (h : Handle) : Steady s (s.reready h) :=
  (s.reready_frame h).steady (by simp [steadyBlocks]) (by simp) (by simp)

theorem State.light_steady (s : State) (l : Line) : Steady s (s.light l) :=
  (s.light_frame l).steady (by simp [steadyBlocks]) (by simp) (by simp)

theorem State.leaveActive_steady (s : State) : Steady s s.leaveActive :=
  s.leaveActive_frame.steady (by simp [steadyBlocks]) (by simp) (by simp)

theorem State.preemptCheck_steady (s : State) : Steady s s.preemptCheck :=
  s.preemptCheck_frame.steady_of_totes (by simp [steadyBlocks])
    (s.preemptCheck_frame.mode_eq (by simp)) s.preemptCheck_parks.totes

theorem State.headTurnedUrgent_steady (s : State) : Steady s s.headTurnedUrgent :=
  s.headTurnedUrgent_frame.steady_of_totes (by simp [steadyBlocks])
    (s.headTurnedUrgent_frame.mode_eq (by simp)) s.headTurnedUrgent_parks.totes

theorem State.reurgent_steady (s : State) (p : ToteNo → Bool) : Steady s (s.reurgent p) :=
  (s.reurgent_frame p).steady_of_totes (by simp [steadyBlocks])
    ((s.reurgent_frame p).mode_eq (by simp)) (s.reurgent_totes p)

theorem State.tryLeave_steady (s : State) : Steady s s.tryLeave :=
  s.tryLeave_frame.steady_of_totes (by simp [steadyBlocks])
    (s.tryLeave_frame.mode_eq (by simp)) s.tryLeave_totes

theorem State.beginRelease_steady (s : State) : Steady s s.beginRelease :=
  s.beginRelease_frame.steady_of_totes (by simp [steadyBlocks])
    (s.beginRelease_frame.mode_eq (by simp)) s.beginRelease_totes

theorem State.settleLane_steady (s : State) : Steady s s.settleLane :=
  s.settleLane_frame.steady_of_totes (by simp [steadyBlocks]) s.settleLane_mode s.settleLane_totes

theorem State.coldAlertWork_steady (s : State) (T : ToteNo) : Steady s (s.coldAlertWork T) :=
  (s.coldAlertWork_frame T).steady_of_totes (by simp [steadyBlocks])
    ((s.coldAlertWork_frame T).mode_eq (by simp)) (s.coldAlertWork_totes T)

theorem State.breach_steady (s : State) (T : ToteNo) : Steady s (s.breach T) :=
  (s.breach_frame T).steady_of_totes (by simp [steadyBlocks])
    ((s.breach_frame T).mode_eq (by simp)) (s.breach_totes T)

theorem State.coldWork_steady (s : State) (T : ToteNo) : Steady s (s.coldWork T) :=
  (s.coldWork_frame T).steady_of_totes (by simp [steadyBlocks])
    ((s.coldWork_frame T).mode_eq (by simp)) (s.coldWork_totes T)

theorem State.returnActive_steady (s : State) : Steady s s.returnActive := by
  unfold State.returnActive
  split
  · exact .refl _
  · exact (((s.setLineState_steady _ _).trans (State.leaveActive_steady _)).trans
      (State.deriveWant_steady _ _)).trans (State.reurgent_steady _ _)

theorem State.requestLine_steady (s : State) : Steady s s.requestLine := by
  unfold State.requestLine
  split
  · exact .refl _
  · split
    · exact s.beginRelease_steady
    · exact (((s.setLineState_steady _ _).trans (State.light_steady _ _)).trans
        (State.deriveWant_steady _ _)).trans (State.reurgent_steady _ _)

theorem State.lineBoundary_steady (s : State) (l : Line) : Steady s (s.lineBoundary l) := by
  have checked := (s.reurgent_steady (· == l.tote)).trans (State.reready_steady _ l.handle)
  unfold State.lineBoundary
  dsimp only
  split
  · split
    · exact checked.trans (State.beginRelease_steady _)
    · split
      · exact checked.trans (State.preemptCheck_steady _)
      · exact (checked.trans (State.preemptCheck_steady _)).trans (State.requestLine_steady _)
  · exact checked

theorem State.jamLane_steady (s : State) (x : Sensor) : Steady s (s.jamLane x) := by
  refine (s.jamLane_frame x).steady_of_totes (by simp [steadyBlocks])
    ((s.jamLane_frame x).mode_eq (by simp)) ?_
  unfold State.jamLane
  split <;> rfl

/-- A change of the lane alone, by what it does to the tote numbers. -/
theorem State.withLane_steady (s : State) {l : Lane}
    (totes : ∀ T, T ≠ 0 → (laneTotes l).count T ≤ (laneTotes s.lane).count T) :
    Steady s (s.withLane l) :=
  ⟨(s.withLane_frame l).mono (by simp [steadyBlocks]), .rfl, totes⟩

theorem count_stray {T : ToteNo} (hT : T ≠ 0) {q : LaneRec} (h : q.tote = 0) :
    [q.tote].count T = 0 := by
  rw [List.count_eq_zero, List.mem_singleton, h]
  exact hT

theorem State.fillHead_steady (s : State) : Steady s s.fillHead := by
  unfold State.fillHead
  split
  · rename_i q rest hq
    split
    · refine s.withLane_steady fun T _ => ?_
      simp only [laneTotes, hq, List.map_append, List.map_cons, List.count_append, List.count_cons,
        State.withLane_lane, Option.toList_some, List.map_nil, List.count_nil]
      omega
    · exact s.withLane_steady fun T _ => le_rfl
  · split
    · refine s.withLane_steady fun T hT => ?_
      simp only [laneTotes, List.map_append, List.count_append, Option.toList_some, List.map_cons,
        List.map_nil]
      rw [count_stray hT (q := { strayRec s.clock with source := .queue }) rfl]
      omega
    · exact .refl _

theorem State.fill_steady (s : State) : Steady s s.fill := by
  unfold State.fill
  split
  · exact .refl _
  · split
    · refine (State.beginRelease_steady _).after (s.withLane_steady fun T hT => ?_)
      simp only [laneTotes, List.map_append, List.count_append, Option.toList_some, List.map_cons,
        List.map_nil]
      rw [count_stray hT (q := { strayRec s.clock with stage := .face }) rfl]
      omega
    · split
      · exact s.fillHead_steady
      · split
        · rename_i q hq
          refine s.withLane_steady fun T hT => ?_
          simp only [laneTotes, hq, List.map_append, List.count_append, Option.toList_some,
            Option.toList_none, State.withLane_lane, List.map_cons, List.map_nil, List.count_cons,
            List.count_nil]
          omega
        · split
          · refine s.withLane_steady fun T hT => ?_
            simp only [laneTotes, List.map_append, List.count_append, Option.toList_some,
              List.map_cons, List.map_nil]
            rw [count_stray hT
              (q := { strayRec s.clock with stage := .park, source := .park }) rfl]
            omega
          · exact s.fillHead_steady

/-! ### The bench mode -/

theorem State.enterMode_mode (s : State) (m : BenchMode) : (s.enterMode m).mode = m := by
  rw [s.enterMode_eq]
  split
  · rfl
  · exact (State.requestState_frame _).mode_eq (by simp)

theorem State.enterMode_steady {s : State} (hs : s.mode ≠ .unconfigured) {m : BenchMode}
    (hm : m ≠ .unconfigured) : Steady s (s.enterMode m) where
  frame := (s.enterMode_frame m).mono (by simp [steadyBlocks])
  mode := by simp [State.enterMode_mode, hs, hm]
  totes T _ := by rw [(s.enterMode_frame m).lane_eq (by simp)]

theorem State.sweepTest_steady (s : State) : Steady s s.sweepTest := by
  unfold State.sweepTest
  split
  · rename_i h
    rw [Bool.and_eq_true, beq_iff_eq] at h
    exact State.enterMode_steady (by simp [h.1]) (SweepReturn.toMode_configured _)
  · exact .refl _

theorem State.drainTest_steady (s : State) : Steady s s.drainTest := by
  unfold State.drainTest
  split
  · rename_i h
    rw [Bool.and_eq_true, beq_iff_eq] at h
    exact State.enterMode_steady (by simp [h.1]) (by decide)
  · exact .refl _

theorem State.enterSweeping_steady {s : State} (hs : s.mode ≠ .unconfigured)
    (r : SweepReturn) : Steady s (s.enterSweeping r) := by
  have entered := State.enterMode_steady
    (s := s.withModeCtl { s.modeCtl with sweepReturn := r }) hs (m := .sweeping) (by decide)
  have set : Steady s (s.withModeCtl { s.modeCtl with sweepReturn := r }) :=
    (s.withModeCtl_frame _).steady_of_totes (by simp [steadyBlocks]) rfl rfl
  exact ((set.trans entered).trans (State.fill_steady _)).trans (State.sweepTest_steady _)

/-! ### The timers -/

theorem State.passMs_steady (s : State) : Steady s s.passMs := by
  have lane : ∀ s : State, Steady s s.laneMs := by
    intro s
    refine s.laneMs_frame.steady_of_totes (by simp [steadyBlocks])
      (s.laneMs_frame.mode_eq (by simp)) ?_
    unfold State.laneMs
    dsimp only
    split
    · rfl
    · split
      · rfl
      · unfold State.jamLane
        split <;> rfl
  unfold State.passMs
  split
  · exact ((((s.lineMs_frame.steady (by simp [steadyBlocks]) (by simp) (by simp)).trans
      ((State.pickingMs_frame _).steady (by simp [steadyBlocks]) (by simp) (by simp))).trans
      (lane _)).trans (State.settleLane_steady _))
  · exact .refl _

theorem State.passAll_steady (n : Nat) (s : State) : Steady s (State.passAll n s) := by
  induction n generalizing s with
  | zero => exact .refl _
  | succ n ih => exact s.passMs_steady.trans (ih _)

end Sys2Proof.Machine
end

section
/-! PROOFS. Every step keeps the laws of the Interest Board, the expected arrivals, the own lane and the tracker
lock (O59). -/

namespace Sys2Proof.Machine

/-! ### The list of expected arrivals (R78, R79) -/

/-- R78, R79: a list of expected arrivals at a count. -/
def EalOk (r : Record) (c : Count) (es : List EalEntry) : Prop :=
  es.length ≤ 32 ∧ (es.map EalEntry.tote).Nodup ∧
    es.Pairwise (fun a b => aheadOf a.expected c ≤ aheadOf b.expected c) ∧
    ∀ e ∈ es, isOverdue r c e = false

theorem ealLaw_iff (s : State) : EalLaw s ↔ EalOk s.conf s.count s.tracker.eal ∧
    (s.mode = .unconfigured → s.tracker.eal = []) ∧ s.conf.wWin ≤ 255 := by
  simp only [EalLaw, EalOk, and_assoc]

theorem EalOk.nil (r : Record) (c : Count) : EalOk r c [] :=
  ⟨Nat.zero_le _, List.nodup_nil, .nil, fun e h => (by cases h)⟩

theorem EalOk.sublist {r : Record} {c : Count} {es fs : List EalEntry} (h : EalOk r c es)
    (sub : fs.Sublist es) : EalOk r c fs := by
  obtain ⟨len, totes, sorted, due⟩ := h
  exact ⟨sub.length_le.trans len, totes.sublist (sub.map _), sorted.sublist sub,
    fun e he => due e (sub.subset he)⟩

theorem insertEntry_perm (c : Count) (e : EalEntry) (es : List EalEntry) :
    (insertEntry c e es).Perm (e :: es) := by
  induction es with
  | nil => exact .refl _
  | cons x xs ih =>
    unfold insertEntry
    split
    · exact .refl _
    · exact (ih.cons x).trans (.swap e x xs)

theorem mem_insertEntry {c : Count} {e x : EalEntry} {es : List EalEntry} :
    x ∈ insertEntry c e es ↔ x = e ∨ x ∈ es := by
  rw [(insertEntry_perm c e es).mem_iff, List.mem_cons]

theorem insertEntry_sorted {c : Count} (e : EalEntry) {es : List EalEntry}
    (h : es.Pairwise fun a b => aheadOf a.expected c ≤ aheadOf b.expected c) :
    (insertEntry c e es).Pairwise fun a b => aheadOf a.expected c ≤ aheadOf b.expected c := by
  induction es with
  | nil => exact List.pairwise_singleton _ _
  | cons x xs ih =>
    obtain ⟨ahead, tail⟩ := List.pairwise_cons.mp h
    unfold insertEntry
    split
    · rename_i lt
      refine List.pairwise_cons.mpr ⟨fun y hy => ?_, h⟩
      rcases List.mem_cons.mp hy with rfl | hy
      · exact lt.le
      · exact lt.le.trans (ahead y hy)
    · rename_i ge
      refine List.pairwise_cons.mpr ⟨fun y hy => ?_, ih tail⟩
      rcases mem_insertEntry.mp hy with rfl | hy
      · exact not_lt.mp ge
      · exact ahead y hy

theorem EalOk.insert {r : Record} {c : Count} {e : EalEntry} {es : List EalEntry}
    (h : EalOk r c es) (room : es.length < 32) (fresh : ∀ x ∈ es, x.tote ≠ e.tote)
    (due : isOverdue r c e = false) : EalOk r c (insertEntry c e es) := by
  obtain ⟨-, totes, sorted, dues⟩ := h
  have perm := insertEntry_perm c e es
  refine ⟨by rw [perm.length_eq]; exact room, ?_, insertEntry_sorted e sorted, fun x hx => ?_⟩
  · rw [(perm.map EalEntry.tote).nodup_iff]
    exact List.nodup_cons.mpr ⟨fun hm => by
      obtain ⟨x, hx, hxe⟩ := List.mem_map.mp hm
      exact fresh x hx hxe, totes⟩
  · rcases mem_insertEntry.mp hx with rfl | hx
    · exact due
    · exact dues x hx

/-- What placing an entry leaves: the list in order, its entry's tote the only new one, the lock as it was
(R79, R81). -/
theorem placeEntry_spec (r : Record) (c : Count) (e0 : EalEntry) (tr : Tracker) :
    (EalOk r c tr.eal → EalOk r c (placeEntry r c e0 tr).eal) ∧
    (∀ x ∈ (placeEntry r c e0 tr).eal, x ∈ tr.eal ∨ x.tote = e0.tote) ∧
    (placeEntry r c e0 tr).lock = tr.lock ∧ (placeEntry r c e0 tr).run = tr.run ∧
    (placeEntry r c e0 tr).attempts = tr.attempts ∧ (placeEntry r c e0 tr).misses = tr.misses := by
  unfold placeEntry
  extract_lets e
  have tote : e.tote = e0.tote := by
    show (if _ then _ else _ : EalEntry).tote = _
    split <;> rfl
  clear_value e
  split
  · exact ⟨id, fun x hx => .inl hx, rfl, rfl, rfl, rfl⟩
  · rename_i due
    have due : isOverdue r c e = false := by simpa using due
    -- an insertion into a part of the list
    have insertion : ∀ es : List EalEntry, es.Sublist tr.eal →
        ∀ x ∈ insertEntry c e es, x ∈ tr.eal ∨ x.tote = e0.tote := fun es sub x hx =>
      (mem_insertEntry.mp hx).elim (fun he => .inr (he ▸ tote)) fun hm => .inl (sub.subset hm)
    split
    · rename_i present
      obtain ⟨y, hy, hye⟩ : ∃ y ∈ tr.eal, y.tote = e.tote := by simpa using present
      have sub : (tr.eal.filter fun x => x.tote != e.tote).Sublist tr.eal := List.filter_sublist
      refine ⟨fun ok => (ok.sublist sub).insert ?_ (fun x hx => ?_) due, insertion _ sub, rfl, rfl,
        rfl, rfl⟩
      · exact (List.length_filter_lt_length_iff_exists.mpr ⟨y, hy, by simp [hye]⟩).trans_le ok.1
      · simpa using (List.mem_filter.mp hx).2
    · rename_i absent
      have fresh : ∀ x ∈ tr.eal, x.tote ≠ e.tote := by simpa using absent
      split
      · rename_i room
        exact ⟨fun ok => ok.insert room fresh due, insertion _ (.refl _), rfl, rfl, rfl, rfl⟩
      · refine ⟨fun ok => ?_, fun x hx => ?_, rfl, rfl, rfl, rfl⟩
        · dsimp only
          split
          · split
            · have sub := List.dropLast_sublist tr.eal
              refine (ok.sublist sub).insert ?_ (fun x hx => fresh x (sub.subset hx)) due
              have := ok.1
              rw [List.length_dropLast]
              omega
            · exact ok
          · exact ok
        · dsimp only at hx
          split at hx
          · split at hx
            · exact insertion _ (List.dropLast_sublist _) x hx
            · exact .inl hx
          · exact .inl hx

/-! ### The lock's counters (R90 to R92) -/

/-- R90 to R92: the lock's counters by its state. -/
def LockOk (r : Record) (tr : Tracker) : Prop :=
  match tr.lock with
  | .seeking => tr.run = 0 ∧ tr.attempts < r.attemptLimit
  | .confirming => 1 ≤ tr.run ∧ tr.run < r.lockRun ∧ tr.attempts < r.attemptLimit
  | .locked => tr.run = r.lockRun ∧ tr.attempts = 0 ∧ tr.misses < r.missLimit
  | .faulted => tr.run = 0 ∧ tr.attempts = r.attemptLimit

/-- R13: the limits that a configuration holds for the lock. -/
def LockLimits (r : Record) : Prop := 2 ≤ r.lockRun ∧ 1 ≤ r.attemptLimit ∧ 1 ≤ r.missLimit

theorem lockLaw_configured_iff {s : State} (hs : s.mode ≠ .unconfigured) :
    LockLaw s ↔ LockLimits s.conf ∧ LockOk s.conf s.tracker := by
  unfold LockLaw LockLimits LockOk
  constructor
  · rintro ⟨-, h⟩
    obtain ⟨run, attempts, misses, ok⟩ := h hs
    refine ⟨⟨run, attempts, misses⟩, ?_⟩
    cases hl : s.tracker.lock <;> simpa only [hl] using ok
  · rintro ⟨⟨run, attempts, misses⟩, ok⟩
    refine ⟨fun h => absurd h hs, fun _ => ⟨run, attempts, misses, ?_⟩⟩
    cases hl : s.tracker.lock <;> simpa only [hl] using ok

theorem lockAttemptFails_ok {r : Record} {tr : Tracker} :
    LockOk r (lockAttemptFails r tr).1 := by
  unfold lockAttemptFails
  split
  · exact ⟨rfl, rfl⟩
  · exact ⟨rfl, by dsimp only; omega⟩

theorem lockFail_ok {r : Record} {tr : Tracker} (limits : LockLimits r) (ok : LockOk r tr) :
    LockOk r (lockFail r tr).1 := by
  unfold lockFail
  split
  · exact lockAttemptFails_ok
  · exact lockAttemptFails_ok
  · rename_i locked
    split
    · exact ⟨rfl, limits.2.1⟩
    · simp only [LockOk, locked] at ok ⊢
      obtain ⟨run, attempts, -⟩ := ok
      exact ⟨run, attempts, by omega⟩
  · exact ok

theorem lockMatch_ok {r : Record} {tr : Tracker} (limits : LockLimits r) (ok : LockOk r tr) :
    LockOk r (lockMatch r tr) := by
  obtain ⟨two, -, miss⟩ := limits
  unfold lockMatch
  split
  · rename_i seeking
    simp only [LockOk, seeking] at ok
    exact ⟨le_rfl, two, ok.2⟩
  · rename_i confirming
    simp only [LockOk, confirming] at ok
    obtain ⟨one, run, attempts⟩ := ok
    split
    · exact ⟨rfl, rfl, miss⟩
    · simp only [LockOk, confirming]
      exact ⟨by omega, by omega, attempts⟩
  · rename_i locked
    simp only [LockOk, locked] at ok ⊢
    exact ⟨ok.1, ok.2.1, miss⟩
  · exact ok

theorem lockFail_eal (r : Record) (tr : Tracker) : (lockFail r tr).1.eal = tr.eal := by
  have attempt : (lockAttemptFails r tr).1.eal = tr.eal := by
    unfold lockAttemptFails
    split <;> rfl
  unfold lockFail
  split
  · exact attempt
  · exact attempt
  · split <;> rfl
  · rfl

theorem lockMatch_eal (r : Record) (tr : Tracker) : (lockMatch r tr).eal = tr.eal := by
  unfold lockMatch
  split
  · rfl
  · split <;> rfl
  · rfl
  · rfl

/-! ### The relation between the ends of a chain of operations -/

/-- From `s` to `t` the laws of the board and the lock are kept, that of the expected arrivals where `c` holds
and that of the own lane where `o` holds. -/
structure TrackKept (c o : Prop) (s t : State) : Prop where
  board : BoardLaw s → BoardLaw t
  eal : c → EalLaw s → EalLaw t
  own : o → OwnLaneLaw s → OwnLaneLaw t
  lock : LockLaw s → LockLaw t

theorem TrackKept.trans {c o : Prop} {s t u : State} (h : TrackKept c o s t) (k : TrackKept c o t u) :
    TrackKept c o s u :=
  ⟨k.board ∘ h.board, fun hc => k.eal hc ∘ h.eal hc, fun hc => k.own hc ∘ h.own hc, k.lock ∘ h.lock⟩

theorem SameExcept.conf_eq {bs : List Block} {s t : State} (h : SameExcept bs s t)
    (hb : Block.cfg ∉ bs) : t.conf = s.conf := congrArg (·.getD Record.unset) (h.cfg_eq hb)

/-- R98: with no more tote numbers in the lane and no new expected arrival the law of the own lane is kept. -/
theorem OwnLaneLaw.of_fewer {s t : State} (h : OwnLaneLaw s)
    (totes : ∀ T, T ≠ 0 → (ownTotes t).count T ≤ (ownTotes s).count T)
    (records : ∀ d ∈ t.divert.records, d.tote ≠ 0)
    (eal : ∀ e ∈ t.tracker.eal, e ∈ s.tracker.eal ∨ e.tote ≠ 0 ∧ t.inOwnLane e.tote = false) :
    OwnLaneLaw t := by
  obtain ⟨once, -, away⟩ := h
  refine ⟨(ownTotes_nodup_iff t).mpr fun T hT =>
    (totes T hT).trans ((ownTotes_nodup_iff s).mp once T hT), records, fun e he => ?_⟩
  rcases eal e he with he | he
  · obtain ⟨nonzero, out⟩ := away e he
    refine ⟨nonzero, (inOwnLane_eq_false_iff t _).mpr ?_⟩
    exact Nat.le_zero.mp (((inOwnLane_eq_false_iff s _).mp out) ▸ totes _ nonzero)
  · exact he

theorem Steady.ownTotes_le {s t : State} (h : Steady s t) (T : ToteNo) (hT : T ≠ 0) :
    (ownTotes t).count T ≤ (ownTotes s).count T := by
  rw [count_ownTotes, count_ownTotes, h.frame.divert_eq (by simp [steadyBlocks])]
  exact Nat.add_le_add_left (h.totes T hT) _

theorem Steady.trackKept {c o : Prop} {s t : State} (h : Steady s t) : TrackKept c o s t := by
  have tracker := h.frame.tracker_eq (by simp [steadyBlocks])
  have conf := h.frame.conf_eq (by simp [steadyBlocks])
  have divert := h.frame.divert_eq (by simp [steadyBlocks])
  refine ⟨fun l => ?_, fun _ l => ?_, fun _ l => ?_, fun l => ?_⟩
  · unfold BoardLaw at *
    rwa [h.frame.board_eq (by simp [steadyBlocks])]
  · rw [ealLaw_iff] at *
    rwa [tracker, conf, h.frame.count_eq (by simp [steadyBlocks]), h.mode]
  · refine l.of_fewer h.ownTotes_le (by rw [divert]; exact l.2.1) fun e he => .inl ?_
    rwa [tracker] at he
  · unfold LockLaw at *
    rwa [tracker, conf, ne_eq, h.mode]

theorem TrackKept.refl {c o : Prop} (s : State) : TrackKept c o s s := (Steady.refl s).trackKept

theorem TrackKept.after {c o : Prop} {s t u : State} (k : TrackKept c o t u) (h : TrackKept c o s t) :
    TrackKept c o s u := h.trans k

theorem TrackKept.mono {c d o : Prop} {s t : State} (h : TrackKept c o s t) (hd : d → c) :
    TrackKept d o s t := ⟨h.board, fun x => h.eal (hd x), h.own, h.lock⟩

/-- A change of the tracker alone. -/
theorem TrackKept.of_tracker {c o : Prop} {s : State} {tr : Tracker}
    (eal : c → EalLaw s → EalOk s.conf s.count tr.eal ∧ (s.mode = .unconfigured → tr.eal = []))
    (own : o → ∀ x ∈ tr.eal, x ∈ s.tracker.eal ∨ x.tote ≠ 0 ∧ s.inOwnLane x.tote = false)
    (lock : LockLaw s → LockLaw { s with tracker := tr }) :
    TrackKept c o s { s with tracker := tr } :=
  ⟨id, fun hc l => (ealLaw_iff _).mpr ⟨(eal hc l).1, (eal hc l).2, ((ealLaw_iff s).mp l).2.2⟩,
    fun ho l => l.of_fewer (fun _ _ => le_rfl) l.2.1 (own ho), lock⟩

theorem lockLaw_of_counters {s : State} {tr : Tracker} (lock : tr.lock = s.tracker.lock)
    (run : tr.run = s.tracker.run) (attempts : tr.attempts = s.tracker.attempts)
    (misses : tr.misses = s.tracker.misses) (h : LockLaw s) : LockLaw { s with tracker := tr } := by
  unfold LockLaw at *
  simp only [lock, run, attempts, misses]
  exact h

/-- Entries taken out of the list. -/
theorem TrackKept.of_fewer_expected {c o : Prop} {s : State} {tr : Tracker}
    (sub : tr.eal.Sublist s.tracker.eal) (lock : tr.lock = s.tracker.lock)
    (run : tr.run = s.tracker.run) (attempts : tr.attempts = s.tracker.attempts)
    (misses : tr.misses = s.tracker.misses) : TrackKept c o s { s with tracker := tr } := by
  refine .of_tracker (fun _ l => ?_) (fun _ x hx => .inl (sub.subset hx))
    (lockLaw_of_counters lock run attempts misses)
  obtain ⟨ok, empty, -⟩ := (ealLaw_iff s).mp l
  exact ⟨ok.sublist sub, fun h => List.eq_nil_of_sublist_nil (empty h ▸ sub)⟩

theorem State.unexpect_trackKept {c o : Prop} (s : State) (T : ToteNo) :
    TrackKept c o s (s.unexpect T) :=
  .of_fewer_expected (tr := { s.tracker with eal := s.tracker.eal.filter fun x => x.tote != T })
    List.filter_sublist rfl rfl rfl rfl

theorem State.place_trackKept {c o : Prop} {s : State} {e : EalEntry}
    (hc : c → s.mode ≠ .unconfigured) (he : o → e.tote ≠ 0) : TrackKept c o s (s.place e) := by
  unfold State.place
  split
  · exact .refl _
  · rename_i away
    have away : s.inOwnLane e.tote = false := by simpa using away
    obtain ⟨ok, new, lock, run, attempts, misses⟩ := placeEntry_spec s.conf s.count e s.tracker
    refine .of_tracker (fun hx l => ⟨ok ((ealLaw_iff s).mp l).1, fun h => absurd h (hc hx)⟩)
      (fun hx y hy => (new y hy).imp_right fun same => ?_)
      (lockLaw_of_counters lock run attempts misses)
    rw [same]
    exact ⟨he hx, away⟩

theorem State.lockFailure_trackKept {c o : Prop} {s : State} (hs : s.mode ≠ .unconfigured)
    (T : ToteNo) : TrackKept c o s (s.lockFailure T) := by
  have failed : TrackKept c o s { s with tracker := (lockFail s.conf s.tracker).1 } := by
    have eal := lockFail_eal s.conf s.tracker
    refine .of_tracker (fun _ l => ?_) (fun _ x hx => .inl (eal ▸ hx)) fun l => ?_
    · rw [eal]
      exact ⟨((ealLaw_iff s).mp l).1, fun h => absurd h hs⟩
    · obtain ⟨limits, ok⟩ := (lockLaw_configured_iff hs).mp l
      exact (lockLaw_configured_iff (s := { s with tracker := (lockFail s.conf s.tracker).1 })
        hs).mpr ⟨limits, lockFail_ok limits ok⟩
  unfold State.lockFailure
  dsimp only
  split
  · exact failed.trans (State.raise_steady _ _ _).trackKept
  · exact failed

/-! ### The Interest Board (R68) -/

/-- R68: a list of interest entries. -/
def EntriesOk (es : List InterestEntry) : Prop :=
  es.length ≤ 64 ∧ (es.map fun e => (e.station, e.tote)).Nodup ∧
    ∀ e ∈ es, e.weight.isSome = true ∨ e.holding = true

theorem EntriesOk.sublist {es fs : List InterestEntry} (h : EntriesOk es) (sub : fs.Sublist es) :
    EntriesOk fs := by
  obtain ⟨len, pairs, held⟩ := h
  exact ⟨sub.length_le.trans len, pairs.sublist (sub.map _), fun e he => held e (sub.subset he)⟩

/-- Entries changed in their weights, marks and ages. -/
theorem EntriesOk.map {es : List InterestEntry} (h : EntriesOk es)
    {f : InterestEntry → InterestEntry}
    (pair : ∀ e, (f e).station = e.station ∧ (f e).tote = e.tote)
    (held : ∀ e ∈ es, (f e).weight.isSome = true ∨ (f e).holding = true) : EntriesOk (es.map f) := by
  obtain ⟨len, pairs, -⟩ := h
  refine ⟨by simpa using len, ?_, fun e he => ?_⟩
  · have same : (es.map f).map (fun e => (e.station, e.tote)) = es.map fun e => (e.station, e.tote) :=
      by simp [Function.comp_def, pair]
    rwa [same]
  · obtain ⟨o, ho, rfl⟩ := List.mem_map.mp he
    exact held o ho

theorem EntriesOk.append {es : List InterestEntry} (h : EntriesOk es) {e : InterestEntry}
    (room : es.length < 64) (fresh : ∀ x ∈ es, ¬ (x.station = e.station ∧ x.tote = e.tote))
    (held : e.weight.isSome = true ∨ e.holding = true) : EntriesOk (es ++ [e]) := by
  obtain ⟨-, pairs, helds⟩ := h
  refine ⟨by simp; omega, ?_, fun x hx => ?_⟩
  · rw [List.map_append, List.nodup_append]
    refine ⟨pairs, List.nodup_singleton _, fun a ha b hb => ?_⟩
    obtain ⟨x, hx, rfl⟩ := List.mem_map.mp ha
    rw [List.mem_singleton.mp hb]
    exact fun eq => fresh x hx (Prod.mk.injEq .. ▸ eq)
  · rcases List.mem_append.mp hx with hx | hx
    · exact helds x hx
    · rw [List.mem_singleton.mp hx]
      exact held

theorem fresh_of_not_any {es : List InterestEntry} {x : StationNo} {T : ToteNo}
    (h : ¬ es.any (isEntry x T) = true) : ∀ e ∈ es, ¬ (e.station = x ∧ e.tote = T) := by
  intro e he hp
  exact h (List.any_eq_true.mpr ⟨e, he, isEntry_iff.mpr hp⟩)

theorem weakest_mem {es : List InterestEntry} {e : InterestEntry} (h : weakest es = some e) :
    e ∈ es := by
  have key : ∀ (l : List InterestEntry) (b : Option InterestEntry), (∀ x ∈ b, x ∈ es) →
      (∀ x ∈ l, x ∈ es) → ∀ x ∈ l.foldl (fun best e =>
        match best with
        | none => some e
        | some b => if weaker e b then some e else some b) b, x ∈ es := by
    intro l
    induction l with
    | nil => exact fun b hb _ => hb
    | cons a l ih =>
      intro b hb hl
      refine ih _ (fun x hx => ?_) fun x hx => hl x (.tail _ hx)
      cases b with
      | none =>
        cases hx
        exact hl a (.head _)
      | some best =>
        dsimp only at hx
        split at hx
        · cases hx
          exact hl a (.head _)
        · cases hx
          exact hb _ rfl
  exact key _ none (fun x hx => by cases hx) (fun x hx => (List.mem_filter.mp hx).1) e h

theorem boardWant_ok {b : Board} (x : StationNo) (T : ToteNo) (W : Nat)
    (h : EntriesOk b.entries) : EntriesOk (boardWant b x T W).entries := by
  unfold boardWant
  dsimp only
  split
  · refine h.map (fun e => by split <;> exact ⟨rfl, rfl⟩) fun e he => ?_
    split
    · exact .inl rfl
    · exact h.2.2 e he
  · rename_i absent
    have fresh := fresh_of_not_any absent
    split
    · rename_i room
      exact h.append room fresh (.inl rfl)
    · dsimp only
      split
      · rename_i e weak
        split
        · have sub : (b.entries.filter fun o => !isEntry e.station e.tote o).Sublist b.entries :=
            List.filter_sublist
          refine (h.sublist sub).append ?_ (fun o ho => fresh o (sub.subset ho)) (.inl rfl)
          have self : isEntry e.station e.tote e = true := isEntry_iff.mpr ⟨rfl, rfl⟩
          exact (List.length_filter_lt_length_iff_exists.mpr
            ⟨e, weakest_mem weak, by simp [self]⟩).trans_le h.1
        · exact h
      · exact h

theorem boardDrop_ok {b : Board} (x : StationNo) (T : ToteNo) (h : EntriesOk b.entries) :
    EntriesOk (boardDrop b x T).entries := by
  refine (h.sublist List.filter_sublist).map (fun e => by split <;> exact ⟨rfl, rfl⟩)
    fun e he => ?_
  obtain ⟨hm, keep⟩ := List.mem_filter.mp he
  split
  · rename_i entry
    rw [entry] at keep
    exact .inr (by simpa using keep)
  · exact h.2.2 e hm

theorem boardHold_ok {b : Board} (x : StationNo) (T : ToteNo) (h : EntriesOk b.entries) :
    EntriesOk (boardHold b x T).entries := by
  unfold boardHold
  split
  · refine h.map (fun e => by split <;> exact ⟨rfl, rfl⟩) fun e he => ?_
    split
    · exact .inr rfl
    · exact h.2.2 e he
  · rename_i absent
    split
    · rename_i room
      exact h.append room (fresh_of_not_any absent) (.inr rfl)
    · exact h

theorem clearHolding_ok {b : Board} (named : InterestEntry → Bool) (h : EntriesOk b.entries) :
    EntriesOk (clearHolding b named).entries := by
  refine (h.sublist List.filter_sublist).map (fun e => by split <;> exact ⟨rfl, rfl⟩)
    fun e he => ?_
  obtain ⟨hm, keep⟩ := List.mem_filter.mp he
  split
  · rename_i hit
    rw [hit] at keep
    exact .inl (by cases hw : e.weight <;> simp_all)
  · exact h.2.2 e hm

/-- A change of the board alone. -/
theorem TrackKept.of_board {c o : Prop} {s : State} {b : Board}
    (h : EntriesOk s.board.entries → EntriesOk b.entries) : TrackKept c o s { s with board := b } :=
  ⟨h, fun _ => id, fun _ => id, id⟩

/-! ### Configuration, restart and the clocks -/

/-- R13: what the lock and the tracker go by in a configuration. -/
theorem recordOf_limits (f : ConfigFields) :
    LockLimits (recordOf f) ∧ (recordOf f).wWin ≤ 255 := by
  have tuned : ∀ lo hi d sent, lo ≤ d → lo ≤ hi → lo ≤ (tune lo hi d false sent).2 := by
    intro lo hi d sent _ _
    unfold tune
    split
    · assumption
    · simp
  refine ⟨⟨tuned 2 15 4 _ (by decide) (by decide), tuned 1 255 20 _ (by decide) (by decide),
    tuned 1 15 3 _ (by decide) (by decide)⟩, ?_⟩
  refine (Nat.min_le_left _ _).trans ?_
  show (tune 1 255 40 false f.wWin).2 ≤ 255
  unfold tune
  split
  · decide
  · simp

theorem State.powerOn_trackKept {c o : Prop} (s : State) : TrackKept c o s s.powerOn := by
  refine ⟨fun _ => ⟨Nat.zero_le _, List.nodup_nil, fun e h => (by cases h)⟩, fun _ _ => ?_,
    fun _ _ => ⟨List.nodup_nil, fun d h => (by cases h), fun e h => (by cases h)⟩,
    fun _ => ⟨fun _ => ⟨rfl, rfl, rfl, rfl⟩, fun h => absurd rfl h⟩⟩
  exact (ealLaw_iff _).mpr ⟨.nil _ _, fun _ => rfl, Nat.zero_le _⟩

/-- An accepted CONFIGURE finds nothing expected and the lock as at reset (R78, R92). -/
theorem State.storeConfig_trackKept {c o : Prop} {s : State} (hs : s.mode = .unconfigured)
    (f : ConfigFields) (r : SweepReturn) :
    TrackKept c o s (((s.storeConfig f).withModeCtl
      { s.modeCtl with sweepReturn := r }).modeEntered .sweeping) := by
  obtain ⟨limits, win⟩ := recordOf_limits f
  refine ⟨id, fun _ l => ?_, fun _ => id, fun l => ?_⟩
  · obtain ⟨-, empty, -⟩ := (ealLaw_iff s).mp l
    have none : s.tracker.eal = [] := empty hs
    refine (ealLaw_iff _).mpr ⟨?_, fun h => (by cases h), win⟩
    show EalOk _ _ s.tracker.eal
    rw [none]
    exact .nil _ _
  · obtain ⟨lock, run, attempts, -⟩ := l.1 hs
    refine (lockLaw_configured_iff (fun h => by cases h)).mpr ⟨limits, ?_⟩
    show LockOk (recordOf f) s.tracker
    simp only [LockOk, lock]
    exact ⟨run, by rw [attempts]; exact limits.2.1⟩

theorem State.configure_trackKept {c o : Prop} (s : State) (f : ConfigFields) :
    TrackKept c o s (s.configure f) := by
  have replied : ∀ (t : State) st fs, TrackKept c o t (t.reply 1 st fs) := fun t st fs =>
    ((t.reply_frame 1 st fs).steady (by simp [steadyBlocks]) (by simp) (by simp)).trackKept
  unfold State.configure
  split
  · exact replied _ _ _
  · rename_i unconfigured
    have hs : s.mode = .unconfigured := by
      simpa [State.configured, State.mode] using unconfigured
    split
    · exact ((State.storeConfig_trackKept hs f .active).trans
        ((((State.request_steady _ _ _).trans (State.fill_steady _)).trans
          (State.sweepTest_steady _)).trans (State.settleLane_steady _)).trackKept).trans
        (replied _ _ _)
    · exact replied _ _ _

/-- RESTART leaves nothing expected and no tote in the lane; the lock seeks again (R154). -/
theorem State.clearWork_trackKept {c o : Prop} {s : State} (hs : s.mode ≠ .unconfigured) :
    TrackKept c o s s.clearWork := by
  refine ⟨fun _ => ⟨Nat.zero_le _, List.nodup_nil, fun e h => (by cases h)⟩, fun _ l => ?_,
    fun _ _ => ⟨List.nodup_nil, fun d h => (by cases h), fun e h => (by cases h)⟩, fun l => ?_⟩
  · exact (ealLaw_iff _).mpr ⟨.nil _ _, fun _ => rfl, ((ealLaw_iff s).mp l).2.2⟩
  · obtain ⟨limits, -⟩ := (lockLaw_configured_iff hs).mp l
    exact (lockLaw_configured_iff (s := s.clearWork) hs).mpr ⟨limits, rfl, limits.2.1⟩

theorem State.restart_trackKept {c o : Prop} (s : State) : TrackKept c o s s.restart := by
  have cleared : ∀ s : State, Steady s s.clearNotices := fun s =>
    s.clearNotices_frame.steady (by simp [steadyBlocks]) (by simp) (by simp)
  have replied : ∀ t : State, Steady t (t.reply 3 .accepted) := fun t =>
    (t.reply_frame 3 .accepted []).steady (by simp [steadyBlocks]) (by simp) (by simp)
  unfold State.restart
  split
  · rename_i h
    have hs : s.mode ≠ .unconfigured := s.configured_iff.mp h
    exact (State.clearWork_trackKept hs).trans ((((cleared _).trans
      (State.enterSweeping_steady (s := s.clearWork.clearNotices) hs .active)).trans
      (State.settleLane_steady _)).trans (replied _)).trackKept
  · have zeroed : Steady s { s with clock := 0 } :=
      SameExcept.steady (bs := [.clock]) (by simp [SameExcept]) (by simp [steadyBlocks]) (by simp)
        (by simp)
    exact ((zeroed.trans (cleared _)).trans (replied _)).trackKept

/-- SET_TIME moves stored times, and no tote number or expected count (R10). -/
theorem State.moveClock_trackKept {c o : Prop} (s : State) (t : Clock) :
    TrackKept c o s (s.moveClock t) := by
  have totes : ownTotes (s.moveClock t) = ownTotes s := by
    cases hf : s.lane.faceRec <;> cases hp : s.lane.parkRec <;>
      simp [ownTotes, State.moveClock, State.shiftTimes, hf, hp, Function.comp_def]
  have eal : ∃ g : EalEntry → EalEntry, (∀ e, (g e).tote = e.tote ∧ (g e).expected = e.expected) ∧
      (s.moveClock t).tracker.eal = s.tracker.eal.map g :=
    ⟨fun e => { e with cold := e.cold.shift (t - s.clock) }, fun e => ⟨rfl, rfl⟩, rfl⟩
  obtain ⟨g, hg, eal⟩ := eal
  refine ⟨id, fun _ l => ?_, fun _ l => ?_, id⟩
  · obtain ⟨⟨len, nodup, sorted, due⟩, empty, win⟩ := (ealLaw_iff s).mp l
    refine (ealLaw_iff _).mpr ⟨?_, fun h => ?_, win⟩
    · rw [eal]
      refine ⟨by simpa using len, by simpa [Function.comp_def, hg] using nodup, ?_, fun e he => ?_⟩
      · exact List.pairwise_map.mpr (sorted.imp fun {a b} h => by
          rw [(hg a).2, (hg b).2]
          exact h)
      · obtain ⟨o, ho, rfl⟩ := List.mem_map.mp he
        have same := due o ho
        unfold isOverdue at same ⊢
        rw [(hg o).2]
        exact same
    · rw [eal, empty h]
      rfl
  · obtain ⟨once, records, away⟩ := l
    refine ⟨by rw [totes]; exact once, fun d hd => ?_, fun e he => ?_⟩
    · obtain ⟨o, ho, rfl⟩ := List.mem_map.mp hd
      exact records o ho
    · rw [eal] at he
      obtain ⟨o, ho, rfl⟩ := List.mem_map.mp he
      rw [(hg o).1, inOwnLane_eq_false_iff, totes, ← inOwnLane_eq_false_iff]
      exact away o ho

/-! ### The commands of the local link -/

theorem State.reply_steady (s : State) (code : Byte) (st : Status) (fs : List Byte) :
    Steady s (s.reply code st fs) :=
  (s.reply_frame code st fs).steady (by simp [steadyBlocks]) (by simp) (by simp)

theorem State.whenConfigured_trackKept {c o : Prop} {s : State} {effect : State → State}
    (code : Byte) (h : s.mode ≠ .unconfigured → TrackKept c o s (effect s)) :
    TrackKept c o s (s.whenConfigured code effect) := by
  unfold State.whenConfigured
  split
  · exact h (s.configured_iff.mp (by assumption))
  · exact (s.reply_steady _ _ _).trackKept

theorem State.whenConfigured_steady {s : State} {effect : State → State} (code : Byte)
    (h : Steady s (effect s)) : Steady s (s.whenConfigured code effect) := by
  unfold State.whenConfigured
  split
  · exact h
  · exact s.reply_steady _ _ _

theorem Steady.reply {s t : State} (h : Steady s t) (code : Byte) (st : Status)
    (fs : List Byte) : Steady s (t.reply code st fs) := h.trans (t.reply_steady code st fs)

theorem State.addLine_steady (s : State) (l : Line) : Steady s (s.addLine l) := by
  rw [State.addLine_eq]
  exact (((s.lineAdded_frame l).steady (by simp [steadyBlocks]) (by simp) (by simp)).trans
    (State.reurgent_steady _ _)).trans (State.settleLane_steady _)

theorem State.loadLine_steady (s : State) (tag : Tag) (tote : ToteNo) (handle : Handle)
    (cls qty prio : Byte) : Steady s (s.loadLine tag tote handle cls qty prio) := by
  refine State.whenConfigured_steady 4 ?_
  split
  · exact s.reply_steady _ _ _
  · split
    · exact s.reply_steady _ _ _
    · split
      · exact s.reply_steady _ _ _
      · exact (s.addLine_steady _).reply 4 _ _

theorem State.cancelOpen_steady (s : State) (l : Line) : Steady s (s.cancelOpen l) := by
  have line := s.setLineState_steady l.tag .cancelled
  have checked := ((line.trans (State.reready_steady _ l.handle)).trans
    (State.reurgent_steady _ (· == l.tote))).trans (State.settleLane_steady _)
  unfold State.cancelOpen
  dsimp only
  split
  · exact ((line.trans (State.leaveActive_steady _)).trans (State.lineBoundary_steady _ l)).trans
      (State.settleLane_steady _)
  · exact (((line.trans (State.deriveWant_steady _ _)).trans (State.reready_steady _ _)).trans
      (State.reurgent_steady _ _)).trans (State.settleLane_steady _)
  · exact checked
  · exact checked
  all_goals exact .refl _

theorem State.cancelLine_steady (s : State) (tag : Tag) : Steady s (s.cancelLine tag) := by
  refine State.whenConfigured_steady 5 ?_
  split
  · exact s.reply_steady _ _ _
  · split
    · exact (s.cancelOpen_steady _).reply 5 _ _
    · exact s.reply_steady _ _ _

theorem State.withPuts_steady (s : State) (puts : Vector (Option Order) 16) :
    Steady s { s with puts := puts } :=
  SameExcept.steady (bs := [.puts]) (by simp [SameExcept]) (by simp [steadyBlocks]) (by simp)
    (by simp)

theorem State.newPlacement_steady (s : State) (h : Handle) (k : PutIdx) (deadline : Clock) :
    Steady s (s.newPlacement h k deadline) :=
  (State.settleLane_steady _).after ((State.reurgent_steady _ _).after
    ((State.reready_steady _ _).after ((Steady.foldl State.deriveWant_steady _ _).after
      (s.withPuts_steady _))))

theorem State.newDeadline_steady (s : State) (h : Handle) (k : PutIdx) (o : Order)
    (deadline : Clock) : Steady s (s.newDeadline h k o deadline) :=
  (State.settleLane_steady _).after ((State.checkWants_steady _ _).after
    ((State.reurgent_steady _ _).after (s.withPuts_steady _)))

theorem State.placeOrder_steady (s : State) (h : Handle) (position : Byte) (deadline : Clock) :
    Steady s (s.placeOrder h position deadline) := by
  refine State.whenConfigured_steady 6 ?_
  split
  · exact s.reply_steady _ _ _
  · split
    · exact s.reply_steady _ _ _
    · split
      · exact s.reply_steady _ _ _
      · split
        · split
          · exact (s.newDeadline_steady _ _ _ _).reply 6 _ _
          · exact s.reply_steady _ _ _
        · exact (s.newPlacement_steady _ _ _).reply 6 _ _

theorem State.releaseFace_steady (s : State) : Steady s s.releaseFace := by
  refine State.whenConfigured_steady 8 ?_
  split
  · exact ((s.returnActive_steady.trans (State.beginRelease_steady _)).trans
      (State.settleLane_steady _)).reply 8 _ _
  · exact s.reply_steady _ _ _

theorem State.goToRest_steady (s : State) : Steady s s.goToRest := by
  unfold State.goToRest
  split
  · rename_i h
    exact ((State.enterMode_steady (by simp [h]) (by decide)).trans
      (State.drainTest_steady _)).trans (State.settleLane_steady _)
  · exact (s.withModeCtl_frame _).steady_of_totes (by simp [steadyBlocks]) rfl rfl
  all_goals exact .refl _

theorem State.wakeUp_steady (s : State) : Steady s s.wakeUp := by
  unfold State.wakeUp
  split
  · rename_i h
    exact (State.enterMode_steady (by simp [h]) (by decide)).trans (State.settleLane_steady _)
  · rename_i h
    exact (State.enterMode_steady (by simp [h]) (by decide)).trans (State.settleLane_steady _)
  · exact (s.withModeCtl_frame _).steady_of_totes (by simp [steadyBlocks]) rfl rfl
  all_goals exact .refl _

theorem State.clearJam_steady (s : State) : Steady s s.clearJam := by
  refine State.whenConfigured_steady 11 (Steady.reply ?_ 11 _ _)
  split
  · have cleared : Steady s (s.withLane
        { s.lane with
          jam := none
          waits := restartWaits s.lane.waits
          sensors := restartSensors s.lane.sensors }) := s.withLane_steady fun _ _ => le_rfl
    exact (((cleared.trans (State.fill_steady _)).trans (State.tryLeave_steady _)).trans
      (State.sweepTest_steady _)).trans (State.settleLane_steady _)
  · exact .refl _

theorem State.retrack_trackKept {c o : Prop} (s : State) : TrackKept c o s s.retrack := by
  refine State.whenConfigured_trackKept 12 fun hs => ?_
  have seeks : TrackKept c o s s.seekAgain := by
    refine .of_tracker (tr := { s.tracker with lock := .seeking, run := 0, attempts := 0, misses := 0 })
      (fun _ l => ⟨((ealLaw_iff s).mp l).1, fun h => absurd h hs⟩) (fun _ x hx => .inl hx) fun l => ?_
    obtain ⟨limits, -⟩ := (lockLaw_configured_iff hs).mp l
    exact (lockLaw_configured_iff (s := s.seekAgain) hs).mpr ⟨limits, rfl, limits.2.1⟩
  exact seeks.trans (State.reply_steady _ _ _ _).trackKept

theorem State.setTime_trackKept {c o : Prop} (s : State) (t : Clock) :
    TrackKept c o s (s.setTime t) := by
  refine State.whenConfigured_trackKept 2 fun _ => (s.moveClock_trackKept t).trans ?_
  exact ((((State.reurgent_steady _ _).trans (State.checkWants_steady _ _)).trans
    (State.settleLane_steady _)).reply 2 .accepted []).trackKept

theorem State.restCommand_steady (s : State) : Steady s s.restCommand :=
  State.whenConfigured_steady (effect := fun s => s.goToRest.reply 9 .accepted) 9
    (s.goToRest_steady.reply 9 _ _)

theorem State.wakeCommand_steady (s : State) : Steady s s.wakeCommand :=
  State.whenConfigured_steady (effect := fun s => s.wakeUp.reply 10 .accepted) 10
    (s.wakeUp_steady.reply 10 _ _)

/-- READ_TRACK clears the counters that it reports, and no entry (R161). -/
theorem State.readTrack_trackKept {c o : Prop} (s : State) : TrackKept c o s s.readTrack := by
  refine State.whenConfigured_trackKept 20 fun _ => ?_
  exact ⟨id, fun _ => id, fun _ => id, id⟩

theorem State.runCommand_trackKept {c o : Prop} (s : State) (i : LinkCommand) :
    TrackKept c o s (s.runCommand i) := by
  have quiet : ∀ {bs : List Block} {t : State}, SameExcept bs s t → bs ⊆ steadyBlocks →
    Block.lane ∉ bs → Block.modeCtl ∉ bs → TrackKept c o s t := fun h sub lane mode =>
    (h.steady sub lane mode).trackKept
  cases i with
  | configure f => exact s.configure_trackKept f
  | setTime t => exact s.setTime_trackKept t
  | restart => exact s.restart_trackKept
  | loadLine tag tote handle cls qty prio =>
    exact (s.loadLine_steady tag tote handle cls qty prio).trackKept
  | cancelLine tag => exact (s.cancelLine_steady tag).trackKept
  | placeOrder h position deadline => exact (s.placeOrder_steady h position deadline).trackKept
  | closeOrder h =>
    exact quiet (s.closeOrder_frame h) (by simp [commandBlocks, steadyBlocks])
      (by simp [commandBlocks]) (by simp [commandBlocks])
  | releaseFace => exact s.releaseFace_steady.trackKept
  | rest => exact s.restCommand_steady.trackKept
  | wake => exact s.wakeCommand_steady.trackKept
  | clearJam => exact s.clearJam_steady.trackKept
  | retrack => exact s.retrack_trackKept
  | setNotice source enable level =>
    exact quiet (s.setNotice_frame source enable level) (by simp [steadyBlocks]) (by simp) (by simp)
  | setFloor floor =>
    exact quiet (s.setFloor_frame floor) (by simp [steadyBlocks]) (by simp) (by simp)
  | readNotice => exact quiet s.readNotice_frame (by simp [steadyBlocks]) (by simp) (by simp)
  | clearNotice source =>
    exact quiet (s.clearNotice_frame source) (by simp [steadyBlocks]) (by simp) (by simp)
  | readStatus => exact ⟨id, fun _ => id, fun _ => id, id⟩
  | readLine tag => exact quiet (s.readLine_frame tag) (by simp [steadyBlocks]) (by simp) (by simp)
  | readLane => exact quiet s.readLane_frame (by simp [steadyBlocks]) (by simp) (by simp)
  | readTrack => exact s.readTrack_trackKept
  | readConfig => exact quiet s.readConfig_frame (by simp [steadyBlocks]) (by simp) (by simp)

theorem State.takeFrame_trackKept {c o : Prop} (s : State) (bytes : List Byte) :
    TrackKept c o s (s.takeFrame bytes) := by
  unfold State.takeFrame
  split
  · exact .refl _
  · split
    · exact .refl _
    · split
      · exact s.runCommand_trackKept _
      · exact (s.reply_steady _ _ _).trackKept

/-! ### Received frames -/

/-- A product number is not 0 (R4). -/
theorem ne_zero_of_isProduct {r : Record} {T : ToteNo} (h : isProduct r T = true) : T ≠ 0 := by
  rintro rfl
  simp [isProduct, toteKind] at h

/-- A received frame meets the tracker in a configured mode, where the receiver is on (R63). -/
theorem State.receiveWith_trackKept {o : Prop} {s : State} {f : Frame} {accept : State → State}
    (h : frameValuesOk s.conf f = true →
      TrackKept (s.mode ≠ .unconfigured) o s.lineIdled (accept s.lineIdled)) :
    TrackKept (TransmitterLaw s) o s (s.receiveWith f accept) := by
  have idled : Steady s s.lineIdled :=
    s.lineIdled_frame.steady (by simp [steadyBlocks]) (by simp) (by simp)
  unfold State.receiveWith
  split
  · rename_i on
    have configured : TransmitterLaw s → s.mode ≠ .unconfigured := fun ⟨_, _, _, rx⟩ h => by
      rw [rx.mpr h] at on
      cases on
    rw [s.frameOver_eq]
    dsimp only
    split
    · exact (idled.trans (State.raise_steady _ _ _)).trackKept
    · split
      · rename_i ok
        exact idled.trackKept.trans ((h ok).mono configured)
      · exact idled.trackKept
  · exact .refl _

theorem State.noteDuplicate_steady (s : State) (T : ToteNo) : Steady s (s.noteDuplicate T) :=
  (s.noteDuplicate_frame T).steady (by simp [steadyBlocks]) (by simp) (by simp)

theorem State.receive_trackKept {o : Prop} (s : State) (f : Frame) :
    TrackKept (TransmitterLaw s) o s (s.receive f) := by
  obtain ⟨sender, T, body⟩ := f
  have mode : (s.lineIdled.noteDuplicate T).mode = s.mode :=
    (s.lineIdled.noteDuplicate_frame T).mode_eq (by simp)
  cases body with
  | infeed a =>
    refine State.receiveWith_trackKept (accept := fun s => s.acceptInfeed T a) fun ok => ?_
    have product : isProduct s.conf T = true := (Bool.and_eq_true _ _ ▸ ok :).1
    exact (s.lineIdled.noteDuplicate_steady T).trackKept.trans
      (State.place_trackKept (fun h => mode ▸ h) fun _ => ne_zero_of_isProduct product)
  | release a =>
    refine State.receiveWith_trackKept (accept := fun s => s.acceptRelease sender T a) fun ok => ?_
    have product : isProduct s.conf T = true := (Bool.and_eq_true _ _ ▸ ok :).1
    have board := TrackKept.of_board (c := s.mode ≠ .unconfigured) (o := o) (s := s.lineIdled.noteDuplicate T)
      (clearHolding_ok (isEntry sender T))
    exact (State.place_trackKept (fun h => mode ▸ h) fun _ => ne_zero_of_isProduct product).after
      ((s.lineIdled.noteDuplicate_steady T).trackKept.trans board)
  | ret =>
    exact State.receiveWith_trackKept (accept := fun s => s.acceptReturn T) fun _ =>
      State.unexpect_trackKept _ T
  | want w =>
    exact State.receiveWith_trackKept (accept := fun s => s.acceptWant sender T w) fun _ =>
      .of_board (boardWant_ok sender T w.toNat)
  | drop =>
    exact State.receiveWith_trackKept (accept := fun s => s.acceptDrop sender T) fun _ =>
      .of_board (boardDrop_ok sender T)
  | hold =>
    refine State.receiveWith_trackKept (accept := fun s => s.acceptHold sender T) fun _ => ?_
    have board := TrackKept.of_board (c := s.mode ≠ .unconfigured) (o := o) (s := s.lineIdled.noteDuplicate T)
      (boardHold_ok sender T)
    exact (State.unexpect_trackKept _ T).after
      ((s.lineIdled.noteDuplicate_steady T).trackKept.trans board)
  | state able =>
    exact State.receiveWith_trackKept (accept := fun s => s.acceptState sender able) fun _ =>
      .of_board id

/-! ### The reader -/

theorem State.lockMatched_trackKept {c o : Prop} {s : State} (hs : s.mode ≠ .unconfigured) :
    TrackKept c o s { s with tracker := lockMatch s.conf s.tracker } := by
  refine .of_tracker (fun _ l => ?_) (fun _ x hx => .inl ?_) fun l => ?_
  · rw [lockMatch_eal]
    exact ⟨((ealLaw_iff _).mp l).1, fun h => absurd h hs⟩
  · rwa [lockMatch_eal] at hx
  · obtain ⟨limits, ok⟩ := (lockLaw_configured_iff hs).mp l
    exact (lockLaw_configured_iff (s := { s with tracker := lockMatch s.conf s.tracker }) hs).mpr
      ⟨limits, lockMatch_ok limits ok⟩

theorem State.matchRead_trackKept {c o : Prop} {s : State} (hs : s.mode ≠ .unconfigured)
    (e : EalEntry) : TrackKept c o s (s.matchRead e) := by
  unfold State.matchRead
  extract_lets _ _ u
  have offered : TrackKept c o s u :=
    (s.unexpect_trackKept e.tote).trans (.of_fewer_expected (.refl _) rfl rfl rfl rfl)
  have hu : u.mode ≠ .unconfigured := hs
  split
  · exact offered.trans (State.lockMatched_trackKept hu)
  · exact offered.trans (State.lockFailure_trackKept hu _)

/-- A take adds to the own lane a tote that stands there nowhere and is expected no more (R98, R103). -/
theorem State.take_ownLaneLaw {s : State} {T : ToteNo} (hT : T ≠ 0)
    (gone : ∀ x ∈ s.tracker.eal, x.tote ≠ T) (away : s.inOwnLane T = false)
    (part : Option EntryPart) (h : OwnLaneLaw s) : OwnLaneLaw (s.take T part) := by
  obtain ⟨once, records, out⟩ := h
  have count : ∀ U, (ownTotes (s.take T part)).count U =
      (ownTotes s).count U + [T].count U := by
    intro U
    rw [count_ownTotes, count_ownTotes]
    simp only [State.take, List.map_append, List.map_cons, List.map_nil, List.count_append]
    omega
  have none := (inOwnLane_eq_false_iff s T).mp away
  refine ⟨(ownTotes_nodup_iff _).mpr fun U hU => ?_, fun d hd => ?_, fun e he => ?_⟩
  · rw [count]
    have before := (ownTotes_nodup_iff s).mp once U hU
    by_cases h : U = T
    · rw [h, none]
      simp
    · rw [List.count_eq_zero_of_not_mem (l := [T]) (by simpa using h)]
      exact before
  · rcases List.mem_append.mp hd with hd | hd
    · exact records d hd
    · rw [List.mem_singleton.mp hd]
      exact hT
  · obtain ⟨nonzero, outside⟩ := out e he
    refine ⟨nonzero, (inOwnLane_eq_false_iff _ _).mpr ?_⟩
    rw [count, (inOwnLane_eq_false_iff s _).mp outside,
      List.count_eq_zero_of_not_mem (by simpa using gone e he)]

/-- A read of a product tote that is expected no more: a take adds it to the own lane, a pass to the expected
arrivals (R84, R98, R103). -/
theorem State.sighted_trackKept {c o : Prop} {s : State} (hs : s.mode ≠ .unconfigured) {T : ToteNo}
    (hT : o → T ≠ 0) (gone : ∀ x ∈ s.tracker.eal, x.tote ≠ T) (part : Option EntryPart) :
    TrackKept c o s (s.sighted T part) := by
  unfold State.sighted
  refine (State.settleLane_steady _).trackKept.after ?_
  refine TrackKept.after ?_ (.of_board (b := boardSighting s.board T)
    (clearHolding_ok fun e => e.tote == T))
  unfold State.judge
  split
  · exact (State.raise_steady _ _ _).trackKept
  · rename_i away
    split
    · exact ⟨id, fun _ => id, fun hc =>
        State.take_ownLaneLaw (hT hc) gone (Bool.eq_false_of_not_eq_true away) part, id⟩
    · exact State.place_trackKept (fun _ => hs) fun hc => by
        rw [reAddEntry_tote]
        exact hT hc

theorem State.matchRead_eal (s : State) (e : EalEntry) :
    (s.matchRead e).tracker.eal = s.tracker.eal.filter fun x => x.tote != e.tote := by
  unfold State.matchRead
  dsimp only
  split
  · exact lockMatch_eal _ _
  · unfold State.lockFailure
    dsimp only
    split
    · exact lockFail_eal _ _
    · exact lockFail_eal _ _

theorem ne_of_mem_filter_tote {es : List EalEntry} {T : ToteNo} :
    ∀ x ∈ es.filter (fun x => x.tote != T), x.tote ≠ T := fun x hx => by
  simpa using (List.mem_filter.mp hx).2

theorem positionEntry_mem {r : Record} {c : Count} {tr : Tracker} {e : EalEntry}
    (h : positionEntry r c tr = some e) : e ∈ tr.eal := by
  unfold positionEntry at h
  split at h
  · rename_i only
    cases h
    exact (List.mem_filter.mp (only ▸ List.mem_singleton_self e)).1
  · cases h

theorem State.failedRead_trackKept {c o : Prop} {s : State} (hs : s.mode ≠ .unconfigured)
    (own : o → OwnLaneLaw s) : TrackKept c o s s.failedRead := by
  unfold State.failedRead
  split
  · rename_i e he
    exact (s.unexpect_trackKept e.tote).trans (State.sighted_trackKept (s := s.unexpect e.tote) hs
      (fun hc => ((own hc).2.2 e (positionEntry_mem he)).1) ne_of_mem_filter_tote _)
  · exact .refl _

theorem State.goodRead_trackKept {c o : Prop} {s : State} (hs : s.mode ≠ .unconfigured)
    {T : ToteNo} (hT : T ≠ 0) : TrackKept c o s (s.goodRead T) := by
  unfold State.goodRead
  split
  · rename_i e he
    have tote : e.tote = T := by simpa using List.find?_some he
    have mode : (s.matchRead e).mode = s.mode := (s.matchRead_frame e).mode_eq (by simp)
    refine (State.matchRead_trackKept hs e).trans
      (State.sighted_trackKept (mode ▸ hs) (fun _ => hT) ?_ _)
    rw [State.matchRead_eal, tote]
    exact ne_of_mem_filter_tote
  · rename_i absent
    refine State.sighted_trackKept hs (fun _ => hT) (fun x hx => ?_) none
    simpa using List.find?_eq_none.mp absent x hx

theorem State.readReport_trackKept {c o : Prop} {s : State} (own : o → OwnLaneLaw s)
    (r : ReaderReport) : TrackKept c o s (s.readReport r) := by
  unfold State.readReport
  split
  · rename_i configured
    have hs := s.configured_iff.mp configured
    have failed : TrackKept c o s s.failedRead := State.failedRead_trackKept hs own
    split
    · exact failed
    · split
      · rename_i product
        exact State.goodRead_trackKept hs (ne_zero_of_isProduct (r := s.conf) (by
          rw [isProduct, product]
          rfl))
      · exact .refl _
      · exact failed
      · exact failed
  · exact .refl _

/-! ### The lane -/

theorem State.fieldEvent_trackKept {c o : Prop} {s : State} {effect : State → State}
    (h : s.mode ≠ .unconfigured → TrackKept c o s (effect s)) :
    TrackKept c o s (s.fieldEvent effect) := by
  unfold State.fieldEvent
  split
  · exact (h (s.configured_iff.mp (by assumption))).trans (State.settleLane_steady _).trackKept
  · exact .refl _

theorem State.sensorLevel_steady (s : State) (x : Sensor) (b : Bool) :
    Steady s (s.sensorLevel x b) := s.withLane_steady fun _ _ => le_rfl

theorem State.sensorEvent_trackKept {c o : Prop} {s : State} (x : Sensor) (b : Bool)
    {effect : State → State}
    (h : s.mode ≠ .unconfigured → TrackKept c o (s.sensorLevel x b) (effect (s.sensorLevel x b))) :
    TrackKept c o s ((s.sensorLevel x b).fieldEvent effect) :=
  (s.sensorLevel_steady x b).trackKept.trans (State.fieldEvent_trackKept h)

/-- A completed divert record moves to the queue and keeps its tote number (R104). -/
theorem State.recordQueued_trackKept {c o : Prop} {s : State} {d : DivertRec} {rest : List DivertRec}
    (hd : s.divert.records = d :: rest) (q : LaneRec) (hq : q.tote = d.tote) :
    TrackKept c o s (({ s with divert := { s.divert with records := rest } } : State).pushRecord q) := by
  refine ⟨id, fun _ => id, fun _ l => l.of_fewer (fun T _ => le_of_eq ?_) (fun x hx => l.2.1 x ?_)
    fun _ => .inl, id⟩
  · simp only [ownTotes, State.pushRecord, State.withLane, hd, List.map_append, List.map_cons,
      List.map_nil, List.count_append, List.count_cons, List.count_nil, hq]
    omega
  · rw [hd]
    exact .tail _ hx

theorem State.newHeadCheck_steady (s : State) : Steady s s.newHeadCheck := by
  unfold State.newHeadCheck
  split
  · exact s.headTurnedUrgent_steady
  · exact .refl _

theorem State.complete_trackKept {c o : Prop} {s : State} {d : DivertRec} {rest : List DivertRec}
    (hd : s.divert.records = d :: rest) : TrackKept c o s (s.complete d rest) :=
  ((State.fill_steady _).after ((State.newHeadCheck_steady _).after
    ((State.coldWork_steady _ _).after (State.request_steady _ _ _)))).trackKept.after
    (State.recordQueued_trackKept hd _ rfl)

theorem State.pushStray_steady (s : State) (t : Clock) :
    Steady s (s.pushRecord (strayRec t)) := by
  refine s.withLane_steady fun T hT => le_of_eq ?_
  have other : [(strayRec t).tote].count T = 0 :=
    List.count_eq_zero_of_not_mem (by simpa [strayRec, newLaneRec] using hT)
  simp only [laneTotes, List.map_append, List.map_cons, List.map_nil, List.count_append, other]
  omega

theorem State.strayEntry_steady {s : State} (hs : s.mode ≠ .unconfigured) :
    Steady s s.strayEntry := by
  unfold State.strayEntry
  split
  · dsimp only
    split
    · exact (s.pushStray_steady _).trans (State.enterSweeping_steady (s := s.pushRecord _) hs _)
    · exact (State.fill_steady _).after (s.pushStray_steady _)
  · exact s.jamLane_steady _

theorem State.entryBlocks_trackKept {c o : Prop} (s : State) : TrackKept c o s s.entryBlocks := by
  refine State.sensorEvent_trackKept .entry true (effect := fun s =>
    match s.divert.records with
    | d :: rest => s.complete d rest
    | [] => s.strayEntry) fun hs => ?_
  split
  · rename_i records
    exact State.complete_trackKept records
  · exact (State.strayEntry_steady (s := s.sensorLevel .entry true) hs).trackKept

theorem State.headBlocks_trackKept {c o : Prop} (s : State) : TrackKept c o s s.headBlocks := by
  refine State.sensorEvent_trackKept .head true (effect := fun s =>
    (s.withLane { s.lane with waits := { s.lane.waits with head := none } }).fill) fun _ => ?_
  refine (State.fill_steady _).trackKept.after (Steady.trackKept ?_)
  exact State.withLane_steady _ fun _ _ => le_rfl

theorem State.arrive_steady {s : State} {q : LaneRec} (hq : s.lane.faceRec = some q) :
    Steady s (s.arrive q) := by
  have stood : ∀ f w, Steady s (s.withLane { s.lane with faceRec := some { q with stage := .face, savedTag := none }, waits := w, face := f }) :=
    fun f w => s.withLane_steady fun T _ => le_of_eq (by simp [laneTotes, hq])
  unfold State.arrive
  dsimp only
  split
  · exact (State.beginRelease_steady _).after (stood _ _)
  · split
    · split
      · exact (State.preemptCheck_steady _).after (stood .presenting _)
      · exact ((State.requestLine_steady _).after (State.preemptCheck_steady _)).after
          (stood .presenting _)
    · exact (State.requestLine_steady _).after (stood .presenting _)

theorem State.faceBlocks_trackKept {c o : Prop} (s : State) : TrackKept c o s s.faceBlocks := by
  refine State.sensorEvent_trackKept .face true (effect := fun s =>
    match s.lane.face, s.lane.faceRec with
    | .arriving, some q => s.arrive q
    | _, _ => if s.mode = .sweeping then s.fill else s) fun _ => ?_
  split
  · rename_i q _ record
    exact (State.arrive_steady record).trackKept
  · split
    · exact (State.fill_steady _).trackKept
    · exact .refl _

theorem State.parkBlocks_trackKept {c o : Prop} (s : State) : TrackKept c o s s.parkBlocks := by
  refine State.sensorEvent_trackKept .park true (effect := fun s =>
    if s.lane.face = .parking then s.parked else if s.mode = .sweeping then s.fill else s)
    fun _ => ?_
  split
  · refine (State.fill_steady _).trackKept.after (Steady.trackKept ?_)
    exact State.withLane_steady _ fun _ _ => le_rfl
  · split
    · exact (State.fill_steady _).trackKept
    · exact .refl _

theorem State.exitBlocks_trackKept {c o : Prop} (s : State) : TrackKept c o s s.exitBlocks := by
  refine State.sensorEvent_trackKept .exit true (effect := fun s =>
    if s.mode = .sweeping then s.fill else s) fun _ => ?_
  split
  · exact (State.fill_steady _).trackKept
  · exact .refl _

/-- The tote that merged is expected one lap on, and stands in the lane no more (R85, R119). -/
theorem State.leaves_trackKept {c o : Prop} {s : State} (hs : s.mode ≠ .unconfigured) (q : LaneRec) :
    TrackKept c o s (s.leaves q) := by
  refine ((State.sweepTest_steady _).after ((State.drainTest_steady _).after
    (State.fill_steady _))).trackKept.after (TrackKept.after ?_ (State.withLane_steady s
      (l := { s.lane with face := .empty, faceRec := none, waits := { s.lane.waits with merge := none } })
      fun T _ => ?_).trackKept)
  · unfold State.mergeOut
    split
    · exact .refl _
    · rename_i nonzero
      have mode : ∀ (u : State) T b, (u.request T b).mode = u.mode := fun u T b =>
        (u.request_frame T b).mode_eq (by simp)
      exact (State.request_steady _ _ _).trackKept.trans
        (State.place_trackKept (fun _ => (mode _ _ _).symm ▸ hs) fun _ => nonzero)
  · simp only [laneTotes, List.map_append, List.count_append]
    simp

theorem State.exitClears_trackKept {c o : Prop} (s : State) : TrackKept c o s s.exitClears := by
  refine State.sensorEvent_trackKept .exit false (effect := fun s =>
    match s.lane.face, s.lane.faceRec with
    | .leaving, some q => s.leaves q
    | _, _ => s.sweepTest) fun hs => ?_
  split
  · exact State.leaves_trackKept (s := s.sensorLevel .exit false) hs _
  · exact (State.sweepTest_steady _).trackKept

theorem State.sensorClears_trackKept {c o : Prop} (s : State) (x : Sensor) :
    TrackKept c o s (s.sensorClears x) :=
  State.sensorEvent_trackKept x false fun _ => (State.sweepTest_steady _).trackKept

/-! ### The encoder pulse (R2, R83, R106) -/

/-- The list at a new count before the overdue entries are out: none lies so far behind that it counts as
ahead. -/
def EalNear (c : Count) (es : List EalEntry) : Prop :=
  es.length ≤ 32 ∧ (es.map EalEntry.tote).Nodup ∧
    es.Pairwise (fun a b => aheadOf a.expected c ≤ aheadOf b.expected c) ∧
    ∀ e ∈ es, signed16 (c - e.expected) ≠ -32768

theorem signed16_neg {x : Count} (h : signed16 x ≠ -32768) : signed16 (-x) = -signed16 x := by
  unfold signed16 at *
  have low := x.le_toInt
  have high := x.toInt_lt
  rw [BitVec.toInt_neg, Int.bmod_def]
  omega

/-- Short of the far end of the loop's half, what is ahead is not behind. -/
theorem aheadOf_eq_neg {c e : Count} (h : signed16 (c - e) ≠ -32768) :
    aheadOf e c = -signed16 (c - e) := by
  rw [← signed16_neg h, aheadOf, neg_sub]

theorem EalNear.tail {c : Count} {e : EalEntry} {es : List EalEntry} (h : EalNear c (e :: es)) :
    EalNear c es := by
  obtain ⟨len, totes, sorted, near⟩ := h
  exact ⟨(Nat.le_succ _).trans len, (List.nodup_cons.mp totes).2, sorted.tail,
    fun x hx => near x (.tail _ hx)⟩

/-- The list is in order, so with its nearest entry not overdue none is (R83). -/
theorem EalNear.ok {r : Record} {c : Count} {e : EalEntry} {es : List EalEntry}
    (h : EalNear c (e :: es)) (due : isOverdue r c e = false) : EalOk r c (e :: es) := by
  obtain ⟨len, totes, sorted, near⟩ := h
  refine ⟨len, totes, sorted, fun x hx => ?_⟩
  rcases List.mem_cons.mp hx with rfl | hm
  · exact due
  · have order := (List.pairwise_cons.mp sorted).1 x hm
    rw [aheadOf_eq_neg (near e (.head _)), aheadOf_eq_neg (near x hx)] at order
    simp only [isOverdue, decide_eq_false_iff_not] at due ⊢
    omega

/-- One count on, an entry that was not overdue lies at most one past the window (R2, R83). -/
theorem near_of_not_overdue {r : Record} {c : Count} {e : EalEntry} (win : r.wWin ≤ 255)
    (due : isOverdue r c e = false) : signed16 (c + 1 - e.expected) ≠ -32768 := by
  have step : c + 1 - e.expected = (c - e.expected) + 1 := by ring
  have due := of_decide_eq_false due
  unfold signed16 at *
  rw [step]
  have low := (c - e.expected).le_toInt
  have high := (c - e.expected).toInt_lt
  have one : (1 : Count).toInt = 1 := rfl
  rw [BitVec.toInt_add, one, Int.bmod_def]
  omega

theorem foldl_insertEntry_perm (c : Count) (es acc : List EalEntry) :
    (es.foldl (fun acc e => insertEntry c e acc) acc).Perm (es ++ acc) := by
  induction es generalizing acc with
  | nil => exact .refl _
  | cons e es ih =>
    exact (ih _).trans (((insertEntry_perm c e acc).append_left es).trans List.perm_middle)

theorem foldl_insertEntry_sorted (c : Count) (es : List EalEntry) {acc : List EalEntry}
    (h : acc.Pairwise fun a b => aheadOf a.expected c ≤ aheadOf b.expected c) :
    (es.foldl (fun acc e => insertEntry c e acc) acc).Pairwise
      fun a b => aheadOf a.expected c ≤ aheadOf b.expected c := by
  induction es generalizing acc with
  | nil => exact h
  | cons e es ih => exact ih (insertEntry_sorted e h)

theorem standInOrder_perm (c : Count) (es : List EalEntry) : (standInOrder c es).Perm es :=
  (foldl_insertEntry_perm c es []).trans (by rw [List.append_nil])

theorem standInOrder_near {r : Record} {c : Count} {es : List EalEntry} (win : r.wWin ≤ 255)
    (h : EalOk r c es) : EalNear (c + 1) (standInOrder (c + 1) es) := by
  obtain ⟨len, totes, -, due⟩ := h
  have perm := standInOrder_perm (c + 1) es
  exact ⟨perm.length_eq ▸ len, ((perm.map EalEntry.tote).nodup_iff).mpr totes,
    foldl_insertEntry_sorted _ _ .nil,
    fun e he => near_of_not_overdue win (due e (perm.mem_iff.mp he))⟩

theorem State.lockFailure_eal (s : State) (T : ToteNo) :
    (s.lockFailure T).tracker.eal = s.tracker.eal := by
  unfold State.lockFailure
  dsimp only
  split <;> exact lockFail_eal _ _

theorem State.overdueStep_eal (s : State) :
    s.overdueStep.tracker.eal = match s.tracker.eal with
      | [] => []
      | e :: rest => if isOverdue s.conf s.count e then rest else e :: rest := by
  unfold State.overdueStep
  cases h : s.tracker.eal with
  | nil => exact h
  | cons e rest =>
    dsimp only
    split
    · exact State.lockFailure_eal _ _
    · exact h

theorem State.overdueSteps_conf_count (n : Nat) (s : State) :
    (State.overdueSteps n s).conf = s.conf ∧ (State.overdueSteps n s).count = s.count := by
  have frame := State.overdueSteps_frame n s
  exact ⟨frame.conf_eq (by simp), frame.count_eq (by simp)⟩

theorem State.overdueSteps_of_ok (n : Nat) {s : State} (h : EalOk s.conf s.count s.tracker.eal) :
    State.overdueSteps n s = s := by
  have still : s.overdueStep = s := by
    unfold State.overdueStep
    split
    · rfl
    · rename_i e rest hl
      rw [if_neg]
      rw [h.2.2.2 e (hl ▸ .head _)]
      decide
  induction n with
  | zero => rfl
  | succ n ih => rw [State.overdueSteps, still, ih]

/-- As many looks as entries leave none overdue (R83). -/
theorem State.overdueSteps_ok (n : Nat) {s : State} (len : s.tracker.eal.length ≤ n)
    (h : EalNear s.count s.tracker.eal) :
    EalOk s.conf s.count (State.overdueSteps n s).tracker.eal := by
  induction n generalizing s with
  | zero =>
    have empty : s.tracker.eal = [] := List.length_eq_zero_iff.mp (Nat.le_zero.mp len)
    show EalOk _ _ s.tracker.eal
    rw [empty]
    exact .nil _ _
  | succ n ih =>
    cases hl : s.tracker.eal with
    | nil =>
      have ok : EalOk s.conf s.count s.tracker.eal := hl ▸ .nil _ _
      rw [State.overdueSteps_of_ok _ ok]
      exact ok
    | cons e rest =>
      rw [hl] at h len
      cases due : isOverdue s.conf s.count e with
      | false =>
        have ok : EalOk s.conf s.count s.tracker.eal := hl ▸ h.ok due
        rw [State.overdueSteps_of_ok _ ok]
        exact ok
      | true =>
        have left : s.overdueStep.tracker.eal = rest := by
          rw [State.overdueStep_eal, hl]
          exact if_pos due
        obtain ⟨conf, count⟩ := State.overdueSteps_conf_count 1 s
        have conf : s.overdueStep.conf = s.conf := conf
        have count : s.overdueStep.count = s.count := count
        have rest := ih (s := s.overdueStep) (by
          rw [left]
          exact Nat.le_of_succ_le_succ len) (by
          rw [left, count]
          exact h.tail)
        rwa [conf, count] at rest

theorem State.overdueStep_trackKept {c o : Prop} {s : State} (hs : s.mode ≠ .unconfigured) :
    TrackKept c o s s.overdueStep := by
  unfold State.overdueStep
  split
  · exact .refl _
  · rename_i e rest hl
    split
    · exact (TrackKept.of_fewer_expected (tr := { s.tracker with eal := rest })
        (by rw [hl]; exact List.sublist_cons_self e rest) rfl rfl rfl rfl).trans
        (State.lockFailure_trackKept (s := { s with tracker := { s.tracker with eal := rest } }) hs _)
    · exact .refl _

theorem State.overdueSteps_trackKept {c o : Prop} (n : Nat) {s : State}
    (hs : s.mode ≠ .unconfigured) : TrackKept c o s (State.overdueSteps n s) := by
  induction n generalizing s with
  | zero => exact .refl _
  | succ n ih =>
    have mode : s.overdueStep.mode = s.mode := s.overdueStep_frame.mode_eq (by simp)
    exact (State.overdueStep_trackKept hs).trans (ih (mode ▸ hs))

/-- A timed-out divert record leaves the lane, and its tote is expected one lap on (R84, R106). -/
theorem State.timeOut_trackKept {c o : Prop} {s : State} {d : DivertRec} {rest : List DivertRec}
    (hs : s.mode ≠ .unconfigured) (hd : s.divert.records = d :: rest) (nonzero : o → d.tote ≠ 0) :
    TrackKept c o s (s.timeOut d rest) := by
  have raised := (s.raise_frame .divertFail d.tote)
  unfold State.timeOut
  extract_lets s1 _ s2 s3
  have first : TrackKept c o s s1 := (State.raise_steady _ _ _).trackKept
  have divert : s1.divert = s.divert := raised.divert_eq (by simp)
  have second : TrackKept c o s1 s2 := by
    refine ⟨id, fun _ => id, fun _ l => l.of_fewer (fun T _ => ?_) (fun x hx => l.2.1 x ?_)
      fun _ => .inl, id⟩
    · rw [count_ownTotes, count_ownTotes, divert, hd]
      simp only [s2, List.map_cons, List.count_cons]
      omega
    · rw [divert, hd]
      exact .tail _ hx
  have mode : s3.mode = s.mode :=
    ((s2.request_frame _ _).mode_eq (by simp)).trans (raised.mode_eq (by simp))
  refine ((first.trans second).trans (State.request_steady _ _ _).trackKept).trans
    (State.place_trackKept (fun _ => mode ▸ hs) fun hc => ?_)
  rw [reAddEntry_tote]
  exact nonzero hc

theorem State.divertStep_trackKept {c o : Prop} {s : State} (hs : s.mode ≠ .unconfigured)
    (own : o → OwnLaneLaw s) : TrackKept c o s s.divertStep := by
  unfold State.divertStep
  split
  · exact .refl _
  · rename_i d rest hd
    split
    · exact State.timeOut_trackKept hs hd fun hc => (own hc).2.1 d (hd ▸ .head _)
    · exact .refl _

theorem State.divertSteps_trackKept {c o : Prop} (n : Nat) {s : State} (hs : s.mode ≠ .unconfigured)
    (own : o → OwnLaneLaw s) : TrackKept c o s (State.divertSteps n s) := by
  induction n generalizing s with
  | zero => exact .refl _
  | succ n ih =>
    have mode : s.divertStep.mode = s.mode := s.divertStep_frame.mode_eq (by simp)
    have one : TrackKept c o s s.divertStep := State.divertStep_trackKept hs own
    exact one.trans (ih (mode ▸ hs) fun hc => one.own hc (own hc))

theorem State.drainAndSettle_steady (s : State) : Steady s s.drainTest.settleLane :=
  (State.settleLane_steady _).after (State.drainTest_steady _)

/-- The expected arrivals in the order of the new count are the same entries (R78, log 27). -/
theorem State.advanceCount_ownLaneLaw {s : State} (h : OwnLaneLaw s) : OwnLaneLaw s.advanceCount :=
  h.of_fewer (fun _ _ => le_rfl) h.2.1 fun _ he => .inl ((standInOrder_perm _ _).mem_iff.mp he)

theorem State.pulse_trackKept {c o : Prop} {s : State} (own : o → OwnLaneLaw s) :
    TrackKept c o s s.pulse := by
  have own1 := fun hc => State.advanceCount_ownLaneLaw (own hc)
  unfold State.pulse
  extract_lets s1 s2
  have near : EalLaw s → EalNear s1.count s1.tracker.eal := fun l =>
    standInOrder_near ((ealLaw_iff s).mp l).2.2 ((ealLaw_iff s).mp l).1
  split
  · rename_i configured
    have hs : s1.mode ≠ .unconfigured := s1.configured_iff.mp configured
    have removed : TrackKept c o s1 s2 := State.overdueSteps_trackKept _ hs
    have mode : s2.mode = s1.mode := (State.overdueSteps_frame _ s1).mode_eq (by simp)
    obtain ⟨conf, count⟩ := State.overdueSteps_conf_count s1.tracker.eal.length s1
    have diverted : TrackKept c o s2 (State.divertSteps s2.divert.records.length s2) :=
      State.divertSteps_trackKept _ (mode ▸ hs) fun hc => removed.own hc (own1 hc)
    refine TrackKept.trans (t := s2) ⟨removed.board, fun _ l => (ealLaw_iff _).mpr ⟨?_, fun h => ?_, ?_⟩,
      fun hc l => removed.own hc (State.advanceCount_ownLaneLaw l), removed.lock⟩
      (diverted.trans (State.drainAndSettle_steady _).trackKept)
    · show EalOk s2.conf s2.count _
      rw [conf, count]
      exact State.overdueSteps_ok _ le_rfl (near l)
    · exact absurd (mode.symm.trans h) hs
    · show s2.conf.wWin ≤ 255
      rw [conf]
      exact ((ealLaw_iff s).mp l).2.2
  · rename_i unconfigured
    have hs : s.mode = .unconfigured := not_not.mp fun h => unconfigured (s1.configured_iff.mpr h)
    refine ⟨id, fun _ l => ?_, fun _ => State.advanceCount_ownLaneLaw, id⟩
    obtain ⟨-, empty, win⟩ := (ealLaw_iff s).mp l
    have none : s1.tracker.eal = [] := by
      show standInOrder _ s.tracker.eal = []
      rw [empty hs]
      rfl
    refine (ealLaw_iff _).mpr ⟨?_, fun _ => none, win⟩
    rw [none]
    exact .nil _ _

/-! ### The one-second tick (R9, R67, R74) -/

theorem State.ageEntries_trackKept {c o : Prop} (s : State) : TrackKept c o s s.ageEntries := by
  refine .of_board fun h => EntriesOk.sublist ?_ List.filter_sublist
  exact h.map (fun e => ⟨rfl, rfl⟩) fun e he => h.2.2 e he

theorem State.stallWork_steady (s : State) : Steady s s.stallWork := by
  unfold State.stallWork
  split
  · exact .refl _
  · rename_i q hq
    split
    · refine (State.raise_steady _ _ _).after (s.withLane_steady fun T _ => le_of_eq ?_)
      simp [laneTotes, hq]
    · exact .refl _

theorem State.countMergeWait_steady (s : State) : Steady s s.countMergeWait := by
  unfold State.countMergeWait
  split
  · refine s.withLane_steady fun T _ => le_of_eq ?_
    cases hq : s.lane.faceRec <;> simp [laneTotes, hq]
  · exact .refl _

theorem State.refreshWork_trackKept {c o : Prop} (s : State) : TrackKept c o s s.refreshWork := by
  unfold State.refreshWork
  split
  · have counted : TrackKept c o s { s with board := { s.board with refreshCount := 0 } } :=
      .of_board id
    exact ((Steady.foldl (fun s T => State.request_steady s T .hold) _ _).after
      (State.request_steady _ _ _)).trackKept.after counted
  · exact .refl _

theorem State.tick_trackKept {c o : Prop} (s : State) : TrackKept c o s s.tick := by
  have clock : TrackKept c o s s.advanceClock := ⟨id, fun _ => id, fun _ => id, id⟩
  unfold State.tick
  extract_lets s1 s2 s3
  split
  · have aged : TrackKept c o s1 (s1.ageStations.ageEntries) :=
      (State.ageEntries_trackKept _).after (.of_board id)
    have lane : Steady s1.ageStations.ageEntries s3 :=
      (State.reurgent_steady _ _).after ((Steady.foldl State.coldWork_steady _ _).after
        ((State.stallWork_steady _).after (State.countMergeWait_steady _)))
    have refreshed : TrackKept c o (s3.checkWants fun _ => true)
        (s3.checkWants fun _ => true).countRefresh :=
      (State.refreshWork_trackKept _).after (.of_board id)
    exact (State.settleLane_steady _).trackKept.after (refreshed.after
      ((State.checkWants_steady _ _).trackKept.after (lane.trackKept.after (aged.after clock))))
  · exact clock

/-! ### Every command, and every step (O59) -/

/-- A command that touches neither the lane, the mode nor what the laws are about. -/
theorem exec_steady_of_blocks {c : Instr} {s : State} (sub : commandBlocks c ⊆ steadyBlocks)
    (lane : Block.lane ∉ commandBlocks c) (mode : Block.modeCtl ∉ commandBlocks c) :
    ∃ t, exec c s = .next t ∧ Steady s t :=
  (exec_frame c s).imp fun _ ⟨run, frame⟩ => ⟨run, frame.steady sub lane mode⟩

theorem State.shortKey_steady (s : State) : Steady s s.shortKey := by
  unfold State.shortKey
  split
  · exact .refl _
  · exact (State.settleLane_steady _).after ((State.lineBoundary_steady _ _).after
      ((State.leaveActive_steady _).after ((State.raise_steady _ _ _).after
        (State.setLineState_steady _ _ _))))

theorem State.setPuts_steady (s : State) (tag : Tag) (n : Nat) : Steady s (s.setPuts tag n) :=
  SameExcept.steady (bs := [.demand]) (by simp [SameExcept, State.setPuts]) (by simp [steadyBlocks])
    (by simp) (by simp)

theorem State.withPicker_steady (s : State) (p : Picker) : Steady s { s with picker := p } :=
  SameExcept.steady (bs := [.picker]) (by simp [SameExcept]) (by simp [steadyBlocks]) (by simp)
    (by simp)

theorem State.countPut_steady (s : State) (l : Line) : Steady s (s.countPut l) := by
  unfold State.countPut
  dsimp only
  split
  · exact (State.withPicker_steady _ _).after (s.setPuts_steady _ _)
  · exact (State.settleLane_steady _).after ((State.lineBoundary_steady _ _).after
      ((State.leaveActive_steady _).after ((State.raise_steady _ _ _).after
        ((State.setLineState_steady _ _ _).after (s.setPuts_steady _ _)))))

theorem State.judgeBreak_steady (s : State) (k : PutIdx) : Steady s (s.judgeBreak k) := by
  unfold State.judgeBreak
  split
  · exact .refl _
  · split
    · exact s.raise_steady _ _
    · split
      · split
        · exact s.countPut_steady _
        · exact s.raise_steady _ _
      · exact s.raise_steady _ _

theorem State.beamBreak_steady (s : State) (k : PutIdx) : Steady s (s.beamBreak k) := by
  unfold State.beamBreak
  split
  · exact (State.judgeBreak_steady _ k).after (s.withPicker_steady _)
  · exact s.withPicker_steady _

theorem State.mergeGap_steady (s : State) (g : Bool) :
    Steady s ((s.withLane { s.lane with gap := g }).fieldEvent State.tryLeave) := by
  have level : Steady s (s.withLane { s.lane with gap := g }) := s.withLane_steady fun _ _ => le_rfl
  unfold State.fieldEvent
  split
  · exact (State.settleLane_steady _).after ((State.tryLeave_steady _).after level)
  · exact level

/-- Every command keeps the laws: that of the expected arrivals with the transmitter's, by which the receiver is
off in UNCONFIGURED (R63). -/
theorem exec_trackKept (i : Instr) (s : State) :
    ∃ t, exec i s = .next t ∧ TrackKept (TransmitterLaw s) (OwnLaneLaw s) s t := by
  have still : commandBlocks i ⊆ steadyBlocks → Block.lane ∉ commandBlocks i →
      Block.modeCtl ∉ commandBlocks i →
      ∃ t, exec i s = .next t ∧ TrackKept (TransmitterLaw s) (OwnLaneLaw s) s t :=
    fun sub lane mode =>
      (exec_steady_of_blocks sub lane mode).imp fun _ ⟨run, steady⟩ => ⟨run, steady.trackKept⟩
  cases i with
  | powerOnReset => exact ⟨_, rfl, s.powerOn_trackKept⟩
  | transaction bits =>
    exact ⟨_, rfl, (State.takeFrame_trackKept _ _).after ⟨id, fun _ => id, fun _ => id, id⟩⟩
  | badFrame bytes => exact ⟨_, rfl, s.takeFrame_trackKept bytes⟩
  | configure f => exact ⟨_, rfl, s.runCommand_trackKept (.configure f)⟩
  | setTime t => exact ⟨_, rfl, s.runCommand_trackKept (.setTime t)⟩
  | restart => exact ⟨_, rfl, s.runCommand_trackKept .restart⟩
  | loadLine tag tote handle cls qty prio =>
    exact ⟨_, rfl, s.runCommand_trackKept (.loadLine tag tote handle cls qty prio)⟩
  | cancelLine tag => exact ⟨_, rfl, s.runCommand_trackKept (.cancelLine tag)⟩
  | placeOrder h position deadline =>
    exact ⟨_, rfl, s.runCommand_trackKept (.placeOrder h position deadline)⟩
  | closeOrder h => exact ⟨_, rfl, s.runCommand_trackKept (.closeOrder h)⟩
  | releaseFace => exact ⟨_, rfl, s.runCommand_trackKept .releaseFace⟩
  | rest => exact ⟨_, rfl, s.runCommand_trackKept .rest⟩
  | wake => exact ⟨_, rfl, s.runCommand_trackKept .wake⟩
  | clearJam => exact ⟨_, rfl, s.runCommand_trackKept .clearJam⟩
  | retrack => exact ⟨_, rfl, s.runCommand_trackKept .retrack⟩
  | setNotice source enable level =>
    exact ⟨_, rfl, s.runCommand_trackKept (.setNotice source enable level)⟩
  | setFloor floor => exact ⟨_, rfl, s.runCommand_trackKept (.setFloor floor)⟩
  | readNotice => exact ⟨_, rfl, s.runCommand_trackKept .readNotice⟩
  | clearNotice source => exact ⟨_, rfl, s.runCommand_trackKept (.clearNotice source)⟩
  | readStatus => exact ⟨_, rfl, s.runCommand_trackKept .readStatus⟩
  | readLine tag => exact ⟨_, rfl, s.runCommand_trackKept (.readLine tag)⟩
  | readLane => exact ⟨_, rfl, s.runCommand_trackKept .readLane⟩
  | readTrack => exact ⟨_, rfl, s.runCommand_trackKept .readTrack⟩
  | readConfig => exact ⟨_, rfl, s.runCommand_trackKept .readConfig⟩
  | encoderPulse => exact ⟨_, rfl, State.pulse_trackKept id⟩
  | overdueRemoval =>
    refine ⟨_, rfl, ?_⟩
    split
    · rename_i configured
      exact State.overdueStep_trackKept (s.configured_iff.mp configured)
    · exact .refl _
  | divertTimeout =>
    refine ⟨_, rfl, ?_⟩
    split
    · rename_i configured
      exact (State.divertStep_trackKept (s.configured_iff.mp configured) id).trans
        (State.drainAndSettle_steady _).trackKept
    · exact .refl _
  | oneSecondTick => exact ⟨_, rfl, s.tick_trackKept⟩
  | stationStale x => exact ⟨_, rfl, .of_board id⟩
  | entryStale x T => exact ⟨_, rfl, .of_board fun h => h.sublist List.filter_sublist⟩
  | stateAndHoldRefresh => exact ⟨_, rfl, s.refreshWork_trackKept⟩
  | wantRefresh T =>
    exact still (by simp [commandBlocks, steadyBlocks]) (by simp [commandBlocks])
      (by simp [commandBlocks])
  | coldAlert T => exact ⟨_, rfl, (s.coldAlertWork_steady T).trackKept⟩
  | coldBreach T =>
    refine ⟨_, rfl, ?_⟩
    split
    · exact ((State.settleLane_steady _).after ((State.reurgent_steady _ _).after
        (s.breach_steady T))).trackKept
    · exact .refl _
  | mergeStall => exact ⟨_, rfl, s.stallWork_steady.trackKept⟩
  | laneJam w => exact ⟨_, rfl, (State.passAll_steady _ s).trackKept⟩
  | unaccountedSensor x => exact ⟨_, rfl, (State.passAll_steady _ s).trackKept⟩
  | settleEnd k => exact ⟨_, rfl, (State.passAll_steady _ s).trackKept⟩
  | beamStuck k => exact ⟨_, rfl, (State.passAll_steady _ s).trackKept⟩
  | beamRecovered k => exact ⟨_, rfl, (State.passAll_steady _ s).trackKept⟩
  | frameDiscarded bits =>
    refine ⟨_, rfl, ?_⟩
    split
    · rw [s.frameOver_eq]
      exact (s.lineIdled_frame.steady (by simp [steadyBlocks]) (by simp) (by simp)).trackKept
    · exact s.receive_trackKept _
  | stateFrame x T able => exact ⟨_, rfl, s.receive_trackKept ⟨x, T, .state able⟩⟩
  | wantFrame x T w => exact ⟨_, rfl, s.receive_trackKept ⟨x, T, .want w⟩⟩
  | dropFrame x T => exact ⟨_, rfl, s.receive_trackKept ⟨x, T, .drop⟩⟩
  | holdFrame x T => exact ⟨_, rfl, s.receive_trackKept ⟨x, T, .hold⟩⟩
  | releaseFrame x T a => exact ⟨_, rfl, s.receive_trackKept ⟨x, T, .release a⟩⟩
  | infeedFrame x T a => exact ⟨_, rfl, s.receive_trackKept ⟨x, T, .infeed a⟩⟩
  | returnFrame x T => exact ⟨_, rfl, s.receive_trackKept ⟨x, T, .ret⟩⟩
  | sendAttempt =>
    exact still (by simp [commandBlocks, steadyBlocks]) (by simp [commandBlocks])
      (by simp [commandBlocks])
  | attemptEnd r =>
    exact still (by simp [commandBlocks, steadyBlocks]) (by simp [commandBlocks])
      (by simp [commandBlocks])
  | readerEvent r => exact ⟨_, rfl, State.readReport_trackKept id r⟩
  | entrySeen => exact ⟨_, rfl, s.entryBlocks_trackKept⟩
  | headBlocked => exact ⟨_, rfl, s.headBlocks_trackKept⟩
  | faceArrived => exact ⟨_, rfl, s.faceBlocks_trackKept⟩
  | parkArrived => exact ⟨_, rfl, s.parkBlocks_trackKept⟩
  | merged => exact ⟨_, rfl, s.exitClears_trackKept⟩
  | mergeGap g => exact ⟨_, rfl, (s.mergeGap_steady g).trackKept⟩
  | sensorBlocked x =>
    refine ⟨_, rfl, ?_⟩
    cases x with
    | entry => exact s.entryBlocks_trackKept
    | head => exact s.headBlocks_trackKept
    | face => exact s.faceBlocks_trackKept
    | park => exact s.parkBlocks_trackKept
    | exit => exact s.exitBlocks_trackKept
  | sensorClear x =>
    refine ⟨_, rfl, ?_⟩
    cases x with
    | exit => exact s.exitClears_trackKept
    | entry => exact s.sensorClears_trackKept .entry
    | head => exact s.sensorClears_trackKept .head
    | face => exact s.sensorClears_trackKept .face
    | park => exact s.sensorClears_trackKept .park
  | beamBreak k => exact ⟨_, rfl, (s.beamBreak_steady k).trackKept⟩
  | beamClear k => exact ⟨_, rfl, (s.withPicker_steady _).trackKept⟩
  | shortKey =>
    refine ⟨_, rfl, ?_⟩
    split
    · exact s.shortKey_steady.trackKept
    · exact .refl _
  | logonKey => exact ⟨_, rfl, s.wakeUp_steady.trackKept⟩

theorem step_trackKept {s t : State} (h : step s = .next t) :
    TrackKept (TransmitterLaw s) (OwnLaneLaw s) s t := by
  unfold step at h
  split at h
  · cases h
    exact s.passMs_steady.trackKept
  · rename_i c rest _
    obtain ⟨u, run, kept⟩ := exec_trackKept c { s with pending := rest }
    obtain rfl : u = t := by simpa [run] using h
    exact ⟨kept.board, kept.eal, kept.own, kept.lock⟩

/-- Settles O59, with a relation between states that every operation keeps. -/
theorem trackingLawsKept : Obligations.TrackingLawsKept := by
  unfold Obligations.TrackingLawsKept
  intro s t h
  have kept := step_trackKept h
  exact ⟨kept.board, kept.eal, fun own => kept.own own own, kept.lock⟩

end Sys2Proof.Machine
end

section
/-! PROOFS. Every step keeps the laws of the lines, the want records, the Put Map and the ready flags (O58): each
change of a line leaves the laws broken at most for its tote and its handle, whose re-derivation mends them. -/

namespace Sys2Proof.Machine

/-! ### The laws but for some totes and handles -/

/-- R29: the want records, the totes of `P` left out. -/
def WantsBut (P : List ToteNo) (s : State) : Prop :=
  (s.demand.wants.map WantRec.tote).Nodup ∧
    ∀ T ∉ P, T ∈ s.demand.wants.map WantRec.tote ↔ hasWorkable s.demand.lines s.puts T = true

/-- R34: the ready flags, the handles of `H` left out. -/
def ReadyBut (H : List Handle) (s : State) : Prop :=
  ∀ (k : PutIdx) (o : Order), s.puts[k] = some o → o.handle ∉ H →
    o.ready = orderReady s.demand.lines o.handle

theorem wantsLaw_iff (s : State) : WantsLaw s ↔ WantsBut [] s := by simp [WantsLaw, WantsBut]

theorem readyLaw_iff (s : State) : ReadyLaw s ↔ ReadyBut [] s := by simp [ReadyLaw, ReadyBut]

/-- From `s` to `t` the laws of the lines and the Put Map are kept, and with them those of the want records but
for the totes of `P` and of the ready flags but for the handles of `H`. -/
structure DemandKept (P : List ToteNo) (H : List Handle) (s t : State) : Prop where
  lines : LinesLaw s → LinesLaw t
  puts : PutMapLaw s → PutMapLaw t
  wants : LinesLaw s → ∀ X, WantsBut X s → WantsBut (P ++ X) t
  ready : LinesLaw s → PutMapLaw s → ∀ X, ReadyBut X s → ReadyBut (H ++ X) t

theorem DemandKept.after {P Q : List ToteNo} {H K : List Handle} {s t u : State}
    (k : DemandKept Q K t u) (h : DemandKept P H s t) : DemandKept (Q ++ P) (K ++ H) s u :=
  ⟨k.lines ∘ h.lines, k.puts ∘ h.puts,
    fun lines X w => List.append_assoc Q P X ▸ k.wants (h.lines lines) _ (h.wants lines X w),
    fun lines puts X r => List.append_assoc K H X ▸
      k.ready (h.lines lines) (h.puts puts) _ (h.ready lines puts X r)⟩

theorem DemandKept.trans {P : List ToteNo} {H : List Handle} {s t u : State}
    (h : DemandKept P H s t) (k : DemandKept [] [] t u) : DemandKept P H s u := k.after h

/-- Lines, orders and want records as they were. -/
theorem DemandKept.of_same {s t : State} (demand : t.demand = s.demand) (puts : t.puts = s.puts) :
    DemandKept [] [] s t := by
  refine ⟨fun l => ?_, fun l => ?_, fun _ X l => ?_, fun _ _ X l => ?_⟩
  · unfold LinesLaw
    rwa [demand]
  · unfold PutMapLaw
    rwa [puts]
  · unfold WantsBut
    rwa [demand, puts]
  · unfold ReadyBut
    rwa [demand, puts]

theorem DemandKept.refl (s : State) : DemandKept [] [] s s := .of_same rfl rfl

theorem SameExcept.demandKept {bs : List Block} {s t : State} (h : SameExcept bs s t)
    (demand : Block.demand ∉ bs) (puts : Block.puts ∉ bs) : DemandKept [] [] s t :=
  .of_same (h.demand_eq demand) (h.puts_eq puts)

theorem DemandKept.foldl {α : Type} {f : State → α → State}
    (hf : ∀ s a, DemandKept [] [] s (f s a)) (l : List α) (s : State) :
    DemandKept [] [] s (l.foldl f s) := by
  induction l generalizing s with
  | nil => exact .refl _
  | cons a l ih => exact (hf s a).trans (ih _)

/-! ### Lines changed in place -/

/-- Lines that keep their tags, totes, handles and quantities, with the states and put counts that the laws
allow. -/
theorem DemandKept.of_map {P : List ToteNo} {H : List Handle} {s : State} {f : Line → Line}
    (same : ∀ n, (f n).tag = n.tag ∧ (f n).tote = n.tote ∧ (f n).handle = n.handle ∧ (f n).qty = n.qty)
    (count : LinesLaw s → ∀ n ∈ s.demand.lines,
      (f n).puts ≤ n.qty ∧ ((f n).puts = n.qty → (f n).state = .done))
    (waiting : LinesLaw s → ∀ n ∈ s.demand.lines, n.tote ∉ P →
      ((f n).state = .waiting ↔ n.state = .waiting))
    (opened : LinesLaw s → ∀ n ∈ s.demand.lines, n.handle ∉ H →
      (f n).state.isOpen = n.state.isOpen) :
    DemandKept P H s (s.withLines (s.demand.lines.map f)) := by
  refine ⟨fun l => ?_, id, fun l X w => ⟨w.1, fun T hT => ?_⟩, fun l _ X r k o ho hX => ?_⟩
  · obtain ⟨len, tags, each⟩ := l
    refine ⟨by simpa using len, by simpa [Function.comp_def, same] using tags, fun m hm => ?_⟩
    obtain ⟨n, hn, rfl⟩ := List.mem_map.mp hm
    obtain ⟨low, high, -⟩ := each n hn
    rw [(same n).2.2.2]
    exact ⟨low, high, count ⟨len, tags, each⟩ n hn⟩
  · rw [List.mem_append, not_or] at hT
    refine (w.2 T hT.2).trans ?_
    simp only [hasWorkable_iff, State.withLines_lines, List.mem_map, exists_exists_and_eq_and]
    refine exists_congr fun n => and_congr_right fun hn => ?_
    rw [(same n).2.1, (same n).2.2.1]
    exact and_congr_right fun tote => and_congr_left' (waiting l n hn (tote ▸ hT.1)).symm
  · rw [List.mem_append, not_or] at hX
    refine (r k o ho hX.2).trans ?_
    have shared : ((s.demand.lines.map f).filter fun n => n.handle == o.handle) =
        (s.demand.lines.filter fun n => n.handle == o.handle).map f := by
      rw [List.filter_map]
      simp [Function.comp_def, same]
    have closed : ((s.demand.lines.filter fun n => n.handle == o.handle).all
        ((fun n => !n.state.isOpen) ∘ f)) =
        (s.demand.lines.filter fun n => n.handle == o.handle).all fun n => !n.state.isOpen := by
      rw [Bool.eq_iff_iff, List.all_eq_true, List.all_eq_true]
      refine forall₂_congr fun n hn => ?_
      obtain ⟨mem, handle⟩ := List.mem_filter.mp hn
      rw [Function.comp_apply, opened l n mem ((beq_iff_eq.mp handle).symm ▸ hX.1)]
    simp only [orderReady, State.withLines_lines, shared, List.isEmpty_map, List.all_map, closed]

/-- The state of one line that is not DONE. -/
theorem State.setLineState_demandKept {P : List ToteNo} {H : List Handle} {s : State} {l : Line}
    {x : LineState} (hl : l ∈ s.demand.lines) (hd : l.state ≠ .done)
    (waiting : l.tote ∉ P → (x = .waiting ↔ l.state = .waiting))
    (opened : l.handle ∉ H → x.isOpen = l.state.isOpen) :
    DemandKept P H s (s.setLineState l.tag x) := by
  have only : LinesLaw s → ∀ n ∈ s.demand.lines, n.tag = l.tag → n = l := fun law n hn tag =>
    eq_of_tag_eq law.2.1 hn hl tag
  refine .of_map (fun n => by split <;> exact ⟨rfl, rfl, rfl, rfl⟩) (fun law n hn => ?_)
    (fun law n hn hP => ?_) fun law n hn hH => ?_
  · obtain ⟨-, -, most, done⟩ := law.2.2 n hn
    split
    · rename_i tag
      obtain rfl := only law n hn tag
      exact ⟨most, fun full => absurd (done full) hd⟩
    · exact ⟨most, done⟩
  · split
    · rename_i tag
      obtain rfl := only law n hn tag
      exact waiting hP
    · rfl
  · split
    · rename_i tag
      obtain rfl := only law n hn tag
      exact opened hH
    · rfl

/-! ### Want records and ready flags re-derived -/

theorem weightOf_isSome (s : State) (T : ToteNo) :
    (s.weightOf T).isSome = hasWorkable s.demand.lines s.puts T := claimWeight_isSome _ _ _ _

/-- Want records changed in place, and nothing else of the Demand Table. -/
theorem DemandKept.of_wants {s t : State} {f : WantRec → WantRec} (hf : ∀ w, (f w).tote = w.tote)
    (demand : t.demand = { s.demand with wants := s.demand.wants.map f }) (puts : t.puts = s.puts) :
    DemandKept [] [] s t := by
  refine ⟨fun l => ?_, fun l => ?_, fun _ X ⟨once, each⟩ => ?_, fun _ _ X l => ?_⟩
  · unfold LinesLaw
    rwa [demand]
  · unfold PutMapLaw
    rwa [puts]
  · unfold WantsBut
    rw [demand, puts]
    refine ⟨by simpa [Function.comp_def, hf] using once, fun T hT => (each T hT).symm.trans ?_ |>.symm⟩
    simp [hf]
  · unfold ReadyBut
    rwa [demand, puts]

theorem State.announce_demandKept (s : State) (T : ToteNo) (W : Nat) :
    DemandKept [] [] s (s.announce T W) := by
  have frame := fun u : State => u.request_frame T (.want (BitVec.ofNat 16 W))
  refine .of_wants (f := fun w => if w.tote = T then { w with weight := W, time := s.clock } else w)
    (fun w => by split <;> rfl) ?_ ?_
  · exact (frame _).demand_eq (by simp)
  · exact (frame _).puts_eq (by simp)

theorem State.checkWant_demandKept (s : State) (T : ToteNo) : DemandKept [] [] s (s.checkWant T) := by
  unfold State.checkWant
  split
  · split
    · exact s.announce_demandKept _ _
    · exact .refl _
  · exact .refl _

theorem State.checkWants_demandKept (s : State) (p : ToteNo → Bool) :
    DemandKept [] [] s (s.checkWants p) := .foldl State.checkWant_demandKept _ _

theorem State.checkWant_wantTotes (s : State) (T : ToteNo) :
    (s.checkWant T).demand.wants.map WantRec.tote = s.demand.wants.map WantRec.tote := by
  unfold State.checkWant
  split
  · split
    · rw [State.announce, (State.request_frame _ _ _).demand_eq (by simp), State.withWants_wants,
        List.map_map]
      exact List.map_congr_left fun w _ => by
        rw [Function.comp_apply]
        split <;> rfl
    · rfl
  · rfl

/-- R29: which totes have a want record after T's is re-derived. -/
theorem State.deriveWant_wantTotes (s : State) (T : ToteNo)
    (once : (s.demand.wants.map WantRec.tote).Nodup) :
    ((s.deriveWant T).demand.wants.map WantRec.tote).Nodup ∧
    ∀ U, U ∈ (s.deriveWant T).demand.wants.map WantRec.tote ↔
      if U = T then (s.weightOf T).isSome = true else U ∈ s.demand.wants.map WantRec.tote := by
  have frame := fun (u : State) b => (u.request_frame T b).demand_eq (by simp)
  unfold State.deriveWant
  split
  · rename_i W unwanted weight
    have fresh : T ∉ s.demand.wants.map WantRec.tote := by
      simpa using List.find?_eq_none.mp unwanted
    rw [frame, State.withWants_wants, List.map_append, List.nodup_append]
    refine ⟨⟨once, List.nodup_singleton _, fun a ha b hb e => fresh ?_⟩, fun U => ?_⟩
    · rw [e, List.mem_singleton.mp hb] at ha
      exact ha
    · by_cases e : U = T <;> simp [e, weight]
  · rename_i w wanted weight
    rw [frame, State.withWants_wants]
    refine ⟨once.sublist (List.filter_sublist.map _), fun U => ?_⟩
    by_cases e : U = T
    · simp [e, weight]
    · simp only [List.mem_map, List.mem_filter, bne_iff_ne, if_neg e]
      exact exists_congr fun w => ⟨fun ⟨⟨hm, _⟩, h⟩ => ⟨hm, h⟩, fun ⟨hm, h⟩ => ⟨⟨hm, h ▸ e⟩, h⟩⟩
  · rename_i w W wanted weight
    rw [State.checkWant_wantTotes]
    refine ⟨once, fun U => ?_⟩
    by_cases e : U = T
    · have tote : w.tote = T := by simpa using List.find?_some wanted
      have mem : T ∈ s.demand.wants.map WantRec.tote :=
        List.mem_map.mpr ⟨w, List.mem_of_find?_eq_some wanted, tote⟩
      simp [e, weight, mem]
    · simp [e]
  · rename_i unwanted weight
    refine ⟨once, fun U => ?_⟩
    by_cases e : U = T
    · have fresh : T ∉ s.demand.wants.map WantRec.tote := by
        simpa using List.find?_eq_none.mp unwanted
      simp [e, weight, fresh]
    · simp [e]

theorem State.deriveWant_puts (s : State) (T : ToteNo) : (s.deriveWant T).puts = s.puts :=
  (s.deriveWant_frame T).puts_eq (by simp)

/-- R29: T's want record is re-derived, and the law mended for T. -/
theorem State.deriveWant_wantsBut {X : List ToteNo} {s : State} {T : ToteNo}
    (h : WantsBut (T :: X) s) : WantsBut X (s.deriveWant T) := by
  obtain ⟨once, each⟩ := h
  obtain ⟨nodup, totes⟩ := s.deriveWant_wantTotes T once
  refine ⟨nodup, fun U hU => ?_⟩
  rw [totes, State.deriveWant_lines, State.deriveWant_puts]
  split
  · rename_i e
    rw [e, weightOf_isSome]
  · rename_i e
    exact each U (by simp [e, hU])

theorem WantsBut.mono {X Y : List ToteNo} {s : State} (h : WantsBut X s) (sub : X ⊆ Y) :
    WantsBut Y s := ⟨h.1, fun T hT => h.2 T fun hX => hT (sub hX)⟩

theorem ReadyBut.mono {X Y : List Handle} {s : State} (h : ReadyBut X s) (sub : X ⊆ Y) :
    ReadyBut Y s := fun k o ho hY => h k o ho fun hX => hY (sub hX)

theorem LinesLaw.of_lines_eq {s t : State} (h : LinesLaw s) (lines : t.demand.lines = s.demand.lines) :
    LinesLaw t := by
  unfold LinesLaw
  rwa [lines]

theorem PutMapLaw.of_puts_eq {s t : State} (h : PutMapLaw s) (puts : t.puts = s.puts) :
    PutMapLaw t := by
  unfold PutMapLaw
  rwa [puts]

/-- A change of a tote's lines with its want record re-derived after it. -/
theorem DemandKept.derived {P : List ToteNo} {H : List Handle} {s t : State} {T : ToteNo}
    (h : DemandKept (T :: P) H s t) : DemandKept P H s (t.deriveWant T) := by
  refine ⟨fun l => (h.lines l).of_lines_eq (t.deriveWant_lines T),
    fun l => (h.puts l).of_puts_eq (t.deriveWant_puts T),
    fun l X w => State.deriveWant_wantsBut (h.wants l X w), fun l p X r k o ho hX => ?_⟩
  rw [State.deriveWant_lines]
  rw [State.deriveWant_puts] at ho
  exact h.ready l p X r k o ho hX

theorem State.deriveWant_demandKept (s : State) (T : ToteNo) :
    DemandKept [] [] s (s.deriveWant T) := by
  refine DemandKept.derived ⟨id, id, fun _ X w => w.mono ?_, fun _ _ _ r => r⟩
  exact List.subset_cons_self T X

theorem positionOf_some {puts : Vector (Option Order) 16} {h : Handle} {k : PutIdx}
    (hk : positionOf puts h = some k) : ∃ o, puts[k] = some o ∧ o.handle = h := by
  simpa [Option.any_eq_true] using List.find?_some hk

theorem State.reready_demand (s : State) (h : Handle) : (s.reready h).demand = s.demand :=
  (s.reready_frame h).demand_eq (by simp)

/-- R34: what stands at each position after a handle's flag is re-evaluated. -/
theorem State.reready_puts (s : State) (h : Handle) (j : PutIdx) :
    (s.reready h).puts[j] = if positionOf s.puts h = some j then
        s.puts[j].map fun o => { o with ready := orderReady s.demand.lines h }
      else s.puts[j] := by
  unfold State.reready
  cases hk : positionOf s.puts h with
  | none => simp
  | some k =>
    obtain ⟨o, ho, -⟩ := positionOf_some hk
    simp only [ho]
    have stored : ∀ p : Order, (s.puts.set k (some p))[j] = if k = j then some p else s.puts[j] := by
      intro p
      have : k.val = j.val ↔ k = j := Fin.val_inj
      simp [Vector.getElem_set, this]
    have result : ∀ t : State, t.puts = s.puts.set k
        (some { o with ready := orderReady s.demand.lines h }) →
        t.puts[j] = if some k = some j then
          s.puts[j].map fun o => { o with ready := orderReady s.demand.lines h } else s.puts[j] := by
      intro t ht
      rw [ht, stored]
      by_cases e : k = j
      · subst e
        simp [ho]
      · simp [e]
    split
    · exact result _ ((State.raise_frame _ _ _).puts_eq (by simp))
    · exact result _ rfl

/-- A change of an order's lines with its ready flag re-evaluated after it. -/
theorem DemandKept.rereadied {P : List ToteNo} {H : List Handle} {s t : State} {h : Handle}
    (k : DemandKept P (h :: H) s t) : DemandKept P H s (t.reready h) := by
  have demand := t.reready_demand h
  have orders := t.reready_orders h
  refine ⟨fun l => (k.lines l).of_lines_eq (by rw [demand]), fun l => ?_, fun l X w => ?_,
    fun l p X r j o ho hX => ?_⟩
  · intro i j o p ho hp e
    have back : ∀ (i : PutIdx) (o : Order), (t.reready h).puts[i] = some o →
        ∃ q, t.puts[i] = some q ∧ q.handle = o.handle := by
      intro i o ho
      have same := orders i
      rw [ho] at same
      cases hq : t.puts[i] with
      | none =>
        rw [hq] at same
        cases same
      | some q =>
        rw [hq] at same
        exact ⟨q, rfl, (congrArg Prod.fst (Option.some.inj same)).symm⟩
    obtain ⟨q, hq, qo⟩ := back i o ho
    obtain ⟨u, hu, up⟩ := back j p hp
    exact k.puts l i j q u hq hu (by rw [qo, up, e])
  · obtain ⟨once, each⟩ := k.wants l X w
    refine ⟨by rwa [demand], fun T hT => ?_⟩
    rw [demand]
    refine (each T hT).trans ?_
    simp only [hasWorkable_iff, orders.isPlaced_eq]
  · rw [demand]
    rw [State.reready_puts] at ho
    split at ho
    · rename_i here
      obtain ⟨q, hq, handle⟩ := positionOf_some here
      rw [hq] at ho
      cases ho
      rw [handle]
    · rename_i elsewhere
      refine k.ready l p X r j o ho ?_
      rw [List.cons_append, List.mem_cons, not_or]
      refine ⟨fun e => elsewhere ?_, hX⟩
      -- the handle is placed, and at one position only
      have placed : isPlaced t.puts h = true := (isPlaced_iff _ _).mpr ⟨j, o, ho, e⟩
      obtain ⟨i, hi⟩ := Option.isSome_iff_exists.mp placed
      obtain ⟨q, hq, handle⟩ := positionOf_some hi
      rw [hi, k.puts p i j q o hq ho (by rw [handle, e])]

theorem State.reready_demandKept (s : State) (h : Handle) : DemandKept [] [] s (s.reready h) :=
  DemandKept.rereadied ⟨id, id, fun _ _ w => w, fun _ _ X r => r.mono (List.subset_cons_self h X)⟩

/-! ### The operations on lines -/

theorem State.settleLane_demandKept (s : State) : DemandKept [] [] s s.settleLane :=
  s.settleLane_frame.demandKept (by simp) (by simp)

theorem State.leaveActive_demandKept (s : State) : DemandKept [] [] s s.leaveActive :=
  s.leaveActive_frame.demandKept (by simp) (by simp)

theorem State.raise_demandKept (s : State) (n : NoticeSource) (d : BitVec 32) :
    DemandKept [] [] s (s.raise n d) := (s.raise_frame n d).demandKept (by simp) (by simp)

theorem State.withLane_demandKept (s : State) (l : Lane) : DemandKept [] [] s (s.withLane l) :=
  .of_same rfl rfl

theorem State.beginRelease_demandKept (s : State) : DemandKept [] [] s s.beginRelease :=
  s.beginRelease_frame.demandKept (by simp) (by simp)

/-- The ACTIVE line becomes SUSPENDED: open and not workable before and after (R116). -/
theorem State.parkFace_demandKept (s : State) : DemandKept [] [] s s.parkFace := by
  unfold State.parkFace
  split
  · exact .refl _
  · dsimp only
    refine (State.withLane_demandKept _ _).after ?_
    split
    · rename_i l hl
      obtain ⟨mem, active⟩ := activeLine_mem hl
      exact (State.leaveActive_demandKept _).after (State.setLineState_demandKept mem
        (by rw [active]; decide) (fun _ => by rw [active]; decide) fun _ => by rw [active]; rfl)
    · exact .refl _

theorem State.preemptCheck_demandKept (s : State) : DemandKept [] [] s s.preemptCheck := by
  unfold State.preemptCheck
  split
  · split
    · exact s.parkFace_demandKept
    · split
      · exact .refl _
      · exact (State.raise_demandKept _ _ _).after (s.withLane_demandKept _)
    · exact .refl _
  · exact .refl _

theorem State.headTurnedUrgent_demandKept (s : State) : DemandKept [] [] s s.headTurnedUrgent := by
  unfold State.headTurnedUrgent
  split
  · exact s.preemptCheck_demandKept
  · exact .refl _

theorem State.reurgent_demandKept (s : State) (p : ToteNo → Bool) :
    DemandKept [] [] s (s.reurgent p) := by
  unfold State.reurgent
  dsimp only
  split
  · exact (State.headTurnedUrgent_demandKept _).after (s.withLane_demandKept _)
  · exact s.withLane_demandKept _

theorem State.returnActive_demandKept (s : State) : DemandKept [] [] s s.returnActive := by
  unfold State.returnActive
  split
  · exact .refl _
  · rename_i l hl
    obtain ⟨mem, active⟩ := activeLine_mem hl
    have line : DemandKept [l.tote] [] s (s.setLineState l.tag .waiting) :=
      State.setLineState_demandKept mem (by rw [active]; decide) (fun h => absurd (.head _) h)
        fun _ => by rw [active]; rfl
    exact (State.reurgent_demandKept _ _).after
      (DemandKept.derived ((State.leaveActive_demandKept _).after line))

/-- The line to work is a SUSPENDED one of the tote, or a workable one (R23). -/
theorem lineToWork_mem {ls : List Line} {puts : Vector (Option Order) 16} {T : ToteNo} {l : Line}
    (h : lineToWork ls puts T = some l) :
    l ∈ ls ∧ l.tote = T ∧ (l.state = .suspended ∨ isWorkable puts l = true) := by
  unfold lineToWork at h
  split at h
  · rename_i found
    cases h
    have := List.find?_some found
    simp only [Bool.and_eq_true, beq_iff_eq] at this
    exact ⟨List.mem_of_find?_eq_some found, this.2, .inl this.1⟩
  · obtain ⟨mem, ok⟩ := List.mem_filter.mp (List.mem_of_mem_head? h)
    simp only [Bool.and_eq_true, beq_iff_eq] at ok
    exact ⟨mem, ok.1, .inr ok.2⟩

theorem lineToWork_state {ls : List Line} {puts : Vector (Option Order) 16} {T : ToteNo} {l : Line}
    (h : lineToWork ls puts T = some l) : l.state = .suspended ∨ l.state = .waiting := by
  obtain ⟨-, -, state⟩ := lineToWork_mem h
  refine state.imp_right fun workable => ?_
  simp only [isWorkable, Bool.and_eq_true, beq_iff_eq] at workable
  exact workable.1

theorem State.requestLine_demandKept (s : State) : DemandKept [] [] s s.requestLine := by
  unfold State.requestLine
  split
  · exact .refl _
  · split
    · exact s.beginRelease_demandKept
    · rename_i l hl
      have states := lineToWork_state hl
      have line : DemandKept [l.tote] [] s (s.setLineState l.tag .active) :=
        State.setLineState_demandKept (lineToWork_mem hl).1
          (by rcases states with h | h <;> rw [h] <;> decide) (fun h => absurd (.head _) h)
          fun _ => by rcases states with h | h <;> rw [h] <;> rfl
      have lit : ∀ t : State, DemandKept [] [] t (t.light l) := fun t => .of_same rfl rfl
      exact (State.reurgent_demandKept _ _).after (DemandKept.derived ((lit _).after line))

/-- A line boundary mends the ready flag of the line's order (R34, R135). -/
theorem State.lineBoundary_demandKept {H : List Handle} {s t : State} {l : Line}
    (h : DemandKept [] (l.handle :: H) s t) : DemandKept [] H s (t.lineBoundary l) := by
  have checked : DemandKept [] H s ((t.reurgent (· == l.tote)).reready l.handle) :=
    DemandKept.rereadied ((State.reurgent_demandKept _ _).after h)
  unfold State.lineBoundary
  dsimp only
  split
  · split
    · exact (State.beginRelease_demandKept _).after checked
    · have preempted := (State.preemptCheck_demandKept _).after checked
      split
      · exact preempted
      · exact (State.requestLine_demandKept _).after preempted
  · exact checked

/-- Lines of a breached tote become HELD, open as before (R28, R122). -/
theorem State.breach_demandKept (s : State) (T : ToteNo) : DemandKept [] [] s (s.breach T) := by
  have breachable : ∀ n : Line, n.state.breachable = true →
      n.state ≠ .done ∧ n.state.isOpen = true := by
    intro n
    cases n.state <;> simp [LineState.breachable, LineState.isOpen]
  have held : ∀ u : State, DemandKept [T] [] u (u.withLines (u.demand.lines.map fun l =>
      if l.tote == T && l.state.breachable then { l with state := .held } else l)) := by
    intro u
    refine .of_map (fun n => by split <;> exact ⟨rfl, rfl, rfl, rfl⟩) (fun law n hn => ?_)
      (fun _ n _ hP => ?_) fun _ n _ _ => ?_
    · obtain ⟨-, -, most, done⟩ := law.2.2 n hn
      split
      · rename_i hit
        exact ⟨most, fun full => absurd (done full)
          (breachable n (Bool.and_eq_true _ _ ▸ hit :).2).1⟩
      · exact ⟨most, done⟩
    · rw [if_neg]
      intro hit
      exact hP (by simpa using (Bool.and_eq_true _ _ ▸ hit :).1)
    · split
      · rename_i hit
        exact ((breachable n (Bool.and_eq_true _ _ ▸ hit :).2).2).symm
      · rfl
  unfold State.breach
  extract_lets hit s1 s2 s3 s4
  have marked : DemandKept [] [] s s1 :=
    (State.raise_demandKept _ _ _).after (s.withLane_demandKept _)
  have dark : DemandKept [] [] s2 s3 := by
    show DemandKept [] [] s2 (if _ then _ else _)
    split
    · exact s2.leaveActive_demandKept
    · exact .refl _
  have mended : DemandKept [] [] s s4 :=
    (DemandKept.foldl State.reready_demandKept _ _).after
      (DemandKept.derived (dark.after ((held s1).after marked)))
  split
  · exact (State.beginRelease_demandKept _).after mended
  · exact mended

theorem State.coldAlertWork_demandKept (s : State) (T : ToteNo) :
    DemandKept [] [] s (s.coldAlertWork T) :=
  (s.coldAlertWork_frame T).demandKept (by simp) (by simp)

theorem State.coldWork_demandKept (s : State) (T : ToteNo) : DemandKept [] [] s (s.coldWork T) := by
  unfold State.coldWork State.coldBreachWork
  split
  · exact (State.breach_demandKept _ _).after (s.coldAlertWork_demandKept T)
  · exact s.coldAlertWork_demandKept T

/-! ### Every command -/

theorem State.reply_demandKept (s : State) (code : Byte) (st : Status) (fs : List Byte) :
    DemandKept [] [] s (s.reply code st fs) := .of_same rfl rfl

theorem State.whenConfigured_demandKept {s : State} {effect : State → State} (code : Byte)
    (h : DemandKept [] [] s (effect s)) : DemandKept [] [] s (s.whenConfigured code effect) := by
  unfold State.whenConfigured
  split
  · exact h
  · exact s.reply_demandKept _ _ _

/-- A state without lines, orders and want records. -/
theorem DemandKept.of_reset {s t : State} (demand : t.demand = .reset) (puts : t.puts = putsReset) :
    DemandKept [] [] s t := by
  have free : ∀ (k : PutIdx) (o : Order), t.puts[k] ≠ some o := by
    intro k o
    rw [puts]
    simp [putsReset]
  refine ⟨fun _ => ?_, fun _ j k o p ho => absurd ho (free j o), fun _ X _ => ?_,
    fun _ _ X _ k o ho => absurd ho (free k o)⟩
  · rw [LinesLaw, demand]
    exact ⟨Nat.zero_le _, List.nodup_nil, fun l h => (by cases h)⟩
  · rw [WantsBut, demand]
    refine ⟨List.nodup_nil, fun T _ => ⟨fun h => (by cases h), fun h => ?_⟩⟩
    cases h

/-- A WAITING line with a fresh tag (R18). -/
theorem State.newLine_demandKept {s : State} {l : Line} (fresh : ∀ m ∈ s.demand.lines, m.tag ≠ l.tag)
    (room : s.demand.lines.length < 128) (low : 1 ≤ l.qty) (high : l.qty ≤ 99) (none : l.puts = 0) :
    DemandKept [l.tote] [l.handle] s (s.withLines (s.demand.lines ++ [l])) := by
  refine ⟨fun ⟨_, tags, each⟩ => ⟨?_, ?_, fun m hm => ?_⟩, id, fun _ X ⟨once, each⟩ =>
    ⟨once, fun T hT => ?_⟩, fun _ _ X r k o ho hX => ?_⟩
  · simp only [State.withLines_lines, List.length_append, List.length_singleton]
    omega
  · rw [State.withLines_lines, List.map_append, List.nodup_append]
    refine ⟨tags, List.nodup_singleton _, fun a ha b hb => ?_⟩
    obtain ⟨m, hm, rfl⟩ := List.mem_map.mp ha
    rw [List.mem_singleton.mp hb]
    exact fresh m hm
  · rcases List.mem_append.mp hm with hm | hm
    · exact each m hm
    · obtain rfl := List.mem_singleton.mp hm
      exact ⟨low, high, by omega, fun full => absurd full (by omega)⟩
  · simp only [List.singleton_append, List.mem_cons, not_or] at hT
    refine (each T hT.2).trans ?_
    simp only [hasWorkable_iff, State.withLines_lines, List.mem_append, List.mem_singleton]
    constructor
    · rintro ⟨m, hm, h⟩
      exact ⟨m, .inl hm, h⟩
    · rintro ⟨m, hm | rfl, tote, h⟩
      · exact ⟨m, hm, tote, h⟩
      · exact absurd tote.symm hT.1
  · simp only [List.singleton_append, List.mem_cons, not_or] at hX
    refine (r k o ho hX.2).trans ?_
    have other : (l.handle == o.handle) = false := beq_eq_false_iff_ne.mpr (Ne.symm hX.1)
    simp [orderReady, List.filter_append, other]

theorem lineOfFields_some {r : Record} {tag : Tag} {tote : ToteNo} {handle : Handle}
    {cls qty prio : Byte} {l : Line} (h : lineOfFields r tag tote handle cls qty prio = some l) :
    l.tag = tag ∧ 1 ≤ l.qty ∧ l.qty ≤ 99 ∧ l.puts = 0 ∧ l.state = .waiting := by
  unfold lineOfFields at h
  split at h
  · split at h
    · rename_i ok
      cases h
      exact ⟨rfl, ok.2.2.2.1, ok.2.2.2.2, rfl, rfl⟩
    · cases h
  · cases h

theorem State.loadLine_demandKept (s : State) (tag : Tag) (tote : ToteNo) (handle : Handle)
    (cls qty prio : Byte) : DemandKept [] [] s (s.loadLine tag tote handle cls qty prio) := by
  refine State.whenConfigured_demandKept 4 ?_
  split
  · exact s.reply_demandKept _ _ _
  · rename_i l fields
    obtain ⟨rfl, low, high, none, -⟩ := lineOfFields_some fields
    split
    · exact s.reply_demandKept _ _ _
    · rename_i fresh
      split
      · exact s.reply_demandKept _ _ _
      · rename_i room
        have line := State.newLine_demandKept (s := s) (l := l) (by simpa using fresh) (by omega) low
          high none
        have missed : DemandKept [l.tote] [l.handle] s (s.withNewLine l) := by
          unfold State.withNewLine
          split
          · exact (State.raise_demandKept _ _ _).after line
          · exact line
        exact (State.reply_demandKept _ 4 _ _).after ((State.settleLane_demandKept _).after
          ((State.reurgent_demandKept _ _).after missed.derived.rereadied))

theorem State.cancelOpen_demandKept {s : State} {l : Line} (hl : l ∈ s.demand.lines) :
    DemandKept [] [] s (s.cancelOpen l) := by
  have line : l.state ≠ .done → DemandKept [l.tote] [l.handle] s (s.setLineState l.tag .cancelled) :=
    fun open_ => State.setLineState_demandKept hl open_ (fun h => absurd (.head _) h)
      fun h => absurd (.head _) h
  -- a line that was not WAITING was not workable
  have idle : l.state ≠ .done → l.state ≠ .waiting →
      DemandKept [] [l.handle] s (s.setLineState l.tag .cancelled) := fun open_ waits =>
    State.setLineState_demandKept hl open_ (fun _ => by simp [waits]) fun h => absurd (.head _) h
  have closed : ∀ t : State, DemandKept [] [l.handle] s t →
      DemandKept [] [] s (((t.reready l.handle).reurgent (· == l.tote)).settleLane) := fun t h =>
    (State.settleLane_demandKept _).after ((State.reurgent_demandKept _ _).after h.rereadied)
  unfold State.cancelOpen
  dsimp only
  split
  · rename_i active
    exact (State.settleLane_demandKept _).after (State.lineBoundary_demandKept
      ((State.leaveActive_demandKept _).after (idle (by simp [active]) (by simp [active]))))
  · rename_i waiting
    exact closed _ (line (by simp [waiting])).derived
  · rename_i suspended
    exact closed _ (idle (by simp [suspended]) (by simp [suspended]))
  · rename_i held
    exact closed _ (idle (by simp [held]) (by simp [held]))
  all_goals exact .refl _

theorem State.cancelLine_demandKept (s : State) (tag : Tag) :
    DemandKept [] [] s (s.cancelLine tag) := by
  refine State.whenConfigured_demandKept 5 ?_
  split
  · exact s.reply_demandKept _ _ _
  · rename_i l found
    split
    · exact (State.reply_demandKept _ 5 _ _).after
        (State.cancelOpen_demandKept (List.mem_of_find?_eq_some found))
    · exact s.reply_demandKept _ _ _

theorem getElem_set_puts (puts : Vector (Option Order) 16) (k j : PutIdx) (o : Option Order) :
    (puts.set k o)[j] = if k = j then o else puts[j] := by
  have : k.val = j.val ↔ k = j := Fin.val_inj
  simp [Vector.getElem_set, this]

/-- A new order at a FREE position, its handle unplaced: the totes with a WAITING line of the handle become
workable. -/
theorem State.placed_demandKept {s : State} {h : Handle} {k : PutIdx} (free : s.puts[k] = none)
    (unplaced : isPlaced s.puts h = false) (deadline : Clock) :
    DemandKept ((toteOrder s.demand.lines).filter fun T =>
        s.demand.lines.any fun l => l.tote == T && l.handle == h && l.state == .waiting) [h] s
      { s with puts := s.puts.set k (some { handle := h, deadline := deadline, ready := false }) } := by
  have nowhere : ∀ (j : PutIdx) (o : Order), s.puts[j] = some o → o.handle ≠ h := by
    intro j o ho e
    rw [(isPlaced_iff _ _).mpr ⟨j, o, ho, e⟩] at unplaced
    cases unplaced
  have others : ∀ x, x ≠ h → isPlaced (s.puts.set k (some { handle := h, deadline := deadline, ready := false })) x =
      isPlaced s.puts x := by
    intro x hx
    rw [Bool.eq_iff_iff, isPlaced_iff, isPlaced_iff]
    refine exists_congr fun j => exists_congr fun o => ?_
    rw [getElem_set_puts]
    split
    · rename_i e
      subst e
      rw [free]
      constructor
      · rintro ⟨ho, rfl⟩
        cases ho
        exact absurd rfl hx
      · rintro ⟨ho, -⟩
        cases ho
    · rfl
  refine ⟨id, fun law i j o p ho hp e => ?_, fun _ X ⟨once, each⟩ => ⟨once, fun T hT => ?_⟩,
    fun _ _ X r j o ho hX => ?_⟩
  · dsimp only at ho hp
    rw [getElem_set_puts] at ho hp
    split at ho <;> split at hp
    · rename_i h1 h2
      rw [← h1, h2]
    · cases ho
      exact absurd e.symm (nowhere j p hp)
    · cases hp
      exact absurd e (nowhere i o ho)
    · exact law i j o p ho hp e
  · rw [List.mem_append, not_or] at hT
    refine (each T hT.2).trans ?_
    simp only [hasWorkable_iff]
    refine exists_congr fun n => and_congr_right fun hn => and_congr_right fun tote =>
      and_congr_right fun waiting => ?_
    rw [others]
    rintro rfl
    refine hT.1 (List.mem_filter.mpr ⟨mem_toteOrder.mpr ⟨n, hn, tote⟩, ?_⟩)
    exact List.any_eq_true.mpr ⟨n, hn, by simp [tote, waiting]⟩
  · dsimp only at ho
    rw [getElem_set_puts] at ho
    rw [List.singleton_append, List.mem_cons, not_or] at hX
    split at ho
    · cases ho
      exact absurd rfl hX.1
    · exact r j o ho hX.2

theorem DemandKept.derivedAll {H : List Handle} {s : State} (Ts : List ToteNo) {t : State}
    (h : DemandKept Ts H s t) : DemandKept [] H s (Ts.foldl State.deriveWant t) := by
  induction Ts generalizing t with
  | nil => exact h
  | cons T Ts ih => exact ih h.derived

theorem State.newPlacement_demandKept {s : State} {h : Handle} {k : PutIdx}
    (free : s.puts[k] = none) (unplaced : isPlaced s.puts h = false) (deadline : Clock) :
    DemandKept [] [] s (s.newPlacement h k deadline) :=
  (State.settleLane_demandKept _).after ((State.reurgent_demandKept _ _).after
    (DemandKept.derivedAll _ (State.placed_demandKept free unplaced deadline)).rereadied)

/-- A new deadline leaves the handle and its readiness (R33). -/
theorem State.redated_demandKept {s : State} {k : PutIdx} {o : Order} (ho : s.puts[k] = some o)
    (deadline : Clock) :
    DemandKept [] [] s { s with puts := s.puts.set k (some { o with deadline := deadline }) } := by
  have back : ∀ (j : PutIdx) (p : Order),
      (s.puts.set k (some { o with deadline := deadline }))[j] = some p →
      ∃ q, s.puts[j] = some q ∧ q.handle = p.handle ∧ q.ready = p.ready := by
    intro j p hp
    rw [getElem_set_puts] at hp
    split at hp
    · rename_i e
      subst e
      cases hp
      exact ⟨o, ho, rfl, rfl⟩
    · exact ⟨p, hp, rfl, rfl⟩
  have placed : ∀ x, isPlaced (s.puts.set k (some { o with deadline := deadline })) x =
      isPlaced s.puts x := by
    intro x
    rw [Bool.eq_iff_iff, isPlaced_iff, isPlaced_iff]
    constructor
    · rintro ⟨j, p, hp, e⟩
      obtain ⟨q, hq, handle, -⟩ := back j p hp
      exact ⟨j, q, hq, handle.trans e⟩
    · rintro ⟨j, q, hq, e⟩
      refine ⟨j, if k = j then { o with deadline := deadline } else q, ?_, ?_⟩
      · rw [getElem_set_puts]
        split
        · rfl
        · exact hq
      · split
        · rename_i same
          subst same
          rw [ho] at hq
          cases hq
          exact e
        · exact e
  refine ⟨id, fun law i j p q hp hq e => ?_, fun _ X ⟨once, each⟩ => ⟨once, fun T hT => ?_⟩,
    fun _ _ X r j p hp hX => ?_⟩
  · obtain ⟨u, hu, up, -⟩ := back i p hp
    obtain ⟨v, hv, vq, -⟩ := back j q hq
    exact law i j u v hu hv (by rw [up, vq, e])
  · refine (each T hT).trans ?_
    simp only [hasWorkable_iff, placed]
  · obtain ⟨u, hu, handle, ready⟩ := back j p hp
    rw [← ready, ← handle]
    exact r j u hu (by rw [handle]; exact hX)

theorem State.placeOrder_demandKept (s : State) (h : Handle) (position : Byte) (deadline : Clock) :
    DemandKept [] [] s (s.placeOrder h position deadline) := by
  refine State.whenConfigured_demandKept 6 ?_
  split
  · exact s.reply_demandKept _ _ _
  · rename_i k _
    split
    · exact s.reply_demandKept _ _ _
    · split
      · exact s.reply_demandKept _ _ _
      · rename_i elsewhere
        split
        · rename_i o ho
          split
          · exact (State.reply_demandKept _ 6 _ _).after ((State.settleLane_demandKept _).after
              ((State.checkWants_demandKept _ _).after ((State.reurgent_demandKept _ _).after
                (State.redated_demandKept ho deadline))))
          · exact s.reply_demandKept _ _ _
        · rename_i free
          refine (State.reply_demandKept _ 6 _ _).after
            (State.newPlacement_demandKept free ?_ deadline)
          cases hp : positionOf s.puts h with
          | none => simp [isPlaced, hp]
          | some j =>
            obtain ⟨o, ho, -⟩ := positionOf_some hp
            have here : j = k := by simpa [hp] using elsewhere
            rw [here, free] at ho
            cases ho

/-- R22: the lines of a handle removed with its order, where none is workable. -/
theorem State.dropLines_demandKept {s : State} {h : Handle} {puts : Vector (Option Order) 16}
    (idle : ∀ l ∈ s.demand.lines, l.handle = h → isWorkable s.puts l = false)
    (stays : ∀ (j : PutIdx) (o : Order), puts[j] = some o → s.puts[j] = some o)
    (others : ∀ (j : PutIdx) (o : Order), s.puts[j] = some o → o.handle ≠ h → puts[j] = some o)
    (gone : PutMapLaw s → ∀ (j : PutIdx) (o : Order), puts[j] = some o → o.handle ≠ h) :
    DemandKept [] [] s { s.dropLines h with puts := puts } := by
  have kept : ∀ x, x ≠ h → isPlaced puts x = isPlaced s.puts x := by
    intro x hx
    rw [Bool.eq_iff_iff, isPlaced_iff, isPlaced_iff]
    exact exists_congr fun j => exists_congr fun o =>
      ⟨fun ⟨ho, e⟩ => ⟨stays j o ho, e⟩, fun ⟨ho, e⟩ => ⟨others j o ho (e ▸ hx), e⟩⟩
  refine ⟨fun ⟨len, tags, each⟩ => ?_,
    fun law i j o p ho hp => law i j o p (stays i o ho) (stays j p hp),
    fun _ X ⟨once, each⟩ => ⟨once, fun T hT => ?_⟩, fun _ law X r j o ho hX => ?_⟩
  · exact ⟨(List.length_filter_le _ _).trans len, tags.sublist (List.filter_sublist.map _),
      fun l hl => each l (List.mem_filter.mp hl).1⟩
  · refine (each T hT).trans ?_
    simp only [hasWorkable_iff]
    refine exists_congr fun n => ⟨fun ⟨hn, tote, waiting, placed⟩ => ?_,
      fun ⟨hn, tote, waiting, placed⟩ => ?_⟩
    · have other : n.handle ≠ h := fun e => by
        have := idle n hn e
        simp [isWorkable, waiting, placed] at this
      exact ⟨List.mem_filter.mpr ⟨hn, by simpa using other⟩, tote, waiting, by rwa [kept _ other]⟩
    · obtain ⟨mem, other⟩ := List.mem_filter.mp hn
      exact ⟨mem, tote, waiting, by rwa [← kept _ (by simpa using other)]⟩
  · refine (r j o (stays j o ho) hX).trans ?_
    have other := gone law j o ho
    have same : ((s.demand.lines.filter fun l => l.handle != h).filter fun l => l.handle == o.handle) =
        s.demand.lines.filter fun l => l.handle == o.handle := by
      rw [List.filter_filter]
      refine List.filter_congr fun n _ => ?_
      by_cases e : n.handle = o.handle
      · simp [e, other]
      · simp [e]
    show orderReady s.demand.lines o.handle = orderReady (s.demand.lines.filter _) o.handle
    simp only [orderReady, same]

theorem State.closeOrder_demandKept (s : State) (h : Handle) :
    DemandKept [] [] s (s.closeOrder h) := by
  refine State.whenConfigured_demandKept 7 ?_
  split
  · rename_i k hk
    obtain ⟨o, ho, handle⟩ := positionOf_some hk
    split
    · exact s.reply_demandKept _ _ _
    · rename_i closed
      refine (State.reply_demandKept _ 7 _ _).after (State.dropLines_demandKept (fun l hl e => ?_)
        (fun j p hp => ?_) (fun j p hp other => ?_) fun law j p hp e => ?_)
      · have shut : l.state.isOpen = false := by
          rw [Bool.eq_false_iff]
          exact fun isOpen => closed (List.any_eq_true.mpr ⟨l, hl, by simp [e, isOpen]⟩)
        cases hs : l.state <;> simp_all [isWorkable, LineState.isOpen]
      · rw [getElem_set_puts] at hp
        split at hp
        · cases hp
        · exact hp
      · rw [getElem_set_puts, if_neg]
        · exact hp
        · rintro rfl
          rw [ho] at hp
          cases hp
          exact other handle
      · rw [getElem_set_puts] at hp
        split at hp
        · cases hp
        · rename_i away
          exact away (law k j o p ho hp (handle.trans e.symm))
  · rename_i unplaced
    have nowhere : isPlaced s.puts h = false := by simp [isPlaced, unplaced]
    split
    · refine (State.reply_demandKept _ 7 _ _).after (State.dropLines_demandKept (puts := s.puts)
        (fun l _ e => by simp [isWorkable, e, nowhere]) (fun _ _ => id) (fun _ _ h _ => h)
        fun _ j p hp e => ?_)
      rw [(isPlaced_iff _ _).mpr ⟨j, p, hp, e⟩] at nowhere
      cases nowhere
    · exact s.reply_demandKept _ _ _

theorem State.releaseFace_demandKept (s : State) : DemandKept [] [] s s.releaseFace := by
  refine State.whenConfigured_demandKept 8 ?_
  split
  · exact (State.reply_demandKept _ 8 _ _).after ((State.settleLane_demandKept _).after
      ((State.beginRelease_demandKept _).after s.returnActive_demandKept))
  · exact s.reply_demandKept _ _ _

/-- SET_TIME moves the times of the want records, and no tote number (R10). -/
theorem State.setTime_demandKept (s : State) (t : Clock) : DemandKept [] [] s (s.setTime t) := by
  refine State.whenConfigured_demandKept 2 ?_
  have moved : DemandKept [] [] s (s.moveClock t) :=
    .of_wants (f := fun w => { w with time := w.time + (t - s.clock) }) (fun _ => rfl) rfl rfl
  exact (State.reply_demandKept _ 2 .accepted []).after ((State.settleLane_demandKept _).after
    ((State.checkWants_demandKept _ _).after ((State.reurgent_demandKept _ _).after moved)))

theorem State.restart_demandKept (s : State) : DemandKept [] [] s s.restart := by
  have cleared : ∀ u : State, DemandKept [] [] u u.clearNotices := fun u =>
    u.clearNotices_frame.demandKept (by simp) (by simp)
  unfold State.restart
  split
  · exact (State.reply_demandKept _ 3 _ _).after ((State.settleLane_demandKept _).after
      (((State.enterSweeping_frame _ _).demandKept (by simp) (by simp)).after
        ((cleared _).after (.of_reset rfl rfl))))
  · exact (State.reply_demandKept _ 3 _ _).after ((cleared _).after (.of_same rfl rfl))

theorem State.runCommand_demandKept (s : State) (i : LinkCommand) :
    DemandKept [] [] s (s.runCommand i) := by
  cases i with
  | configure f =>
    exact (s.configure_frame f).demandKept (by simp [commandBlocks, settleBlocks])
      (by simp [commandBlocks, settleBlocks])
  | setTime t => exact s.setTime_demandKept t
  | restart => exact s.restart_demandKept
  | loadLine tag tote handle cls qty prio => exact s.loadLine_demandKept tag tote handle cls qty prio
  | cancelLine tag => exact s.cancelLine_demandKept tag
  | placeOrder h position deadline => exact s.placeOrder_demandKept h position deadline
  | closeOrder h => exact s.closeOrder_demandKept h
  | releaseFace => exact s.releaseFace_demandKept
  | rest =>
    exact s.restCommand_frame.demandKept (by simp [commandBlocks, settleBlocks])
      (by simp [commandBlocks, settleBlocks])
  | wake =>
    exact s.wakeCommand_frame.demandKept (by simp [commandBlocks, settleBlocks])
      (by simp [commandBlocks, settleBlocks])
  | clearJam =>
    exact s.clearJam_frame.demandKept (by simp [commandBlocks, settleBlocks])
      (by simp [commandBlocks, settleBlocks])
  | retrack => exact s.retrack_frame.demandKept (by simp [commandBlocks]) (by simp [commandBlocks])
  | setNotice source enable level =>
    exact (s.setNotice_frame source enable level).demandKept (by simp) (by simp)
  | setFloor floor => exact (s.setFloor_frame floor).demandKept (by simp) (by simp)
  | readNotice => exact s.readNotice_frame.demandKept (by simp) (by simp)
  | clearNotice source => exact (s.clearNotice_frame source).demandKept (by simp) (by simp)
  | readStatus => exact .of_same rfl rfl
  | readLine tag => exact (s.readLine_frame tag).demandKept (by simp) (by simp)
  | readLane => exact s.readLane_frame.demandKept (by simp) (by simp)
  | readTrack => exact s.readTrack_frame.demandKept (by simp) (by simp)
  | readConfig => exact s.readConfig_frame.demandKept (by simp) (by simp)

theorem State.takeFrame_demandKept (s : State) (bytes : List Byte) :
    DemandKept [] [] s (s.takeFrame bytes) := by
  unfold State.takeFrame
  split
  · exact .refl _
  · split
    · exact .refl _
    · split
      · exact s.runCommand_demandKept _
      · exact s.reply_demandKept _ _ _

theorem State.sensorEvent_demandKept {s : State} (x : Sensor) (b : Bool) {effect : State → State}
    (h : DemandKept [] [] (s.sensorLevel x b) (effect (s.sensorLevel x b))) :
    DemandKept [] [] s ((s.sensorLevel x b).fieldEvent effect) := by
  unfold State.fieldEvent
  split
  · exact (State.settleLane_demandKept _).after (h.after (s.withLane_demandKept _))
  · exact s.withLane_demandKept _

theorem State.fill_demandKept (s : State) : DemandKept [] [] s s.fill :=
  s.fill_frame.demandKept (by simp) (by simp)

theorem State.complete_demandKept (s : State) (d : DivertRec) (rest : List DivertRec) :
    DemandKept [] [] s (s.complete d rest) := by
  unfold State.complete
  extract_lets _ s1 s2
  have held : DemandKept [] [] s s2 :=
    ((State.request_frame _ _ _).demandKept (by simp) (by simp)).after (.of_same rfl rfl)
  have checked : ∀ u : State, DemandKept [] [] u u.newHeadCheck := fun u => by
    unfold State.newHeadCheck
    split
    · exact u.headTurnedUrgent_demandKept
    · exact .refl _
  exact (State.fill_demandKept _).after ((checked _).after
    ((State.coldWork_demandKept _ _).after held))

theorem State.entryBlocks_demandKept (s : State) : DemandKept [] [] s s.entryBlocks := by
  refine State.sensorEvent_demandKept .entry true (effect := fun s =>
    match s.divert.records with
    | d :: rest => s.complete d rest
    | [] => s.strayEntry) ?_
  split
  · exact State.complete_demandKept _ _ _
  · exact (State.strayEntry_frame _).demandKept (by simp [settleBlocks]) (by simp [settleBlocks])

theorem State.arrive_demandKept (s : State) (q : LaneRec) : DemandKept [] [] s (s.arrive q) := by
  unfold State.arrive
  extract_lets _ _ s1 _ s2 s3
  have stood : DemandKept [] [] s s1 := s.withLane_demandKept _
  have presented : DemandKept [] [] s s2 := (State.withLane_demandKept _ _).after stood
  split
  · exact (State.beginRelease_demandKept _).after stood
  · split
    · split
      · exact (State.preemptCheck_demandKept _).after presented
      · exact (State.requestLine_demandKept _).after
          ((State.preemptCheck_demandKept _).after presented)
    · exact (State.requestLine_demandKept _).after presented

theorem State.faceBlocks_demandKept (s : State) : DemandKept [] [] s s.faceBlocks := by
  refine State.sensorEvent_demandKept .face true (effect := fun s =>
    match s.lane.face, s.lane.faceRec with
    | .arriving, some q => s.arrive q
    | _, _ => if s.mode = .sweeping then s.fill else s) ?_
  split
  · exact State.arrive_demandKept _ _
  · split
    · exact State.fill_demandKept _
    · exact .refl _

/-- A put short of the quantity (R134). -/
theorem State.setPuts_demandKept {s : State} {l : Line} (hl : l ∈ s.demand.lines) {n : Nat}
    (short : n < l.qty) : DemandKept [] [] s (s.setPuts l.tag n) := by
  refine .of_map (fun m => by split <;> exact ⟨rfl, rfl, rfl, rfl⟩) (fun law m hm => ?_)
    (fun _ m _ _ => by split <;> rfl) fun _ m _ _ => by split <;> rfl
  obtain ⟨-, -, most, done⟩ := law.2.2 m hm
  split
  · rename_i tag
    obtain rfl := eq_of_tag_eq law.2.1 hm hl tag
    exact ⟨short.le, fun full => absurd full short.ne⟩
  · exact ⟨most, done⟩

/-- The last put of a line makes it DONE (R24). -/
theorem State.donePut_demandKept {s : State} {l : Line} (hl : l ∈ s.demand.lines)
    (active : l.state = .active) (last : ¬ l.puts + 1 < l.qty) :
    DemandKept [] [l.handle] s ((s.setPuts l.tag (l.puts + 1)).setLineState l.tag .done) := by
  have both : (s.setPuts l.tag (l.puts + 1)).setLineState l.tag .done =
      s.withLines (s.demand.lines.map fun m =>
        if m.tag = l.tag then { m with puts := l.puts + 1, state := .done } else m) := by
    simp only [State.setLineState, State.setPuts, State.withLines, List.map_map]
    congr 2
    refine List.map_congr_left fun m _ => ?_
    by_cases e : m.tag = l.tag <;> simp [e]
  rw [both]
  refine .of_map (fun m => by split <;> exact ⟨rfl, rfl, rfl, rfl⟩) (fun law m hm => ?_)
    (fun law m hm _ => ?_) fun law m hm hH => ?_
  · obtain ⟨-, -, most, done⟩ := law.2.2 m hm
    split
    · rename_i tag
      obtain rfl := eq_of_tag_eq law.2.1 hm hl tag
      have open_ : m.puts ≠ m.qty := fun full => by
        rw [done full] at active
        cases active
      exact ⟨by dsimp only; omega, fun _ => rfl⟩
    · exact ⟨most, done⟩
  · split
    · rename_i tag
      obtain rfl := eq_of_tag_eq law.2.1 hm hl tag
      simp [active]
    · rfl
  · split
    · rename_i tag
      obtain rfl := eq_of_tag_eq law.2.1 hm hl tag
      exact absurd (.head _) hH
    · rfl

theorem State.countPut_demandKept {s : State} {l : Line} (hl : l ∈ s.demand.lines)
    (active : l.state = .active) : DemandKept [] [] s (s.countPut l) := by
  unfold State.countPut
  dsimp only
  split
  · rename_i short
    have shown : ∀ (u : State) (p : Picker), DemandKept [] [] u { u with picker := p } :=
      fun u p => .of_same rfl rfl
    exact (shown _ _).after (State.setPuts_demandKept hl short)
  · rename_i last
    exact (State.settleLane_demandKept _).after (State.lineBoundary_demandKept
      ((State.leaveActive_demandKept _).after ((State.raise_demandKept _ _ _).after
        (State.donePut_demandKept hl active last))))

theorem State.beamBreak_demandKept (s : State) (k : PutIdx) :
    DemandKept [] [] s (s.beamBreak k) := by
  have judged : ∀ u : State, DemandKept [] [] u (u.judgeBreak k) := by
    intro u
    unfold State.judgeBreak
    split
    · exact .refl _
    · split
      · exact u.raise_demandKept _ _
      · split
        · rename_i l hl
          obtain ⟨mem, active⟩ := activeLine_mem hl
          split
          · exact State.countPut_demandKept mem active
          · exact u.raise_demandKept _ _
        · exact u.raise_demandKept _ _
  have broken : ∀ f, DemandKept [] [] s (s.setBeam k f) := fun f => .of_same rfl rfl
  unfold State.beamBreak
  split
  · exact (judged _).after (broken _)
  · exact broken _

theorem State.shortKey_demandKept (s : State) : DemandKept [] [] s s.shortKey := by
  unfold State.shortKey
  split
  · exact .refl _
  · rename_i l hl
    obtain ⟨mem, active⟩ := activeLine_mem hl
    have line : DemandKept [] [l.handle] s (s.setLineState l.tag .short) :=
      State.setLineState_demandKept mem (by rw [active]; decide) (fun _ => by rw [active]; decide)
        fun h => absurd (.head _) h
    exact (State.settleLane_demandKept _).after (State.lineBoundary_demandKept
      ((State.leaveActive_demandKept _).after ((State.raise_demandKept _ _ _).after line)))

theorem State.tick_demandKept (s : State) : DemandKept [] [] s s.tick := by
  unfold State.tick
  extract_lets s1 s2 s3
  have clock : DemandKept [] [] s s1 := .of_same rfl rfl
  split
  · have aged : DemandKept [] [] s1 s2 :=
      ((State.stallWork_frame _).demandKept (by simp) (by simp)).after
        (((State.countMergeWait_frame _).demandKept (by simp) (by simp)).after (.of_same rfl rfl))
    have cold : DemandKept [] [] s2 s3 :=
      (State.reurgent_demandKept _ _).after (.foldl State.coldWork_demandKept _ _)
    exact (State.settleLane_demandKept _).after
      (((State.countRefresh_frame _).demandKept (by simp) (by simp)).after
        ((State.checkWants_demandKept _ _).after (cold.after (aged.after clock))))
  · exact clock

/-- Every command keeps the laws. Most touch neither the Demand Table nor the Put Map. -/
theorem exec_demandKept (i : Instr) (s : State) :
    ∃ t, exec i s = .next t ∧ DemandKept [] [] s t := by
  by_cases apart : Block.demand ∉ commandBlocks i ∧ Block.puts ∉ commandBlocks i
  · obtain ⟨t, run, frame⟩ := exec_frame i s
    exact ⟨t, run, frame.demandKept apart.1 apart.2⟩

  cases i with
  | powerOnReset => exact ⟨_, rfl, .of_reset rfl rfl⟩
  | transaction bits =>
    exact ⟨_, rfl, (State.takeFrame_demandKept _ _).after (.of_same rfl rfl)⟩
  | badFrame bytes => exact ⟨_, rfl, s.takeFrame_demandKept bytes⟩
  | setTime t => exact ⟨_, rfl, s.setTime_demandKept t⟩
  | restart => exact ⟨_, rfl, s.restart_demandKept⟩
  | loadLine tag tote handle cls qty prio =>
    exact ⟨_, rfl, s.loadLine_demandKept tag tote handle cls qty prio⟩
  | cancelLine tag => exact ⟨_, rfl, s.cancelLine_demandKept tag⟩
  | placeOrder h position deadline => exact ⟨_, rfl, s.placeOrder_demandKept h position deadline⟩
  | closeOrder h => exact ⟨_, rfl, s.closeOrder_demandKept h⟩
  | releaseFace => exact ⟨_, rfl, s.releaseFace_demandKept⟩
  | oneSecondTick => exact ⟨_, rfl, s.tick_demandKept⟩
  | wantRefresh T =>
    refine ⟨_, rfl, ?_⟩
    split
    · split
      · exact s.announce_demandKept _ _
      · exact .refl _
    · exact .refl _
  | coldBreach T =>
    refine ⟨_, rfl, ?_⟩
    split
    · exact (State.settleLane_demandKept _).after ((State.reurgent_demandKept _ _).after
        (s.breach_demandKept T))
    · exact .refl _
  | entrySeen => exact ⟨_, rfl, s.entryBlocks_demandKept⟩
  | faceArrived => exact ⟨_, rfl, s.faceBlocks_demandKept⟩
  | sensorBlocked x =>
    refine ⟨_, rfl, ?_⟩
    cases x with
    | entry => exact s.entryBlocks_demandKept
    | head =>
      exact s.headBlocks_frame.demandKept (by simp [settleBlocks]) (by simp [settleBlocks])
    | face => exact s.faceBlocks_demandKept
    | park =>
      exact s.parkBlocks_frame.demandKept (by simp [settleBlocks]) (by simp [settleBlocks])
    | exit =>
      exact s.exitBlocks_frame.demandKept (by simp [settleBlocks]) (by simp [settleBlocks])
  | beamBreak k => exact ⟨_, rfl, s.beamBreak_demandKept k⟩
  | shortKey =>
    refine ⟨_, rfl, ?_⟩
    split
    · exact s.shortKey_demandKept
    · exact .refl _
  | _ =>
    exact (apart ⟨by simp [commandBlocks, settleBlocks], by simp [commandBlocks, settleBlocks]⟩).elim

theorem step_demandKept {s t : State} (h : step s = .next t) : DemandKept [] [] s t := by
  unfold step at h
  split at h
  · cases h
    exact s.passMs_frame.demandKept (by simp) (by simp)
  · rename_i c rest _
    obtain ⟨u, run, kept⟩ := exec_demandKept c { s with pending := rest }
    obtain rfl : u = t := by simpa [run] using h
    exact ⟨kept.lines, kept.puts, kept.wants, kept.ready⟩

/-- Settles O58, with a relation between states that every operation keeps. -/
theorem demandLawsKept : Obligations.DemandLawsKept := by
  unfold Obligations.DemandLawsKept
  intro s t h
  have kept := step_demandKept h
  exact ⟨kept.lines, kept.puts,
    fun lines wants => (wantsLaw_iff t).mpr (kept.wants lines [] ((wantsLaw_iff s).mp wants)),
    fun lines puts ready =>
      (readyLaw_iff t).mpr (kept.ready lines puts [] ((readyLaw_iff s).mp ready))⟩

end Sys2Proof.Machine
end

section
/-! PROOFS. Every step keeps the laws of the able condition, the queue records, the drive outputs and the sensor
times (O60, its second part): what touches the lane ends by setting them. -/

namespace Sys2Proof.Machine

/-! ### Queue records (R96, R147) -/

/-- R96, R147: the queue records of a state. -/
def QueueLaw (s : State) : Prop :=
  (s.mode ≠ .unconfigured → s.queueRecords ≤ s.conf.c) ∧
    (s.mode = .unconfigured → s.queueRecords = 0)

theorem ableLaw_iff (s : State) : AbleLaw s ↔ s.modeCtl.able = s.ableNow ∧ QueueLaw s := .rfl

/-- From `s` to `t` no queue record came. -/
structure Fewer (s t : State) : Prop where
  conf : t.conf = s.conf
  mode : t.mode = .unconfigured ↔ s.mode = .unconfigured
  records : t.queueRecords ≤ s.queueRecords

theorem Fewer.refl (s : State) : Fewer s s := ⟨rfl, .rfl, le_rfl⟩

theorem Fewer.after {s t u : State} (k : Fewer t u) (h : Fewer s t) : Fewer s u :=
  ⟨k.conf.trans h.conf, k.mode.trans h.mode, k.records.trans h.records⟩

theorem Fewer.foldl {α : Type} {f : State → α → State} (hf : ∀ s a, Fewer s (f s a)) (l : List α)
    (s : State) : Fewer s (l.foldl f s) := by
  induction l generalizing s with
  | nil => exact .refl _
  | cons a l ih => exact (ih _).after (hf s a)

theorem Fewer.queueLaw {s t : State} (h : Fewer s t) (law : QueueLaw s) : QueueLaw t := by
  refine ⟨fun hm => ?_, fun hm => Nat.le_zero.mp (law.2 (h.mode.mp hm) ▸ h.records)⟩
  rw [h.conf]
  exact h.records.trans (law.1 fun e => hm (h.mode.mpr e))

theorem Steady.fewer {s t : State} (h : Steady s t)
    (queue : t.lane.queue.length ≤ s.lane.queue.length) : Fewer s t := by
  refine ⟨h.frame.conf_eq (by simp [steadyBlocks]), h.mode, ?_⟩
  unfold State.queueRecords
  rw [h.frame.divert_eq (by simp [steadyBlocks])]
  exact Nat.add_le_add_left queue _

/-- A change outside the configuration, the divert records, the lane and the mode. -/
theorem SameExcept.fewer {bs : List Block} {s t : State} (h : SameExcept bs s t)
    (cfg : Block.cfg ∉ bs) (divert : Block.divert ∉ bs) (lane : Block.lane ∉ bs)
    (mode : Block.modeCtl ∉ bs) : Fewer s t := by
  refine ⟨h.conf_eq cfg, by rw [h.mode_eq mode], ?_⟩
  unfold State.queueRecords
  rw [h.divert_eq divert, h.lane_eq lane]

theorem State.withLane_fewer (s : State) {l : Lane} (h : l.queue.length ≤ s.lane.queue.length) :
    Fewer s (s.withLane l) := ⟨rfl, .rfl, Nat.add_le_add_left h _⟩

theorem State.raise_fewer (s : State) (n : NoticeSource) (d : BitVec 32) : Fewer s (s.raise n d) :=
  (s.raise_frame n d).fewer (by simp) (by simp) (by simp) (by simp)

theorem State.request_fewer (s : State) (T : ToteNo) (b : FrameBody) : Fewer s (s.request T b) :=
  (s.request_frame T b).fewer (by simp) (by simp) (by simp) (by simp)

theorem State.setLineState_fewer (s : State) (tag : Tag) (x : LineState) :
    Fewer s (s.setLineState tag x) :=
  (s.setLineState_frame tag x).fewer (by simp) (by simp) (by simp) (by simp)

theorem State.deriveWant_fewer (s : State) (T : ToteNo) : Fewer s (s.deriveWant T) :=
  (s.deriveWant_frame T).fewer (by simp) (by simp) (by simp) (by simp)

theorem State.checkWants_fewer (s : State) (p : ToteNo → Bool) : Fewer s (s.checkWants p) :=
  (s.checkWants_frame p).fewer (by simp) (by simp) (by simp) (by simp)

theorem State.reready_fewer (s : State) (h : Handle) : Fewer s (s.reready h) :=
  (s.reready_frame h).fewer (by simp) (by simp) (by simp) (by simp)

theorem State.leaveActive_fewer (s : State) : Fewer s s.leaveActive :=
  s.leaveActive_frame.fewer (by simp) (by simp) (by simp) (by simp)

theorem State.parkFace_fewer (s : State) : Fewer s s.parkFace := by
  unfold State.parkFace
  split
  · exact .refl _
  · dsimp only
    refine Fewer.after (State.withLane_fewer _ ?_) ?_
    · exact le_rfl
    split
    · exact (State.leaveActive_fewer _).after (s.setLineState_fewer _ _)
    · exact .refl _

theorem State.preemptCheck_fewer (s : State) : Fewer s s.preemptCheck := by
  unfold State.preemptCheck
  split
  · split
    · exact s.parkFace_fewer
    · rename_i queue
      split
      · exact .refl _
      · exact (State.raise_fewer _ _ _).after (s.withLane_fewer (by simp [queue]))
    · exact .refl _
  · exact .refl _

theorem State.headTurnedUrgent_fewer (s : State) : Fewer s s.headTurnedUrgent := by
  unfold State.headTurnedUrgent
  split
  · exact s.preemptCheck_fewer
  · exact .refl _

theorem State.updRecs_fewer (s : State) (f : LaneRec → LaneRec) : Fewer s (s.updRecs f) :=
  s.withLane_fewer (by simp)

theorem State.reurgent_fewer (s : State) (p : ToteNo → Bool) : Fewer s (s.reurgent p) := by
  unfold State.reurgent
  dsimp only
  split
  · exact (State.headTurnedUrgent_fewer _).after (s.updRecs_fewer _)
  · exact s.updRecs_fewer _

theorem State.tryLeave_fewer (s : State) : Fewer s s.tryLeave := by
  unfold State.tryLeave
  split
  · exact s.withLane_fewer le_rfl
  · exact .refl _

theorem State.beginRelease_fewer (s : State) : Fewer s s.beginRelease :=
  (State.tryLeave_fewer _).after (s.withLane_fewer le_rfl)

theorem State.settleLane_fewer (s : State) : Fewer s s.settleLane := by
  refine s.settleLane_steady.fewer ?_
  obtain ⟨d, ss, lane⟩ := s.settleLane_lane
  rw [lane]

theorem State.coldAlertWork_fewer (s : State) (T : ToteNo) : Fewer s (s.coldAlertWork T) := by
  refine (s.coldAlertWork_steady T).fewer ?_
  rw [State.coldAlertWork_lane]
  simp [Lane.mapRecs]

theorem State.breach_fewer (s : State) (T : ToteNo) : Fewer s (s.breach T) := by
  refine (s.breach_steady T).fewer ?_
  by_cases h : s.lane.face = .presenting ∧ ∃ q ∈ s.lane.faceRec, q.tote = T
  · rw [(s.breach_lane T).1 h]
    simp [Lane.released, Lane.mapRecs]
  · rw [(s.breach_lane T).2 h]
    simp [Lane.mapRecs]

theorem State.coldWork_fewer (s : State) (T : ToteNo) : Fewer s (s.coldWork T) := by
  unfold State.coldWork State.coldBreachWork
  split
  · exact (State.breach_fewer _ _).after (s.coldAlertWork_fewer T)
  · exact s.coldAlertWork_fewer T

theorem State.returnActive_fewer (s : State) : Fewer s s.returnActive := by
  unfold State.returnActive
  split
  · exact .refl _
  · exact (State.reurgent_fewer _ _).after ((State.deriveWant_fewer _ _).after
      ((State.leaveActive_fewer _).after (s.setLineState_fewer _ _)))

theorem State.requestLine_fewer (s : State) : Fewer s s.requestLine := by
  unfold State.requestLine
  split
  · exact .refl _
  · split
    · exact s.beginRelease_fewer
    · exact (State.reurgent_fewer _ _).after ((State.deriveWant_fewer _ _).after
        (((State.light_frame _ _).fewer (by simp) (by simp) (by simp) (by simp)).after
          (s.setLineState_fewer _ _)))

theorem State.lineBoundary_fewer (s : State) (l : Line) : Fewer s (s.lineBoundary l) := by
  have checked := (State.reready_fewer _ l.handle).after (s.reurgent_fewer (· == l.tote))
  unfold State.lineBoundary
  dsimp only
  split
  · split
    · exact (State.beginRelease_fewer _).after checked
    · split
      · exact (State.preemptCheck_fewer _).after checked
      · exact (State.requestLine_fewer _).after ((State.preemptCheck_fewer _).after checked)
  · exact checked

theorem State.jamLane_fewer (s : State) (x : Sensor) : Fewer s (s.jamLane x) := by
  unfold State.jamLane
  split
  · exact .refl _
  · exact (State.raise_fewer _ _ _).after (s.withLane_fewer le_rfl)

theorem State.beginArriving_fewer (s : State) (q : LaneRec) (x : FaceSource) :
    Fewer s (s.beginArriving q x) := s.withLane_fewer le_rfl

theorem State.fillHead_fewer (s : State) : Fewer s s.fillHead := by
  unfold State.fillHead
  split
  · rename_i queue
    split
    · exact (State.beginArriving_fewer _ _ _).after (s.withLane_fewer (by simp [queue]))
    · exact s.withLane_fewer le_rfl
  · split
    · exact s.beginArriving_fewer _ _
    · exact .refl _

theorem State.fill_fewer (s : State) : Fewer s s.fill := by
  unfold State.fill
  split
  · exact .refl _
  · split
    · exact (State.beginRelease_fewer _).after (s.withLane_fewer le_rfl)
    · split
      · exact s.fillHead_fewer
      · split
        · exact (State.beginArriving_fewer _ _ _).after (s.withLane_fewer le_rfl)
        · split
          · exact s.beginArriving_fewer _ _
          · exact s.fillHead_fewer

theorem State.enterMode_fewer {s : State} (hs : s.mode ≠ .unconfigured) {m : BenchMode}
    (hm : m ≠ .unconfigured) : Fewer s (s.enterMode m) :=
  (State.enterMode_steady hs hm).fewer (by rw [(s.enterMode_frame m).lane_eq (by simp)])

theorem State.sweepTest_fewer (s : State) : Fewer s s.sweepTest :=
  s.sweepTest_steady.fewer (by rw [s.sweepTest_frame.lane_eq (by simp)])

theorem State.drainTest_fewer (s : State) : Fewer s s.drainTest :=
  s.drainTest_steady.fewer (by rw [s.drainTest_frame.lane_eq (by simp)])

theorem State.enterSweeping_fewer {s : State} (hs : s.mode ≠ .unconfigured) (r : SweepReturn) :
    Fewer s (s.enterSweeping r) :=
  (State.sweepTest_fewer _).after ((State.fill_fewer _).after ((State.enterMode_fewer
    (s := s.withModeCtl { s.modeCtl with sweepReturn := r }) hs (by decide)).after
      ⟨rfl, .rfl, le_rfl⟩))

theorem State.passMs_fewer (s : State) : Fewer s s.passMs := by
  refine s.passMs_steady.fewer ?_
  have lane : ∀ s : State, s.laneMs.lane.queue = s.lane.queue := by
    intro s
    unfold State.laneMs
    dsimp only
    split
    · rfl
    · split
      · rfl
      · unfold State.jamLane
        split <;> rfl
  have settled : ∀ s : State, s.settleLane.lane.queue = s.lane.queue := fun s => by
    obtain ⟨d, ss, h⟩ := s.settleLane_lane
    rw [h]
  unfold State.passMs
  split
  · rw [settled, lane, (State.pickingMs_frame _).lane_eq (by simp)]
    exact le_rfl
  · exact le_rfl

theorem State.place_fewer (s : State) (e : EalEntry) : Fewer s (s.place e) :=
  (s.place_frame e).fewer (by simp) (by simp) (by simp) (by simp)

/-! ### Able, the drives and the sensor times (R111, R125, R147) -/

/-- What the end of an event leaves: able, the drive outputs and the sensor times follow the state. -/
def Settled (s : State) : Prop := s.modeCtl.able = s.ableNow ∧ OutputsLaw s

theorem SameExcept.settled {bs : List Block} {s t : State} (h : SameExcept bs s t)
    (cfg : Block.cfg ∉ bs) (divert : Block.divert ∉ bs) (lane : Block.lane ∉ bs)
    (mode : Block.modeCtl ∉ bs) (k : Settled s) : Settled t := by
  refine ⟨?_, h.outputsLaw lane mode k.2⟩
  rw [h.modeCtl_eq mode, h.ableNow_eq cfg divert lane mode]
  exact k.1

theorem sensorTime_of_timed (s : State) (x : Sensor) :
    (s.timedSensor x).time.isSome = ((sensorOf s.lane.sensors x).blocked && !s.accounted x) ∧
      (s.timedSensor x).blocked = (sensorOf s.lane.sensors x).blocked := by
  unfold State.timedSensor
  refine ⟨?_, rfl⟩
  dsimp only
  split <;> simp_all

/-- The end of an event sets them (R111, R125, R147). -/
theorem State.settleLane_settled (s : State) : Settled s.settleLane := by
  have outputs : OutputsLaw (s.withLane
      { s.lane with
        drives := drivesOf s.lane
        sensors := { entry := s.timedSensor .entry, head := s.timedSensor .head,
                     face := s.timedSensor .face, park := s.timedSensor .park,
                     exit := s.timedSensor .exit } }) := by
    refine ⟨rfl, fun x => ?_⟩
    cases x <;> exact (sensorTime_of_timed s _).1
  unfold State.settleLane
  extract_lets s1
  split
  · rename_i same
    exact ⟨same.symm, outputs⟩
  · refine (State.requestState_frame _).settled (by simp) (by simp) (by simp) (by simp) ⟨rfl, ?_⟩
    exact outputs

/-- A lane whose face, jam, records, sensors and drives stand as far as the outputs go by them. -/
theorem Settled.withLane {s : State} (h : Settled s) {l : Lane} (face : l.face = s.lane.face)
    (jam : l.jam = s.lane.jam) (queue : l.queue.length = s.lane.queue.length)
    (faceRec : l.faceRec.map LaneRec.source = s.lane.faceRec.map LaneRec.source)
    (parkRec : l.parkRec.isSome = s.lane.parkRec.isSome) (sensors : l.sensors = s.lane.sensors)
    (drives : l.drives = s.lane.drives) : Settled (s.withLane l) := by
  obtain ⟨able, outputs, times⟩ := h
  have from_ : ∀ x, (l.faceRec.any fun q => q.source == x) =
      s.lane.faceRec.any fun q => q.source == x := fun x => by
    have := congrArg (Option.any (· == x)) faceRec
    simpa [Option.any_map, Function.comp_def] using this
  have stands : l.faceRec.isSome = s.lane.faceRec.isSome := by
    simpa using congrArg Option.isSome faceRec
  have empty : l.queue.isEmpty = s.lane.queue.isEmpty := by
    rw [Bool.eq_iff_iff, List.isEmpty_iff, List.isEmpty_iff, ← List.length_eq_zero_iff, queue,
      List.length_eq_zero_iff]
  have accounted : ∀ x, (s.withLane l).accounted x = s.accounted x := by
    intro x
    unfold State.accounted
    cases x <;>
      simp only [State.mode, State.withLane_modeCtl, State.withLane_lane, face, from_, stands, empty,
        parkRec] <;>
      rfl
  refine ⟨?_, ?_, fun x => ?_⟩
  · rw [State.withLane_modeCtl, able]
    unfold State.ableNow State.queueRecords
    rw [State.withLane_lane, jam, queue]
    rfl
  · rw [State.withLane_lane, drives, outputs]
    simp [drivesOf, face, jam, from_]
  · rw [accounted]
    unfold State.isBlocked at *
    rw [State.withLane_lane, sensors]
    exact times x

/-! ### Every command -/

/-- What the second part of O60 says of a step from `s` to `t`. -/
def AbleKept (s t : State) : Prop := Settled s → QueueLaw s → Settled t ∧ QueueLaw t

theorem AbleKept.refl (s : State) : AbleKept s s := fun h k => ⟨h, k⟩

theorem AbleKept.after {s t u : State} (k : AbleKept t u) (h : AbleKept s t) : AbleKept s u :=
  fun a b => k (h a b).1 (h a b).2

theorem Fewer.ableKept {s t : State} (h : Fewer s t) (k : Settled s → Settled t) : AbleKept s t :=
  fun a b => ⟨k a, h.queueLaw b⟩

theorem Fewer.settled {s t : State} (h : Fewer s t) : AbleKept s t.settleLane :=
  ((State.settleLane_fewer t).after h).ableKept fun _ => t.settleLane_settled

theorem SameExcept.ableKept {bs : List Block} {s t : State} (h : SameExcept bs s t)
    (cfg : Block.cfg ∉ bs) (divert : Block.divert ∉ bs) (lane : Block.lane ∉ bs)
    (mode : Block.modeCtl ∉ bs) : AbleKept s t :=
  (h.fewer cfg divert lane mode).ableKept (h.settled cfg divert lane mode)

theorem State.reply_ableKept (s : State) (code : Byte) (st : Status) (fs : List Byte) :
    AbleKept s (s.reply code st fs) :=
  (s.reply_frame code st fs).ableKept (by simp) (by simp) (by simp) (by simp)

theorem AbleKept.reply {s t : State} (h : AbleKept s t) (code : Byte) (st : Status)
    (fs : List Byte) : AbleKept s (t.reply code st fs) := (t.reply_ableKept code st fs).after h

theorem State.whenConfigured_ableKept {s : State} {effect : State → State} (code : Byte)
    (h : AbleKept s (effect s)) : AbleKept s (s.whenConfigured code effect) := by
  unfold State.whenConfigured
  split
  · exact h
  · exact s.reply_ableKept _ _ _

/-- A state with no record, nothing driven, no sensor timed and the mode as it was. -/
theorem State.powerOn_ableKept (s : State) : AbleKept s s.powerOn := by
  refine fun _ _ => ⟨⟨rfl, rfl, fun x => ?_⟩, fun h => absurd rfl h, fun _ => rfl⟩
  rw [show s.powerOn.accounted x = true from if_pos rfl, Bool.not_true, Bool.and_false]
  cases x <;> rfl

theorem State.configure_ableKept (s : State) (f : ConfigFields) : AbleKept s (s.configure f) := by
  unfold State.configure
  split
  · exact s.reply_ableKept _ _ _
  · rename_i unconfigured
    have hs : s.mode = .unconfigured := not_not.mp fun h => unconfigured (s.configured_iff.mpr h)
    split
    · refine AbleKept.reply (fun _ law => ?_) 1 _ _
      -- a part without queue records enters SWEEPING
      have entered : QueueLaw (((s.storeConfig f).withModeCtl
          { (s.storeConfig f).modeCtl with sweepReturn := .active }).enterMode .sweeping) := by
        have frame := State.enterMode_frame ((s.storeConfig f).withModeCtl
          { (s.storeConfig f).modeCtl with sweepReturn := .active }) .sweeping
        have none : State.queueRecords (((s.storeConfig f).withModeCtl
          { (s.storeConfig f).modeCtl with sweepReturn := .active }).enterMode .sweeping) = 0 := by
          unfold State.queueRecords
          rw [frame.divert_eq (by simp), frame.lane_eq (by simp)]
          exact law.2 hs
        exact ⟨fun _ => none ▸ Nat.zero_le _, fun _ => none⟩
      exact ⟨State.settleLane_settled _, ((State.settleLane_fewer _).after
        ((State.sweepTest_fewer _).after (State.fill_fewer _))).queueLaw entered⟩
    · exact s.reply_ableKept _ _ _

theorem State.restart_ableKept (s : State) : AbleKept s s.restart := by
  have cleared : ∀ u : State, Fewer u u.clearNotices := fun u =>
    u.clearNotices_frame.fewer (by simp) (by simp) (by simp) (by simp)
  unfold State.restart
  split
  · rename_i configured
    have hs : s.mode ≠ .unconfigured := s.configured_iff.mp configured
    have work : Fewer s s.clearWork := ⟨rfl, .rfl, Nat.zero_le _⟩
    exact AbleKept.reply (((State.enterSweeping_fewer (s := s.clearWork.clearNotices) hs .active).after
      ((cleared _).after work)).settled) 3 _ _
  · have zeroed : SameExcept [.clock, .notices] s ({ s with clock := 0 } : State).clearNotices :=
      SameExcept.step (as := [.clock]) (by simp [SameExcept]) (State.clearNotices_frame _) (by simp)
        (by simp)
    exact AbleKept.reply (zeroed.ableKept (by simp) (by simp) (by simp) (by simp)) 3 _ _

theorem State.moveClock_fewer (s : State) (t : Clock) : Fewer s (s.moveClock t) :=
  ⟨rfl, .rfl, by simp [State.queueRecords, State.moveClock, State.shiftTimes]⟩

theorem State.setTime_ableKept (s : State) (t : Clock) : AbleKept s (s.setTime t) := by
  refine State.whenConfigured_ableKept 2 (AbleKept.reply ?_ 2 .accepted [])
  exact ((State.checkWants_fewer _ _).after ((State.reurgent_fewer _ _).after
    (s.moveClock_fewer t))).settled

theorem State.loadLine_ableKept (s : State) (tag : Tag) (tote : ToteNo) (handle : Handle)
    (cls qty prio : Byte) : AbleKept s (s.loadLine tag tote handle cls qty prio) := by
  refine State.whenConfigured_ableKept 4 ?_
  split
  · exact s.reply_ableKept _ _ _
  · split
    · exact s.reply_ableKept _ _ _
    · split
      · exact s.reply_ableKept _ _ _
      · refine AbleKept.reply ?_ 4 _ _
        rw [State.addLine_eq]
        exact ((State.reurgent_fewer _ _).after
          ((s.lineAdded_frame _).fewer (by simp) (by simp) (by simp) (by simp))).settled

theorem State.cancelLine_ableKept (s : State) (tag : Tag) : AbleKept s (s.cancelLine tag) := by
  refine State.whenConfigured_ableKept 5 ?_
  split
  · exact s.reply_ableKept _ _ _
  · rename_i l _
    split
    · refine AbleKept.reply ?_ 5 _ _
      have line := s.setLineState_fewer l.tag .cancelled
      have checked := ((State.reurgent_fewer _ (· == l.tote)).after
        ((State.reready_fewer _ l.handle).after line)).settled
      unfold State.cancelOpen
      dsimp only
      split
      · exact ((State.lineBoundary_fewer _ l).after ((State.leaveActive_fewer _).after line)).settled
      · exact ((State.reurgent_fewer _ _).after ((State.reready_fewer _ _).after
          ((State.deriveWant_fewer _ _).after line))).settled
      · exact checked
      · exact checked
      all_goals exact .refl _
    · exact s.reply_ableKept _ _ _

theorem State.placeOrder_ableKept (s : State) (h : Handle) (position : Byte) (deadline : Clock) :
    AbleKept s (s.placeOrder h position deadline) := by
  have puts : ∀ (u : State) (p : Vector (Option Order) 16), Fewer u { u with puts := p } :=
    fun u p => ⟨rfl, .rfl, le_rfl⟩
  refine State.whenConfigured_ableKept 6 ?_
  split
  · exact s.reply_ableKept _ _ _
  · split
    · exact s.reply_ableKept _ _ _
    · split
      · exact s.reply_ableKept _ _ _
      · split
        · split
          · exact AbleKept.reply (((State.checkWants_fewer _ _).after
              ((State.reurgent_fewer _ _).after (puts _ _))).settled) 6 _ _
          · exact s.reply_ableKept _ _ _
        · exact AbleKept.reply (((State.reurgent_fewer _ _).after ((State.reready_fewer _ _).after
            ((Fewer.foldl State.deriveWant_fewer _ _).after (puts _ _)))).settled) 6 _ _

theorem State.releaseFace_ableKept (s : State) : AbleKept s s.releaseFace := by
  refine State.whenConfigured_ableKept 8 ?_
  split
  · exact AbleKept.reply (((State.beginRelease_fewer _).after s.returnActive_fewer).settled) 8 _ _
  · exact s.reply_ableKept _ _ _

/-- A new sweep return alone (R149, R150). -/
theorem State.sweepReturn_ableKept (s : State) (r : SweepReturn) :
    AbleKept s (s.withModeCtl { s.modeCtl with sweepReturn := r }) :=
  Fewer.ableKept ⟨rfl, .rfl, le_rfl⟩ id

theorem State.goToRest_ableKept (s : State) : AbleKept s s.goToRest := by
  unfold State.goToRest
  split
  · rename_i active
    exact ((State.drainTest_fewer _).after
      (State.enterMode_fewer (by simp [active]) (by decide))).settled
  · exact s.sweepReturn_ableKept _
  all_goals exact .refl _

theorem State.wakeUp_ableKept (s : State) : AbleKept s s.wakeUp := by
  unfold State.wakeUp
  split
  · rename_i mode
    exact (State.enterMode_fewer (by simp [mode]) (by decide)).settled
  · rename_i mode
    exact (State.enterMode_fewer (by simp [mode]) (by decide)).settled
  · exact s.sweepReturn_ableKept _
  all_goals exact .refl _

theorem State.restCommand_ableKept (s : State) : AbleKept s s.restCommand :=
  State.whenConfigured_ableKept (effect := fun s => s.goToRest.reply 9 .accepted) 9
    (s.goToRest_ableKept.reply 9 _ _)

theorem State.wakeCommand_ableKept (s : State) : AbleKept s s.wakeCommand :=
  State.whenConfigured_ableKept (effect := fun s => s.wakeUp.reply 10 .accepted) 10
    (s.wakeUp_ableKept.reply 10 _ _)

theorem State.clearJam_ableKept (s : State) : AbleKept s s.clearJam := by
  refine State.whenConfigured_ableKept 11 (AbleKept.reply ?_ 11 _ _)
  split
  · refine Fewer.settled ((State.sweepTest_fewer _).after ((State.tryLeave_fewer _).after
      ((State.fill_fewer _).after (State.withLane_fewer _ ?_))))
    exact le_rfl
  · exact .refl _

theorem State.runCommand_ableKept (s : State) (i : LinkCommand) : AbleKept s (s.runCommand i) := by
  cases i with
  | configure f => exact s.configure_ableKept f
  | setTime t => exact s.setTime_ableKept t
  | restart => exact s.restart_ableKept
  | loadLine tag tote handle cls qty prio => exact s.loadLine_ableKept tag tote handle cls qty prio
  | cancelLine tag => exact s.cancelLine_ableKept tag
  | placeOrder h position deadline => exact s.placeOrder_ableKept h position deadline
  | closeOrder h =>
    exact (s.closeOrder_frame h).ableKept (by simp [commandBlocks]) (by simp [commandBlocks])
      (by simp [commandBlocks]) (by simp [commandBlocks])
  | releaseFace => exact s.releaseFace_ableKept
  | rest => exact s.restCommand_ableKept
  | wake => exact s.wakeCommand_ableKept
  | clearJam => exact s.clearJam_ableKept
  | retrack =>
    exact s.retrack_frame.ableKept (by simp [commandBlocks]) (by simp [commandBlocks])
      (by simp [commandBlocks]) (by simp [commandBlocks])
  | setNotice source enable level =>
    exact (s.setNotice_frame source enable level).ableKept (by simp) (by simp) (by simp) (by simp)
  | setFloor floor => exact (s.setFloor_frame floor).ableKept (by simp) (by simp) (by simp) (by simp)
  | readNotice => exact s.readNotice_frame.ableKept (by simp) (by simp) (by simp) (by simp)
  | clearNotice source =>
    exact (s.clearNotice_frame source).ableKept (by simp) (by simp) (by simp) (by simp)
  | readStatus => exact Fewer.ableKept ⟨rfl, .rfl, le_rfl⟩ id
  | readLine tag => exact (s.readLine_frame tag).ableKept (by simp) (by simp) (by simp) (by simp)
  | readLane => exact s.readLane_frame.ableKept (by simp) (by simp) (by simp) (by simp)
  | readTrack => exact s.readTrack_frame.ableKept (by simp) (by simp) (by simp) (by simp)
  | readConfig => exact s.readConfig_frame.ableKept (by simp) (by simp) (by simp) (by simp)

theorem State.takeFrame_ableKept (s : State) (bytes : List Byte) :
    AbleKept s (s.takeFrame bytes) := by
  unfold State.takeFrame
  split
  · exact .refl _
  · split
    · exact .refl _
    · split
      · exact s.runCommand_ableKept _
      · exact s.reply_ableKept _ _ _

/-! ### The reader -/

/-- A take is made at an able bench, where the queue has room (R99, R147). -/
theorem State.sighted_ableKept {s : State} (able : s.modeCtl.able = s.ableNow) (law : QueueLaw s)
    (T : ToteNo) (part : Option EntryPart) :
    Settled (s.sighted T part) ∧ QueueLaw (s.sighted T part) := by
  refine ⟨State.settleLane_settled _, (State.settleLane_fewer _).queueLaw ?_⟩
  have board : QueueLaw { s with board := boardSighting s.board T } := law
  unfold State.judge
  split
  · exact (State.raise_fewer _ _ _).queueLaw board
  · split
    · rename_i takes
      simp only [State.takes, Bool.and_eq_true, beq_iff_eq] at takes
      obtain ⟨⟨active, on⟩, -⟩ := takes
      have now : s.ableNow = true := able ▸ on
      simp only [State.ableNow, Bool.and_eq_true, decide_eq_true_eq] at now
      obtain ⟨-, room⟩ := now
      refine ⟨fun _ => ?_, fun h => ?_⟩
      · unfold State.queueRecords at room ⊢
        show (s.divert.records ++ _).length + _ ≤ _
        rw [List.length_append, List.length_singleton]
        show _ + s.lane.queue.length ≤ s.conf.c
        omega
      · exact absurd (active.symm.trans h) (by decide)
    · exact (State.place_fewer _ _).queueLaw board

theorem State.readReport_ableKept (s : State) (r : ReaderReport) : AbleKept s (s.readReport r) := by
  intro settled law
  have settle : ∀ {bs : List Block} {u : State}, SameExcept bs s u → Block.cfg ∉ bs →
      Block.divert ∉ bs → Block.lane ∉ bs → Block.modeCtl ∉ bs → ∀ T part,
      Settled (u.sighted T part) ∧ QueueLaw (u.sighted T part) := by
    intro bs u frame cfg divert lane mode T part
    exact State.sighted_ableKept (frame.settled cfg divert lane mode settled).1
      ((frame.fewer cfg divert lane mode).queueLaw law) T part
  have failed : Settled s.failedRead ∧ QueueLaw s.failedRead := by
    unfold State.failedRead
    split
    · exact settle (bs := [.tracker]) (by simp [SameExcept, State.unexpect]) (by simp) (by simp)
        (by simp) (by simp) _ _
    · exact ⟨settled, law⟩
  unfold State.readReport
  split
  · split
    · exact failed
    · split
      · unfold State.goodRead
        split
        · exact settle (s.matchRead_frame _) (by simp) (by simp) (by simp) (by simp) _ _
        · exact settle (.refl [] s) (by simp) (by simp) (by simp) (by simp) _ _
      · exact ⟨settled, law⟩
      · exact failed
      · exact failed
  · exact ⟨settled, law⟩

/-! ### The lane -/

theorem State.fieldEvent_ableKept {s u : State} {effect : State → State}
    (level : s.mode = .unconfigured → AbleKept s u) (mode : u.mode = s.mode)
    (h : u.mode ≠ .unconfigured → QueueLaw s → QueueLaw (effect u)) :
    AbleKept s (u.fieldEvent effect) := by
  unfold State.fieldEvent
  split
  · rename_i configured
    exact fun _ law => ⟨State.settleLane_settled _,
      (State.settleLane_fewer _).queueLaw (h (u.configured_iff.mp configured) law)⟩
  · rename_i unconfigured
    exact level (mode.symm.trans (not_not.mp fun h => unconfigured (u.configured_iff.mpr h)))

theorem sensorOf_setLevel (ss : Sensors) (x y : Sensor) (b : Bool) :
    sensorOf (setLevel ss x b) y =
      if x = y then { blocked := b, time := if b then (sensorOf ss y).time else none }
      else sensorOf ss y := by
  cases x <;> cases y <;> rfl

/-- In UNCONFIGURED no sensor is timed, whatever its level (R110). -/
theorem State.sensorLevel_ableKept {s : State} (hs : s.mode = .unconfigured) (x : Sensor)
    (b : Bool) : AbleKept s (s.sensorLevel x b) := by
  have quiet : ∀ y, s.accounted y = true := fun y => if_pos hs
  have quiet' : ∀ y, (s.sensorLevel x b).accounted y = true := fun y => if_pos hs
  have fewer : Fewer s (s.sensorLevel x b) := ⟨rfl, .rfl, le_rfl⟩
  refine fewer.ableKept fun ⟨able, drives, times⟩ => ⟨able, drives, fun y => ?_⟩
  rw [quiet', Bool.not_true, Bool.and_false]
  have still : (sensorOf s.lane.sensors y).time.isSome = false := by
    rw [times y, quiet, Bool.not_true, Bool.and_false]
  show (sensorOf (setLevel s.lane.sensors x b) y).time.isSome = false
  rw [sensorOf_setLevel]
  split
  · dsimp only
    split
    · exact still
    · rfl
  · exact still

theorem State.sensorEvent_ableKept {s : State} (x : Sensor) (b : Bool) {effect : State → State}
    (h : (s.sensorLevel x b).mode ≠ .unconfigured → QueueLaw (s.sensorLevel x b) →
      QueueLaw (effect (s.sensorLevel x b))) :
    AbleKept s ((s.sensorLevel x b).fieldEvent effect) :=
  State.fieldEvent_ableKept (fun hs => State.sensorLevel_ableKept hs x b) rfl
    fun hm law => h hm law

theorem State.newHeadCheck_fewer (s : State) : Fewer s s.newHeadCheck := by
  unfold State.newHeadCheck
  split
  · exact s.headTurnedUrgent_fewer
  · exact .refl _

theorem State.complete_fewer {s : State} {d : DivertRec} {rest : List DivertRec}
    (hd : s.divert.records = d :: rest) : Fewer s (s.complete d rest) := by
  have moved : ∀ q, Fewer s
      (({ s with divert := { s.divert with records := rest } } : State).pushRecord q) := by
    refine fun q => ⟨rfl, .rfl, ?_⟩
    simp only [State.queueRecords, State.pushRecord, State.withLane, hd, List.length_append,
      List.length_cons, List.length_nil]
    omega
  exact (State.fill_fewer _).after ((State.newHeadCheck_fewer _).after
    ((State.coldWork_fewer _ _).after ((State.request_fewer _ _ _).after (moved _))))

/-- A stray takes a queue place where there is one (R105). -/
theorem State.strayEntry_queueLaw {s : State} (hs : s.mode ≠ .unconfigured) (law : QueueLaw s) :
    QueueLaw s.strayEntry := by
  unfold State.strayEntry
  split
  · rename_i room
    dsimp only
    have pushed : QueueLaw (s.pushRecord (strayRec s.clock)) := by
      refine ⟨fun _ => ?_, fun h => absurd h hs⟩
      unfold State.queueRecords at *
      show _ + (s.lane.queue ++ _).length ≤ s.conf.c
      rw [List.length_append, List.length_singleton]
      show s.divert.records.length + _ ≤ _
      omega
    split
    · exact (State.enterSweeping_fewer (s := s.pushRecord _) hs _).queueLaw pushed
    · exact (State.fill_fewer _).queueLaw pushed
  · exact (s.jamLane_fewer _).queueLaw law

theorem State.entryBlocks_ableKept (s : State) : AbleKept s s.entryBlocks := by
  refine State.sensorEvent_ableKept .entry true (effect := fun s =>
    match s.divert.records with
    | d :: rest => s.complete d rest
    | [] => s.strayEntry) fun hm law => ?_
  split
  · rename_i records
    exact (State.complete_fewer records).queueLaw law
  · exact State.strayEntry_queueLaw hm law

theorem State.headBlocks_ableKept (s : State) : AbleKept s s.headBlocks := by
  refine State.sensorEvent_ableKept .head true (effect := fun s =>
    (s.withLane { s.lane with waits := { s.lane.waits with head := none } }).fill) fun _ law => ?_
  refine ((State.fill_fewer _).after (State.withLane_fewer _ ?_)).queueLaw law
  exact le_rfl

theorem State.arrive_fewer (s : State) (q : LaneRec) : Fewer s (s.arrive q) := by
  unfold State.arrive
  extract_lets _ _ s1 _ s2 s3
  have stood : Fewer s s1 := s.withLane_fewer le_rfl
  have presented : Fewer s s2 := Fewer.after (State.withLane_fewer s1 le_rfl) stood
  split
  · exact (State.beginRelease_fewer _).after stood
  · split
    · split
      · exact (State.preemptCheck_fewer _).after presented
      · exact (State.requestLine_fewer _).after ((State.preemptCheck_fewer _).after presented)
    · exact (State.requestLine_fewer _).after presented

theorem State.faceBlocks_ableKept (s : State) : AbleKept s s.faceBlocks := by
  refine State.sensorEvent_ableKept .face true (effect := fun s =>
    match s.lane.face, s.lane.faceRec with
    | .arriving, some q => s.arrive q
    | _, _ => if s.mode = .sweeping then s.fill else s) fun _ law => ?_
  split
  · exact (State.arrive_fewer _ _).queueLaw law
  · split
    · exact (State.fill_fewer _).queueLaw law
    · exact law

theorem State.parkBlocks_ableKept (s : State) : AbleKept s s.parkBlocks := by
  refine State.sensorEvent_ableKept .park true (effect := fun s =>
    if s.lane.face = .parking then s.parked else if s.mode = .sweeping then s.fill else s)
    fun _ law => ?_
  split
  · refine ((State.fill_fewer _).after (State.withLane_fewer _ ?_)).queueLaw law
    exact le_rfl
  · split
    · exact (State.fill_fewer _).queueLaw law
    · exact law

theorem State.exitBlocks_ableKept (s : State) : AbleKept s s.exitBlocks := by
  refine State.sensorEvent_ableKept .exit true (effect := fun s =>
    if s.mode = .sweeping then s.fill else s) fun _ law => ?_
  split
  · exact (State.fill_fewer _).queueLaw law
  · exact law

theorem State.leaves_fewer (s : State) (q : LaneRec) : Fewer s (s.leaves q) := by
  refine (State.sweepTest_fewer _).after ((State.drainTest_fewer _).after
    ((State.fill_fewer _).after (Fewer.after ((State.mergeOut_frame _ q).fewer (by simp) (by simp)
      (by simp) (by simp)) (s.withLane_fewer ?_))))
  exact le_rfl

theorem State.exitClears_ableKept (s : State) : AbleKept s s.exitClears := by
  refine State.sensorEvent_ableKept .exit false (effect := fun s =>
    match s.lane.face, s.lane.faceRec with
    | .leaving, some q => s.leaves q
    | _, _ => s.sweepTest) fun _ law => ?_
  split
  · exact (State.leaves_fewer _ _).queueLaw law
  · exact (State.sweepTest_fewer _).queueLaw law

theorem State.sensorClears_ableKept (s : State) (x : Sensor) : AbleKept s (s.sensorClears x) :=
  State.sensorEvent_ableKept x false fun _ law => (State.sweepTest_fewer _).queueLaw law

theorem State.mergeGap_ableKept (s : State) (g : Bool) :
    AbleKept s ((s.withLane { s.lane with gap := g }).fieldEvent State.tryLeave) := by
  have level : Fewer s (s.withLane { s.lane with gap := g }) := s.withLane_fewer le_rfl
  exact State.fieldEvent_ableKept
    (fun _ => level.ableKept fun h => h.withLane rfl rfl rfl rfl rfl rfl rfl) rfl
    fun _ law => ((State.tryLeave_fewer _).after level).queueLaw law

/-! ### Pulses, ticks and picking -/

theorem State.divertStep_fewer (s : State) : Fewer s s.divertStep := by
  unfold State.divertStep
  split
  · exact .refl _
  · rename_i d rest hd
    split
    · unfold State.timeOut
      extract_lets s1 _ s2 s3
      have divert : s1.divert = s.divert := (State.raise_frame _ _ _).divert_eq (by simp)
      have gone : Fewer s1 s2 := by
        refine ⟨rfl, .rfl, ?_⟩
        show rest.length + s1.lane.queue.length ≤ s1.divert.records.length + _
        rw [divert, hd, List.length_cons]
        omega
      exact (State.place_fewer _ _).after ((State.request_fewer _ _ _).after
        (gone.after (State.raise_fewer _ _ _)))
    · exact .refl _

theorem State.divertSteps_fewer (n : Nat) (s : State) : Fewer s (State.divertSteps n s) := by
  induction n generalizing s with
  | zero => exact .refl _
  | succ n ih => exact (ih _).after s.divertStep_fewer

theorem State.pulse_ableKept (s : State) : AbleKept s s.pulse := by
  have counted : AbleKept s s.advanceCount :=
    s.advanceCount_frame.ableKept (by simp) (by simp) (by simp) (by simp)
  unfold State.pulse
  extract_lets s1 s2
  split
  · refine AbleKept.after (Fewer.settled ?_) counted
    exact (State.drainTest_fewer _).after ((State.divertSteps_fewer _ _).after
      ((State.overdueSteps_frame _ _).fewer (by simp) (by simp) (by simp) (by simp)))
  · exact counted

theorem State.tick_ableKept (s : State) : AbleKept s s.tick := by
  have clock : AbleKept s s.advanceClock :=
    s.advanceClock_frame.ableKept (by simp) (by simp) (by simp) (by simp)
  unfold State.tick
  extract_lets s1 s2 s3
  split
  · refine AbleKept.after (Fewer.settled ?_) clock
    have stalled : ∀ u : State, Fewer u u.stallWork := fun u => by
      unfold State.stallWork
      split
      · exact .refl _
      · split
        · exact (State.raise_fewer _ _ _).after (u.withLane_fewer le_rfl)
        · exact .refl _
    have waited : ∀ u : State, Fewer u u.countMergeWait := fun u => by
      unfold State.countMergeWait
      split
      · exact u.withLane_fewer le_rfl
      · exact .refl _
    have aged : Fewer s1 s1.ageStations.ageEntries := ⟨rfl, .rfl, le_rfl⟩
    exact ((State.countRefresh_frame _).fewer (by simp) (by simp) (by simp) (by simp)).after
      ((State.checkWants_fewer _ _).after ((State.reurgent_fewer _ _).after
        ((Fewer.foldl State.coldWork_fewer _ _).after ((stalled _).after ((waited _).after aged)))))
  · exact clock

theorem State.coldAlertWork_ableKept (s : State) (T : ToteNo) : AbleKept s (s.coldAlertWork T) := by
  refine (s.coldAlertWork_fewer T).ableKept fun settled => ?_
  unfold State.coldAlertWork
  split
  · split
    · refine (State.raise_frame _ _ _).settled (by simp) (by simp) (by simp) (by simp)
        (settled.withLane rfl rfl (by simp) ?_ (by simp) rfl rfl)
      cases s.lane.faceRec with
      | none => rfl
      | some q =>
        dsimp only [Option.map]
        split <;> rfl
    · exact settled
  · exact settled

theorem State.stallWork_ableKept (s : State) : AbleKept s s.stallWork := by
  unfold State.stallWork
  split
  · exact .refl _
  · rename_i q hq
    split
    · have marked : AbleKept s (s.withLane { s.lane with faceRec := some { q with stallMark := true } }) :=
        Fewer.ableKept ⟨rfl, .rfl, le_rfl⟩ fun settled =>
          settled.withLane rfl rfl rfl (by rw [hq]; rfl) rfl rfl rfl
      exact ((State.raise_frame _ _ _).ableKept (by simp) (by simp) (by simp) (by simp)).after marked
    · exact .refl _

theorem State.passAll_ableKept (n : Nat) (s : State) : AbleKept s (State.passAll n s) := by
  induction n generalizing s with
  | zero => exact .refl _
  | succ n ih =>
    refine (ih _).after (s.passMs_fewer.ableKept fun settled => ?_)
    unfold State.passMs
    split
    · exact State.settleLane_settled _
    · exact settled

theorem State.passMs_ableKept (s : State) : AbleKept s s.passMs := s.passAll_ableKept 1

theorem State.countPut_ableKept (s : State) (l : Line) : AbleKept s (s.countPut l) := by
  have puts : SameExcept [.demand] s (s.setPuts l.tag (l.puts + 1)) := s.withLines_frame _
  unfold State.countPut
  dsimp only
  split
  · exact (SameExcept.step (bs := [.picker]) (cs := [.demand, .picker]) puts (by simp [SameExcept])
      (by simp) (by simp)).ableKept (by simp) (by simp) (by simp) (by simp)
  · exact Fewer.settled ((State.lineBoundary_fewer _ _).after ((State.leaveActive_fewer _).after
      ((State.raise_fewer _ _ _).after ((State.setLineState_fewer _ _ _).after
        (puts.fewer (by simp) (by simp) (by simp) (by simp))))))

theorem State.beamBreak_ableKept (s : State) (k : PutIdx) : AbleKept s (s.beamBreak k) := by
  have raised : ∀ (u : State) n d, AbleKept u (u.raise n d) := fun u n d =>
    (u.raise_frame n d).ableKept (by simp) (by simp) (by simp) (by simp)
  have judged : ∀ u : State, AbleKept u (u.judgeBreak k) := by
    intro u
    unfold State.judgeBreak
    split
    · exact .refl _
    · split
      · exact raised _ _ _
      · split
        · split
          · exact u.countPut_ableKept _
          · exact raised _ _ _
        · exact raised _ _ _
  have broken : ∀ f, AbleKept s (s.setBeam k f) := fun f =>
    (s.setBeam_frame k f).ableKept (by simp) (by simp) (by simp) (by simp)
  unfold State.beamBreak
  split
  · exact (judged _).after (broken _)
  · exact broken _

theorem State.shortKey_ableKept (s : State) : AbleKept s s.shortKey := by
  unfold State.shortKey
  split
  · exact .refl _
  · exact Fewer.settled ((State.lineBoundary_fewer _ _).after ((State.leaveActive_fewer _).after
      ((State.raise_fewer _ _ _).after (s.setLineState_fewer _ _))))

theorem exec_ableKept (i : Instr) (s : State) : ∃ t, exec i s = .next t ∧ AbleKept s t := by
  by_cases apart : Block.cfg ∉ commandBlocks i ∧ Block.divert ∉ commandBlocks i ∧
      Block.lane ∉ commandBlocks i ∧ Block.modeCtl ∉ commandBlocks i
  · obtain ⟨t, run, frame⟩ := exec_frame i s
    obtain ⟨cfg, divert, lane, mode⟩ := apart
    exact ⟨t, run, frame.ableKept cfg divert lane mode⟩
  cases i with
  | powerOnReset => exact ⟨_, rfl, s.powerOn_ableKept⟩
  | transaction bits =>
    exact ⟨_, rfl, (State.takeFrame_ableKept _ _).after (Fewer.ableKept ⟨rfl, .rfl, le_rfl⟩ id)⟩
  | badFrame bytes => exact ⟨_, rfl, s.takeFrame_ableKept bytes⟩
  | configure f => exact ⟨_, rfl, s.configure_ableKept f⟩
  | setTime t => exact ⟨_, rfl, s.setTime_ableKept t⟩
  | restart => exact ⟨_, rfl, s.restart_ableKept⟩
  | loadLine tag tote handle cls qty prio =>
    exact ⟨_, rfl, s.loadLine_ableKept tag tote handle cls qty prio⟩
  | cancelLine tag => exact ⟨_, rfl, s.cancelLine_ableKept tag⟩
  | placeOrder h position deadline => exact ⟨_, rfl, s.placeOrder_ableKept h position deadline⟩
  | releaseFace => exact ⟨_, rfl, s.releaseFace_ableKept⟩
  | rest => exact ⟨_, rfl, s.restCommand_ableKept⟩
  | wake => exact ⟨_, rfl, s.wakeCommand_ableKept⟩
  | clearJam => exact ⟨_, rfl, s.clearJam_ableKept⟩
  | encoderPulse => exact ⟨_, rfl, s.pulse_ableKept⟩
  | divertTimeout =>
    refine ⟨_, rfl, ?_⟩
    split
    · exact ((State.drainTest_fewer _).after s.divertStep_fewer).settled
    · exact .refl _
  | oneSecondTick => exact ⟨_, rfl, s.tick_ableKept⟩
  | coldAlert T => exact ⟨_, rfl, s.coldAlertWork_ableKept T⟩
  | coldBreach T =>
    refine ⟨_, rfl, ?_⟩
    split
    · exact ((State.reurgent_fewer _ _).after (s.breach_fewer T)).settled
    · exact .refl _
  | mergeStall => exact ⟨_, rfl, s.stallWork_ableKept⟩
  | laneJam w => exact ⟨_, rfl, State.passAll_ableKept _ s⟩
  | unaccountedSensor x => exact ⟨_, rfl, State.passAll_ableKept _ s⟩
  | settleEnd k => exact ⟨_, rfl, State.passAll_ableKept _ s⟩
  | beamStuck k => exact ⟨_, rfl, State.passAll_ableKept _ s⟩
  | beamRecovered k => exact ⟨_, rfl, State.passAll_ableKept _ s⟩
  | readerEvent r => exact ⟨_, rfl, s.readReport_ableKept r⟩
  | entrySeen => exact ⟨_, rfl, s.entryBlocks_ableKept⟩
  | headBlocked => exact ⟨_, rfl, s.headBlocks_ableKept⟩
  | faceArrived => exact ⟨_, rfl, s.faceBlocks_ableKept⟩
  | parkArrived => exact ⟨_, rfl, s.parkBlocks_ableKept⟩
  | merged => exact ⟨_, rfl, s.exitClears_ableKept⟩
  | mergeGap g => exact ⟨_, rfl, s.mergeGap_ableKept g⟩
  | sensorBlocked x =>
    refine ⟨_, rfl, ?_⟩
    cases x with
    | entry => exact s.entryBlocks_ableKept
    | head => exact s.headBlocks_ableKept
    | face => exact s.faceBlocks_ableKept
    | park => exact s.parkBlocks_ableKept
    | exit => exact s.exitBlocks_ableKept
  | sensorClear x =>
    refine ⟨_, rfl, ?_⟩
    cases x with
    | exit => exact s.exitClears_ableKept
    | entry => exact s.sensorClears_ableKept .entry
    | head => exact s.sensorClears_ableKept .head
    | face => exact s.sensorClears_ableKept .face
    | park => exact s.sensorClears_ableKept .park
  | beamBreak k => exact ⟨_, rfl, s.beamBreak_ableKept k⟩
  | shortKey =>
    refine ⟨_, rfl, ?_⟩
    split
    · exact s.shortKey_ableKept
    · exact .refl _
  | logonKey => exact ⟨_, rfl, s.wakeUp_ableKept⟩
  | _ =>
    exact (apart ⟨by simp [commandBlocks], by simp [commandBlocks], by simp [commandBlocks],
      by simp [commandBlocks]⟩).elim

end Sys2Proof.Machine
end

section
/-! PROOFS. Every step keeps the laws of the face and its ACTIVE line (O60): a line leaves ACTIVE and its lights go
out before the face leaves PRESENTING, and the next line is lit before the event ends. -/

namespace Sys2Proof.Machine

/-! ### The law of the ACTIVE line, with a line and without -/

/-- R16, R18, R111, R146: what the steps need beside the law of the ACTIVE line. -/
def Grounded (s : State) : Prop := LinesLaw s ∧ LaneLaw s

def NoneActive (s : State) : Prop := ∀ l ∈ s.demand.lines, l.state ≠ .active

/-- R19: a SUSPENDED line is placed. -/
def SuspendedPlaced (s : State) : Prop :=
  ∀ l ∈ s.demand.lines, l.state = .suspended → isPlaced s.puts l.handle = true

/-- R131: the lights of no ACTIVE line. -/
def LightsOff (s : State) : Prop :=
  s.picker.active = none ∧ s.picker.putLight = none ∧ s.picker.toteLight = false ∧
    s.picker.display = none

/-- R19, R131: the line is the only ACTIVE one, placed and of the face tote, and the lights are its. -/
structure LitBy (l : Line) (s : State) : Prop where
  mem : l ∈ s.demand.lines
  active : l.state = .active
  only : ∀ m ∈ s.demand.lines, m.state = .active → m = l
  placed : isPlaced s.puts l.handle = true
  tote : s.lane.faceRec.map LaneRec.tote = some l.tote
  position : s.picker.active = positionOf s.puts l.handle
  putLight : s.picker.putLight = positionOf s.puts l.handle
  toteLight : s.picker.toteLight = true
  display : s.picker.display = some (l.qty - l.puts)

theorem presentLaw_iff (s : State) : PresentLaw s ↔ SuspendedPlaced s ∧
    (s.lane.face = .presenting ∧ (∃ l, LitBy l s) ∨
      s.lane.face ≠ .presenting ∧ NoneActive s ∧ LightsOff s) := by
  constructor
  · rintro ⟨face, tote, only, placed, lights, dark⟩
    refine ⟨fun l hl h => placed l hl (.inr h), ?_⟩
    by_cases hf : s.lane.face = .presenting
    · obtain ⟨l, hl, active⟩ := face.mp hf
      obtain ⟨q, hq, same⟩ := tote l hl active
      obtain ⟨position, put, light, display⟩ := lights l hl active
      exact .inl ⟨hf, l, hl, active, fun m hm h => only m hm l hl h active, placed l hl (.inl active),
        by rw [hq, Option.map_some, same], position, put.trans position, light, display⟩
    · exact .inr ⟨hf, fun l hl active => hf (face.mpr ⟨l, hl, active⟩), dark hf⟩
  · rintro ⟨suspended, ⟨hf, l, lit⟩ | ⟨hf, none, dark⟩⟩
    · have is_ : ∀ m ∈ s.demand.lines, m.state = .active → m = l := lit.only
      obtain ⟨q, hq, same⟩ : ∃ q, s.lane.faceRec = some q ∧ q.tote = l.tote := by
        simpa using lit.tote
      refine ⟨⟨fun _ => ⟨l, lit.mem, lit.active⟩, fun _ => hf⟩, fun m hm h => ?_,
        fun m hm n hn h k => (is_ m hm h).trans (is_ n hn k).symm, fun m hm h => ?_, fun m hm h => ?_,
        fun h => absurd hf h⟩
      · rw [is_ m hm h]
        exact ⟨q, hq, same⟩
      · rcases h with h | h
        · rw [is_ m hm h]
          exact lit.placed
        · exact suspended m hm h
      · rw [is_ m hm h]
        exact ⟨lit.position, lit.putLight.trans lit.position.symm, lit.toteLight, lit.display⟩
    · refine ⟨⟨fun h => absurd h hf, fun ⟨l, hl, h⟩ => absurd h (none l hl)⟩,
        fun l hl h => absurd h (none l hl), fun l hl _ _ h => absurd h (none l hl),
        fun l hl h => h.elim (fun h => absurd h (none l hl)) (suspended l hl),
        fun l hl h => absurd h (none l hl), fun _ => dark⟩

/-- The laws of the lines, the face and its ACTIVE line. -/
def Lawful (s : State) : Prop := Grounded s ∧ PresentLaw s

/-- Between a line's leaving ACTIVE and the next one: no line ACTIVE, whatever the face. -/
def Idle (s : State) : Prop := Grounded s ∧ SuspendedPlaced s ∧ NoneActive s

/-- The same with the lights off. -/
def Dark (s : State) : Prop := Idle s ∧ LightsOff s

theorem Dark.lawful {s : State} (h : Dark s) (face : s.lane.face ≠ .presenting) : Lawful s :=
  ⟨h.1.1, (presentLaw_iff s).mpr ⟨h.1.2.1, .inr ⟨face, h.1.2.2, h.2⟩⟩⟩

theorem Lawful.dark {s : State} (h : Lawful s) (face : s.lane.face ≠ .presenting) : Dark s := by
  obtain ⟨standing, present⟩ := h
  obtain ⟨suspended, ⟨hf, -⟩ | ⟨-, none, off⟩⟩ := (presentLaw_iff s).mp present
  · exact absurd hf face
  · exact ⟨⟨standing, suspended, none⟩, off⟩

theorem Lawful.lit {s : State} (h : Lawful s) (face : s.lane.face = .presenting) :
    ∃ l, LitBy l s := by
  obtain ⟨-, ⟨-, lit⟩ | ⟨hf, -⟩⟩ := (presentLaw_iff s).mp h.2
  · exact lit
  · exact absurd face hf

theorem LitBy.activeLine {s : State} {l : Line} (h : LitBy l s) :
    activeLine s.demand.lines = some l := activeLine_of_unique h.mem h.active h.only

theorem NoneActive.activeLine {s : State} (h : NoneActive s) : activeLine s.demand.lines = none := by
  cases ha : Sys2Proof.Machine.activeLine s.demand.lines with
  | none => rfl
  | some l => exact absurd (activeLine_mem ha).2 (h l (activeLine_mem ha).1)

/-- The ACTIVE line that the state finds is the lit one (R19). -/
theorem Lawful.of_activeLine {s : State} (h : Lawful s) {l : Line}
    (hl : activeLine s.demand.lines = some l) : s.lane.face = .presenting ∧ LitBy l s := by
  by_cases face : s.lane.face = .presenting
  · obtain ⟨m, lit⟩ := h.lit face
    rw [lit.activeLine] at hl
    cases hl
    exact ⟨face, lit⟩
  · rw [(h.dark face).1.2.2.activeLine] at hl
    cases hl

/-! ### What the laws go by -/

/-- What the law of the lane goes by: the face, whether it has a record, the mode and the empty lane. -/
structure SameFace (s t : State) : Prop where
  mode : t.mode = s.mode
  face : t.lane.face = s.lane.face
  tote : t.lane.faceRec.map LaneRec.tote = s.lane.faceRec.map LaneRec.tote
  empty : s.laneEmpty = true → t.laneEmpty = true

/-- What the laws go by is as it was but for the lights. -/
structure SameLines (s t : State) : Prop extends SameFace s t where
  lines : t.demand.lines = s.demand.lines
  orders : ∀ h, positionOf t.puts h = positionOf s.puts h

def SameLights (s t : State) : Prop :=
  t.picker.active = s.picker.active ∧ t.picker.putLight = s.picker.putLight ∧
    t.picker.toteLight = s.picker.toteLight ∧ t.picker.display = s.picker.display

/-- What the laws go by is as it was. -/
structure Same (s t : State) : Prop extends SameLines s t where
  lights : SameLights s t

theorem SameFace.trans {s t u : State} (h : SameFace s t) (k : SameFace t u) : SameFace s u :=
  ⟨k.mode.trans h.mode, k.face.trans h.face, k.tote.trans h.tote, k.empty ∘ h.empty⟩

theorem SameLines.trans {s t u : State} (h : SameLines s t) (k : SameLines t u) : SameLines s u :=
  ⟨h.toSameFace.trans k.toSameFace, k.lines.trans h.lines, fun x => (k.orders x).trans (h.orders x)⟩

theorem Same.refl (s : State) : Same s s :=
  ⟨⟨⟨rfl, rfl, rfl, id⟩, rfl, fun _ => rfl⟩, rfl, rfl, rfl, rfl⟩

theorem Same.trans {s t u : State} (h : Same s t) (k : Same t u) : Same s u := by
  obtain ⟨active, put, tote, display⟩ := h.lights
  obtain ⟨active', put', tote', display'⟩ := k.lights
  exact ⟨h.toSameLines.trans k.toSameLines, active'.trans active, put'.trans put, tote'.trans tote,
    display'.trans display⟩

theorem Same.after {s t u : State} (k : Same t u) (h : Same s t) : Same s u := h.trans k

theorem Same.foldl {α : Type} {f : State → α → State} (hf : ∀ s a, Same s (f s a)) (l : List α)
    (s : State) : Same s (l.foldl f s) := by
  induction l generalizing s with
  | nil => exact .refl _
  | cons a l ih => exact (hf s a).trans (ih _)

theorem SameFace.laneLaw {s t : State} (h : SameFace s t) (law : LaneLaw s) : LaneLaw t := by
  obtain ⟨record, empty⟩ := law
  have some_ : t.lane.faceRec.isSome = s.lane.faceRec.isSome := by
    simpa using congrArg Option.isSome h.tote
  refine ⟨by rw [some_, h.face]; exact record, fun hm => h.empty (empty ?_)⟩
  rwa [← h.mode]

theorem SameLines.standing {s t : State} (h : SameLines s t) (k : Grounded s) : Grounded t :=
  ⟨k.1.of_lines_eq h.lines, h.toSameFace.laneLaw k.2⟩

theorem SameLines.isPlaced {s t : State} (h : SameLines s t) (x : Handle) :
    isPlaced t.puts x = Sys2Proof.Machine.isPlaced s.puts x := by
  unfold Sys2Proof.Machine.isPlaced
  rw [h.orders]

theorem SameLines.idle {s t : State} (h : SameLines s t) (k : Idle s) : Idle t := by
  obtain ⟨standing, suspended, none⟩ := k
  refine ⟨h.standing standing, fun l hl hs => ?_, ?_⟩
  · rw [h.lines] at hl
    rw [h.isPlaced]
    exact suspended l hl hs
  · unfold NoneActive
    rwa [h.lines]

theorem SameLights.off {s t : State} (h : SameLights s t) (k : LightsOff s) : LightsOff t := by
  obtain ⟨active, put, tote, display⟩ := h
  unfold LightsOff
  rwa [active, put, tote, display]

theorem Same.dark {s t : State} (h : Same s t) (k : Dark s) : Dark t :=
  ⟨h.idle k.1, h.lights.off k.2⟩

theorem Same.litBy {s t : State} (h : Same s t) {l : Line} (k : LitBy l s) : LitBy l t := by
  obtain ⟨active, put, tote, display⟩ := h.lights
  exact ⟨h.lines ▸ k.mem, k.active, h.lines ▸ k.only, h.isPlaced l.handle ▸ k.placed,
    h.tote.trans k.tote, by rw [active, h.orders, k.position], by rw [put, h.orders, k.putLight],
    tote.trans k.toteLight, display.trans k.display⟩

theorem Same.lawful {s t : State} (h : Same s t) (k : Lawful s) : Lawful t := by
  by_cases face : s.lane.face = .presenting
  · obtain ⟨l, lit⟩ := k.lit face
    obtain ⟨suspended, -⟩ := (presentLaw_iff s).mp k.2
    refine ⟨h.standing k.1, (presentLaw_iff t).mpr ⟨fun m hm hs => ?_,
      .inl ⟨h.face.trans face, l, h.litBy lit⟩⟩⟩
    rw [h.lines] at hm
    rw [h.isPlaced]
    exact suspended m hm hs
  · exact (h.dark (k.dark face)).lawful (h.face ▸ face)

/-! ### Operations that leave what the laws go by -/

theorem SameExcept.sameFace {bs : List Block} {s t : State} (h : SameExcept bs s t)
    (divert : Block.divert ∉ bs) (lane : Block.lane ∉ bs) (mode : Block.modeCtl ∉ bs) :
    SameFace s t := by
  have hl := h.lane_eq lane
  refine ⟨h.mode_eq mode, by rw [hl], by rw [hl], ?_⟩
  unfold State.laneEmpty
  rw [hl, h.divert_eq divert]
  exact id

/-- A change outside the Demand Table, the Put Map, the picker, the records and the mode. -/
theorem SameExcept.same {bs : List Block} {s t : State} (h : SameExcept bs s t)
    (demand : Block.demand ∉ bs) (puts : Block.puts ∉ bs) (picker : Block.picker ∉ bs)
    (divert : Block.divert ∉ bs) (lane : Block.lane ∉ bs) (mode : Block.modeCtl ∉ bs) :
    Same s t := by
  have hp := h.picker_eq picker
  refine ⟨⟨h.sameFace divert lane mode, by rw [h.demand_eq demand], fun x => by rw [h.puts_eq puts]⟩,
    ?_, ?_, ?_, ?_⟩ <;> rw [hp]

theorem State.raise_same (s : State) (n : NoticeSource) (d : BitVec 32) : Same s (s.raise n d) :=
  (s.raise_frame n d).same (by simp) (by simp) (by simp) (by simp) (by simp) (by simp)

theorem State.request_same (s : State) (T : ToteNo) (b : FrameBody) : Same s (s.request T b) :=
  (s.request_frame T b).same (by simp) (by simp) (by simp) (by simp) (by simp) (by simp)

theorem State.deriveWant_same (s : State) (T : ToteNo) : Same s (s.deriveWant T) := by
  have frame := s.deriveWant_frame T
  have hp := frame.picker_eq (by simp)
  refine ⟨⟨frame.sameFace (by simp) (by simp) (by simp), s.deriveWant_lines T, fun x => ?_⟩,
    ?_, ?_, ?_, ?_⟩
  · rw [frame.puts_eq (by simp)]
  all_goals rw [hp]

theorem State.announce_same (s : State) (T : ToteNo) (W : Nat) : Same s (s.announce T W) := by
  refine (State.request_same _ _ _).after ?_
  exact ⟨⟨⟨rfl, rfl, rfl, id⟩, rfl, fun _ => rfl⟩, rfl, rfl, rfl, rfl⟩

theorem State.checkWant_same (s : State) (T : ToteNo) : Same s (s.checkWant T) := by
  have frame := s.checkWant_frame T
  have hp := frame.picker_eq (by simp)
  refine ⟨⟨frame.sameFace (by simp) (by simp) (by simp), s.checkWant_lines T, fun x => ?_⟩,
    ?_, ?_, ?_, ?_⟩
  · rw [frame.puts_eq (by simp)]
  all_goals rw [hp]

theorem State.checkWants_same (s : State) (p : ToteNo → Bool) : Same s (s.checkWants p) :=
  .foldl State.checkWant_same _ _

theorem State.reready_same (s : State) (h : Handle) : Same s (s.reready h) := by
  have frame := s.reready_frame h
  have hp := frame.picker_eq (by simp)
  refine ⟨⟨frame.sameFace (by simp) (by simp) (by simp), by rw [s.reready_demand],
    (s.reready_orders h).positionOf_eq⟩, ?_, ?_, ?_, ?_⟩ <;> rw [hp]

/-- A lane with the same face, the same face tote, and empty where it was. -/
theorem State.withLane_same (s : State) {l : Lane} (face : l.face = s.lane.face)
    (tote : l.faceRec.map LaneRec.tote = s.lane.faceRec.map LaneRec.tote)
    (empty : s.laneEmpty = true → (s.withLane l).laneEmpty = true) : Same s (s.withLane l) :=
  ⟨⟨⟨rfl, face, tote, empty⟩, rfl, fun _ => rfl⟩, rfl, rfl, rfl, rfl⟩

theorem State.settleLane_same (s : State) : Same s s.settleLane := by
  obtain ⟨d, ss, lane⟩ := s.settleLane_lane
  have frame := s.settleLane_frame
  have hp := frame.picker_eq (by simp)
  refine ⟨⟨⟨s.settleLane_mode, by rw [lane], by rw [lane], ?_⟩, ?_, fun x => ?_⟩, ?_, ?_, ?_, ?_⟩
  · unfold State.laneEmpty
    rw [lane, frame.divert_eq (by simp)]
    exact id
  · rw [frame.demand_eq (by simp)]
  · rw [frame.puts_eq (by simp)]
  all_goals rw [hp]

theorem State.updRecs_same (s : State) {f : LaneRec → LaneRec} (hf : ∀ q, (f q).tote = q.tote) :
    Same s (s.updRecs f) := by
  refine s.withLane_same rfl ?_ ?_
  · cases s.lane.faceRec with
    | none => rfl
    | some q => simp [hf]
  · simp [State.laneEmpty, State.withLane]

theorem State.sensorLevel_same (s : State) (x : Sensor) (b : Bool) : Same s (s.sensorLevel x b) :=
  s.withLane_same rfl rfl id

theorem State.coldAlertWork_same (s : State) (T : ToteNo) : Same s (s.coldAlertWork T) := by
  unfold State.coldAlertWork
  split
  · split
    · exact (State.raise_same _ _ _).after (s.updRecs_same fun q => by split <;> rfl)
    · exact .refl _
  · exact .refl _

theorem State.jamLane_same (s : State) (x : Sensor) : Same s (s.jamLane x) := by
  unfold State.jamLane
  split
  · exact .refl _
  · exact (State.raise_same _ _ _).after (s.withLane_same rfl rfl id)

/-! ### A line leaves ACTIVE -/

/-- No line ACTIVE and the lights off, whatever the face. -/
def Unlit (s : State) : Prop :=
  LinesLaw s ∧ SuspendedPlaced s ∧ NoneActive s ∧ LightsOff s

theorem dark_iff (s : State) : Dark s ↔ Unlit s ∧ LaneLaw s := by
  unfold Dark Idle Grounded Unlit
  tauto

theorem Unlit.relaned {s t : State} (h : Unlit s) (frame : SameExcept [.lane] s t) : Unlit t := by
  obtain ⟨lines, suspended, none, off⟩ := h
  unfold Unlit LinesLaw SuspendedPlaced NoneActive LightsOff
  rw [frame.demand_eq (by simp), frame.puts_eq (by simp), frame.picker_eq (by simp)]
  exact ⟨lines, suspended, none, off⟩

/-- A face with its record, in a mode that may have one. -/
theorem Unlit.lawful {s : State} (h : Unlit s) (record : s.lane.faceRec.isSome = true)
    (face : s.lane.face ≠ .empty ∧ s.lane.face ≠ .parking) (presenting : s.lane.face ≠ .presenting)
    (live : ¬ (s.mode = .rest ∨ s.mode = .unconfigured)) : Lawful s :=
  ((dark_iff s).mpr ⟨h, ⟨fun _ => face, fun _ => record⟩, fun hm => absurd hm live⟩).lawful
    presenting

/-- A face without a record. -/
theorem Unlit.lawful_of_none {s : State} (h : Unlit s) (record : s.lane.faceRec = none)
    (face : s.lane.face = .empty ∨ s.lane.face = .parking)
    (empty : s.mode = .rest ∨ s.mode = .unconfigured → s.laneEmpty = true) : Lawful s := by
  refine ((dark_iff s).mpr ⟨h, ⟨fun hr => ?_, fun hf => ?_⟩, empty⟩).lawful ?_
  · rw [record] at hr
    cases hr
  · rcases face with e | e
    · exact absurd e hf.1
    · exact absurd e hf.2
  · rcases face with e | e <;> rw [e] <;> decide

/-- A face that is not EMPTY stands in a mode with work (R146). -/
theorem LaneLaw.live {s : State} (h : LaneLaw s) (face : s.lane.face ≠ .empty) :
    ¬ (s.mode = .rest ∨ s.mode = .unconfigured) := by
  intro hm
  have empty := h.2 hm
  simp only [State.laneEmpty, Bool.and_eq_true, beq_iff_eq] at empty
  exact face empty.2

theorem LaneLaw.faceRec {s : State} (h : LaneLaw s) (face : s.lane.face = .presenting) :
    ∃ q, s.lane.faceRec = some q :=
  Option.isSome_iff_exists.mp (h.1.mpr (by rw [face]; exact ⟨by decide, by decide⟩))

theorem State.withLines_sameFace (s : State) (ls : List Line) : SameFace s (s.withLines ls) :=
  ⟨rfl, rfl, rfl, id⟩

/-- The ACTIVE line changes, and is ACTIVE no more. -/
theorem LitBy.idle_of_map {s : State} {l : Line} (lit : LitBy l s) (h : Lawful s) {f : Line → Line}
    (lines : LinesLaw (s.withLines (s.demand.lines.map f)))
    (own : ∀ n, n.tag = l.tag → (f n).state ≠ .active ∧ (f n).handle = n.handle)
    (others : ∀ n, n.tag ≠ l.tag → f n = n) : Idle (s.withLines (s.demand.lines.map f)) := by
  obtain ⟨⟨law, lane⟩, present⟩ := h
  obtain ⟨suspended, -⟩ := (presentLaw_iff s).mp present
  refine ⟨⟨lines, (s.withLines_sameFace _).laneLaw lane⟩, fun m hm hs => ?_, fun m hm => ?_⟩
  all_goals obtain ⟨n, hn, rfl⟩ := List.mem_map.mp hm
  · by_cases tag : n.tag = l.tag
    · obtain rfl : n = l := eq_of_tag_eq law.2.1 hn lit.mem tag
      rw [(own n rfl).2]
      exact lit.placed
    · rw [others n tag] at hs ⊢
      exact suspended n hn hs
  · by_cases tag : n.tag = l.tag
    · exact (own n tag).1
    · rw [others n tag]
      exact fun active => tag (by rw [lit.only n hn active])

/-- The ACTIVE line takes another state. -/
theorem LitBy.idle {s : State} {l : Line} (lit : LitBy l s) (h : Lawful s) {x : LineState}
    (hx : x ≠ .active) : Idle (s.setLineState l.tag x) := by
  have kept : DemandKept [l.tote] [l.handle] s (s.setLineState l.tag x) :=
    State.setLineState_demandKept lit.mem (by rw [lit.active]; decide)
      (fun h => absurd (.head _) h) fun h => absurd (.head _) h
  refine lit.idle_of_map h (kept.lines h.1.1) (fun n tag => ?_) fun n tag => if_neg tag
  rw [if_pos tag]
  exact ⟨hx, rfl⟩

/-- The lights go out (R132). -/
theorem Idle.leaveActive {s : State} (h : Idle s) : Dark s.leaveActive := by
  have same : SameLines s s.leaveActive := ⟨⟨rfl, rfl, rfl, id⟩, rfl, fun _ => rfl⟩
  exact ⟨same.idle h, rfl, rfl, rfl, rfl⟩

/-- The ACTIVE line leaves ACTIVE and the lights go out, the face PRESENTING still. -/
theorem Lawful.leaveActive {s : State} (h : Lawful s) {l : Line}
    (hl : activeLine s.demand.lines = some l) {x : LineState} (hx : x ≠ .active) :
    Dark ((s.setLineState l.tag x).leaveActive) :=
  ((h.of_activeLine hl).2.idle h hx).leaveActive

/-! ### The park and the preemption check (R115, R116) -/

/-- Parked from a state whose line is ACTIVE or none is (R116). -/
theorem State.parkFace_lawful {s : State} (h : Lawful s ∨ Dark s) (mode : s.mode = .active)
    {q : LaneRec} (hq : s.lane.faceRec = some q) :
    Lawful s.parkFace ∧ s.parkFace.lane.face = .parking := by
  unfold State.parkFace
  rw [hq]
  extract_lets a s1
  have unlit : Unlit s1 ∧ s1.mode = s.mode := by
    cases ha : activeLine s.demand.lines with
    | some l =>
      have parked : s1 = (s.setLineState l.tag .suspended).leaveActive := by
        simp only [s1, a, ha]
      rw [parked]
      refine ⟨((dark_iff _).mp ?_).1, rfl⟩
      rcases h with h | h
      · exact h.leaveActive ha (by decide)
      · rw [h.1.2.2.activeLine] at ha
        cases ha
    | none =>
      have parked : s1 = s := by simp only [s1, a, ha]
      rw [parked]
      refine ⟨((dark_iff _).mp (h.elim (fun h => h.dark fun face => ?_) id)).1, rfl⟩
      obtain ⟨l, lit⟩ := h.lit face
      rw [lit.activeLine] at ha
      cases ha
  refine ⟨(unlit.1.relaned (s1.withLane_frame _)).lawful_of_none rfl (.inr rfl) fun hm => ?_, rfl⟩
  have live : s1.mode = .active := unlit.2.trans mode
  rcases hm with e | e
  · exact absurd (live.symm.trans e) (by decide)
  · exact absurd (live.symm.trans e) (by decide)

/-- The preemption check parks the face tote or leaves what the laws go by. -/
theorem State.preemptCheck_cases {s : State} (h : Lawful s ∨ Dark s) :
    Lawful s.preemptCheck ∧ s.preemptCheck.lane.face = .parking ∨ Same s s.preemptCheck := by
  unfold State.preemptCheck
  split
  · rename_i wanted
    simp only [State.preemptWanted, Bool.and_eq_true, beq_iff_eq] at wanted
    obtain ⟨⟨⟨⟨mode, -⟩, -⟩, -⟩, record⟩ := wanted
    obtain ⟨q, hq, -⟩ : ∃ q, s.lane.faceRec = some q ∧ _ := by simpa [Option.any_eq_true] using record
    split
    · exact .inl (State.parkFace_lawful h mode hq)
    · rename_i queue
      split
      · exact .inr (.refl s)
      · refine .inr ((State.raise_same _ _ _).after (s.withLane_same rfl rfl fun empty => ?_))
        simp [State.laneEmpty, queue] at empty
    · exact .inr (.refl s)
  · exact .inr (.refl s)

theorem State.preemptCheck_lawful {s : State} (h : Lawful s) : Lawful s.preemptCheck :=
  (State.preemptCheck_cases (.inl h)).elim And.left fun same => same.lawful h

theorem State.headTurnedUrgent_lawful {s : State} (h : Lawful s) : Lawful s.headTurnedUrgent := by
  unfold State.headTurnedUrgent
  split
  · exact State.preemptCheck_lawful h
  · exact h

theorem State.urgentFlags_same (s : State) (p : ToteNo → Bool) :
    Same s (s.updRecs fun q => if p q.tote then { q with urgent := s.urgentNow q } else q) :=
  s.updRecs_same fun q => by split <;> rfl

theorem State.reurgent_lawful {s : State} (h : Lawful s) (p : ToteNo → Bool) :
    Lawful (s.reurgent p) := by
  unfold State.reurgent
  dsimp only
  split
  · exact State.headTurnedUrgent_lawful ((s.urgentFlags_same p).lawful h)
  · exact (s.urgentFlags_same p).lawful h

/-- With no line ACTIVE a head that turns urgent makes no check (R115). -/
theorem State.reurgent_same {s : State} (h : NoneActive s) (p : ToteNo → Bool) :
    Same s (s.reurgent p) := by
  have flags := s.urgentFlags_same p
  unfold State.reurgent
  dsimp only
  split
  · unfold State.headTurnedUrgent
    rw [if_neg]
    · exact flags
    · have none : NoneActive (s.updRecs fun q =>
          if p q.tote then { q with urgent := s.urgentNow q } else q) := h
      rw [none.activeLine]
      simp
  · exact flags

/-! ### Release (R114, R118) -/

theorem State.beginRelease_lawful {s : State} (h : Unlit s) (record : s.lane.faceRec.isSome = true)
    (live : ¬ (s.mode = .rest ∨ s.mode = .unconfigured)) : Lawful s.beginRelease := by
  have frame := s.beginRelease_frame
  refine (h.relaned frame).lawful ?_ ?_ ?_ ?_
  · rw [s.beginRelease_lane]
    simpa [Lane.released] using record
  · rw [s.beginRelease_lane]
    rcases s.lane.released_face with e | e <;> rw [e] <;> exact ⟨by decide, by decide⟩
  · rw [s.beginRelease_lane]
    rcases s.lane.released_face with e | e <;> rw [e] <;> decide
  · rwa [frame.mode_eq (by simp)]

/-- The presented tote is released with no line ACTIVE (R114). -/
theorem Dark.beginRelease {s : State} (h : Dark s) (face : s.lane.face = .presenting) :
    Lawful s.beginRelease := by
  obtain ⟨unlit, lane⟩ := (dark_iff s).mp h
  obtain ⟨q, hq⟩ := lane.faceRec face
  exact State.beginRelease_lawful unlit (by rw [hq]; rfl) (lane.live (by rw [face]; decide))

theorem State.tryLeave_lawful {s : State} (h : Lawful s) : Lawful s.tryLeave := by
  unfold State.tryLeave
  split
  · rename_i leaves
    simp only [Bool.and_eq_true, beq_iff_eq] at leaves
    obtain ⟨⟨face, -⟩, -⟩ := leaves
    obtain ⟨unlit, lane⟩ := (dark_iff s).mp (h.dark (by rw [face]; decide))
    exact (unlit.relaned (s.withLane_frame _)).lawful
      (lane.1.mpr (by rw [face]; exact ⟨by decide, by decide⟩)) ⟨fun h => (by cases h), fun h => (by cases h)⟩
      (fun h => by cases h) (lane.live (by rw [face]; decide))
  · exact h

theorem State.returnActive_dark {s : State} (h : Lawful s) (face : s.lane.face = .presenting) :
    Dark s.returnActive ∧ s.returnActive.lane.face = .presenting := by
  obtain ⟨l, lit⟩ := h.lit face
  have dark := h.leaveActive lit.activeLine (x := .waiting) (by decide)
  unfold State.returnActive
  rw [lit.activeLine]
  have wanted := State.deriveWant_same ((s.setLineState l.tag .waiting).leaveActive) l.tote
  have flagged := State.reurgent_same (wanted.dark dark).1.2.2 (· == l.tote)
  have same := wanted.trans flagged
  exact ⟨same.dark dark, same.face.trans face⟩

theorem State.releasePresenting_lawful {s : State} (h : Lawful s)
    (face : s.lane.face = .presenting) : Lawful s.releasePresenting :=
  (State.returnActive_dark h face).1.beginRelease (State.returnActive_dark h face).2

/-! ### The line at the face (R23, R131, R135) -/

/-- The line to work is made ACTIVE and lit (R23, R131). -/
theorem Dark.lit {s : State} (h : Dark s) (face : s.lane.face = .presenting) {q : LaneRec}
    (hq : s.lane.faceRec = some q) {l : Line}
    (hl : lineToWork s.demand.lines s.puts q.tote = some l) :
    Lawful ((s.setLineState l.tag .active).light l) := by
  obtain ⟨⟨⟨lines, lane⟩, suspended, none⟩, -⟩ := h
  obtain ⟨mem, tote, state⟩ := lineToWork_mem hl
  have placed : isPlaced s.puts l.handle = true := by
    rcases state with state | workable
    · exact suspended l mem state
    · simp only [isWorkable, Bool.and_eq_true] at workable
      exact workable.2
  have kept : DemandKept [l.tote] [l.handle] s (s.setLineState l.tag .active) :=
    State.setLineState_demandKept mem
      (by rcases lineToWork_state hl with e | e <;> rw [e] <;> decide)
      (fun h => absurd (.head _) h) fun h => absurd (.head _) h
  have own : ∀ n ∈ s.demand.lines, n.tag = l.tag → n = l := fun n hn =>
    eq_of_tag_eq lines.2.1 hn mem
  refine ⟨⟨kept.lines lines, (SameFace.mk rfl rfl rfl id : SameFace s _).laneLaw lane⟩,
    (presentLaw_iff _).mpr ⟨fun m hm hs => ?_, .inl ⟨face, { l with state := .active }, ?_⟩⟩⟩
  · obtain ⟨n, hn, rfl⟩ := List.mem_map.mp hm
    by_cases tag : n.tag = l.tag
    · rw [if_pos tag, own n hn tag]
      exact placed
    · rw [if_neg tag] at hs ⊢
      exact suspended n hn hs
  · refine ⟨List.mem_map.mpr ⟨l, mem, by simp⟩, rfl, fun m hm active => ?_, placed, ?_, rfl, rfl, rfl,
      rfl⟩
    · obtain ⟨n, hn, rfl⟩ := List.mem_map.mp hm
      by_cases tag : n.tag = l.tag
      · rw [if_pos tag, own n hn tag]
      · rw [if_neg tag] at active
        exact absurd active (none n hn)
    · show s.lane.faceRec.map LaneRec.tote = some l.tote
      rw [hq, Option.map_some, tote]

theorem State.requestLine_lawful {s : State} (h : Dark s) (face : s.lane.face = .presenting) :
    Lawful s.requestLine := by
  obtain ⟨q, hq⟩ := h.1.1.2.faceRec face
  unfold State.requestLine
  rw [hq]
  dsimp only
  split
  · exact h.beginRelease face
  · rename_i l hl
    exact State.reurgent_lawful ((State.deriveWant_same _ _).lawful (h.lit face hq hl)) _

/-- Behind the preemption check: the tote is parked, or its next line asked for (R115, R135). -/
theorem State.preemptOrRequest_lawful {s : State} (h : Dark s) (face : s.lane.face = .presenting) :
    Lawful (if s.preemptCheck.lane.face = .parking then s.preemptCheck
      else s.preemptCheck.requestLine) := by
  rcases State.preemptCheck_cases (.inr h) with ⟨lawful, parking⟩ | same
  · rw [if_pos parking]
    exact lawful
  · have presenting : s.preemptCheck.lane.face = .presenting := same.face.trans face
    rw [if_neg (by rw [presenting]; decide)]
    exact State.requestLine_lawful (same.dark h) presenting

theorem State.lineBoundary_lawful {s : State} (h : Dark s) (l : Line) :
    Lawful (s.lineBoundary l) := by
  have same : Same s ((s.reurgent (· == l.tote)).reready l.handle) :=
    (State.reready_same _ _).after (State.reurgent_same h.1.2.2 _)
  unfold State.lineBoundary
  dsimp only
  split
  · rename_i face
    split
    · exact (same.dark h).beginRelease face
    · exact State.preemptOrRequest_lawful (same.dark h) face
  · rename_i face
    exact (same.dark h).lawful face

/-! ### Lines that are not ACTIVE -/

/-- Lines change that are not ACTIVE, and none becomes ACTIVE or SUSPENDED. -/
theorem Lawful.of_map {s : State} (h : Lawful s) {f : Line → Line}
    (lines : LinesLaw (s.withLines (s.demand.lines.map f)))
    (active : ∀ n ∈ s.demand.lines, n.state = .active → f n = n)
    (others : ∀ n ∈ s.demand.lines, f n = n ∨ (f n).state ≠ .active ∧ (f n).state ≠ .suspended) :
    Lawful (s.withLines (s.demand.lines.map f)) := by
  obtain ⟨⟨-, lane⟩, present⟩ := h
  obtain ⟨suspended, cases_⟩ := (presentLaw_iff s).mp present
  refine ⟨⟨lines, (s.withLines_sameFace _).laneLaw lane⟩, (presentLaw_iff _).mpr
    ⟨fun m hm hs => ?_, cases_.imp (fun ⟨face, l, lit⟩ => ⟨face, l, ?_⟩)
      fun ⟨face, idle, off⟩ => ⟨face, fun m hm => ?_, off⟩⟩⟩
  · obtain ⟨n, hn, rfl⟩ := List.mem_map.mp hm
    rcases others n hn with e | ⟨-, e⟩
    · rw [e] at hs ⊢
      exact suspended n hn hs
    · exact absurd hs e
  · refine { lit with mem := List.mem_map.mpr ⟨l, lit.mem, active l lit.mem lit.active⟩, only := ?_ }
    intro m hm ha
    obtain ⟨n, hn, rfl⟩ := List.mem_map.mp hm
    rcases others n hn with e | ⟨e, -⟩
    · rw [e] at ha ⊢
      exact lit.only n hn ha
    · exact absurd ha e
  · obtain ⟨n, hn, rfl⟩ := List.mem_map.mp hm
    rcases others n hn with e | ⟨e, -⟩
    · rw [e]
      exact idle n hn
    · exact e

/-- One line that is not ACTIVE is cancelled. -/
theorem Lawful.cancelled {s : State} (h : Lawful s) {l : Line} (hl : l ∈ s.demand.lines)
    (done : l.state ≠ .done) (idle : l.state ≠ .active) :
    Lawful (s.setLineState l.tag .cancelled) := by
  have kept : DemandKept [l.tote] [l.handle] s (s.setLineState l.tag .cancelled) :=
    State.setLineState_demandKept hl done (fun h => absurd (.head _) h) fun h => absurd (.head _) h
  refine h.of_map (kept.lines h.1.1) (fun n hn active => if_neg fun tag => idle ?_) fun n _ => ?_
  · rw [← eq_of_tag_eq h.1.1.2.1 hn hl tag]
    exact active
  · split
    · exact .inr ⟨fun h => (by cases h), fun h => (by cases h)⟩
    · exact .inl rfl

/-! ### The Cold Monitor (R121, R122) -/

/-- R28: the lines of a breached tote. -/
def breachedLine (T : ToteNo) (l : Line) : Line :=
  if l.tote == T && l.state.breachable then { l with state := .held } else l

theorem breachedLine_spec (T : ToteNo) (l : Line) :
    (breachedLine T l = l ∨ (breachedLine T l).state = .held) ∧
      (l.state = .active → l.tote ≠ T → breachedLine T l = l) ∧
      (l.state = .active → l.tote = T → (breachedLine T l).state = .held) := by
  unfold breachedLine
  refine ⟨?_, fun _ other => if_neg (by simp [other]), fun active tote => ?_⟩
  · split
    · exact .inr rfl
    · exact .inl rfl
  · rw [if_pos (by simp [active, tote, LineState.breachable])]

theorem State.breach_lawful {s : State} (h : Lawful s) (T : ToteNo) : Lawful (s.breach T) := by
  have kept : LinesLaw s → ∀ u : State, u.demand.lines = s.demand.lines →
      LinesLaw (u.withLines (u.demand.lines.map (breachedLine T))) := by
    intro law u hu
    refine LinesLaw.of_lines_eq (s := s.withLines (s.demand.lines.map (breachedLine T))) ?_
      (by rw [State.withLines_lines, State.withLines_lines, hu])
    refine (DemandKept.of_map (P := s.demand.lines.map Line.tote)
      (H := s.demand.lines.map Line.handle) (fun n => ?_) (fun law n hn => ?_) (fun _ n hn hP => ?_)
      fun _ n hn hH => ?_).lines law
    · unfold breachedLine
      split <;> exact ⟨rfl, rfl, rfl, rfl⟩
    · obtain ⟨-, -, most, done⟩ := law.2.2 n hn
      unfold breachedLine
      split
      · rename_i hit
        have state := (Bool.and_eq_true _ _ ▸ hit :).2
        exact ⟨most, fun full => absurd state (by rw [done full]; decide)⟩
      · exact ⟨most, done⟩
    · exact absurd (List.mem_map_of_mem hn) hP
    · exact absurd (List.mem_map_of_mem hn) hH
  unfold State.breach
  extract_lets hit s1 s2 s3 s4
  have marked : Same s s1 :=
    (State.raise_same _ _ _).after (s.updRecs_same fun q => by split <;> rfl)
  have lawful1 : Lawful s1 := marked.lawful h
  have lines2 : LinesLaw s2 := kept h.1.1 s1 marked.lines
  have derived : Same s3 s4 := (Same.foldl State.reready_same _ _).after (State.deriveWant_same _ _)
  have dims : s3 = if hit.any (fun l => l.state == .active) then s2.leaveActive else s2 := rfl
  by_cases own : ∃ l, LitBy l s1 ∧ l.tote = T
  · -- the presented tote is breached
    obtain ⟨l, lit, tote⟩ := own
    have face : s1.lane.face = .presenting :=
      (lawful1.of_activeLine lit.activeLine).1
    have some_ : (hit.any fun l => l.state == .active) = true := by
      refine List.any_eq_true.mpr ⟨l, List.mem_filter.mpr ⟨marked.lines ▸ lit.mem, ?_⟩, ?_⟩
      · simp [tote, lit.active, LineState.breachable]
      · simp [lit.active]
    have idle : Idle s2 := by
      refine ⟨⟨lines2, (s1.withLines_sameFace _).laneLaw lawful1.1.2⟩, fun m hm hs => ?_,
        fun m hm => ?_⟩
      all_goals
        obtain ⟨n, hn, rfl⟩ := List.mem_map.mp hm
        obtain ⟨either, -, held⟩ := breachedLine_spec T n
      · rcases either with e | e
        · have e : (if n.tote == T && n.state.breachable then { n with state := .held } else n) = n := e
          rw [e] at hs ⊢
          exact ((presentLaw_iff s1).mp lawful1.2).1 n hn hs
        · exact absurd (e.symm.trans hs) (by decide)
      · intro active
        by_cases on : n.state = .active
        · exact absurd ((held on (by rw [lit.only n hn on, tote])).symm.trans active) (by decide)
        · rcases either with e | e
          · exact on ((congrArg Line.state e).symm.trans active)
          · exact absurd (e.symm.trans active) (by decide)
    have dark : Dark s3 := by
      rw [dims, if_pos some_]
      exact idle.leaveActive
    have face3 : s3.lane.face = .presenting := by
      rw [dims, if_pos some_]
      exact face
    have record : (s4.lane.faceRec.any fun q => q.tote == T) = true := by
      have same : s4.lane.faceRec.map LaneRec.tote = some T := by
        rw [derived.tote, dims, if_pos some_, ← tote]
        exact lit.tote
      obtain ⟨q, hq, hqT⟩ : ∃ q, s4.lane.faceRec = some q ∧ q.tote = T := by simpa using same
      simp [hq, hqT]
    have face4 : s4.lane.face = .presenting := derived.face.trans face3
    rw [if_pos (by simp [face4, record])]
    exact (derived.dark dark).beginRelease face4
  · -- its ACTIVE line, if there is one, is not of the tote
    have away : ∀ n ∈ s1.demand.lines, n.state = .active → n.tote ≠ T := by
      intro n hn active tote
      obtain ⟨-, ⟨-, l, lit⟩ | ⟨-, none, -⟩⟩ := (presentLaw_iff s1).mp lawful1.2
      · exact own ⟨l, lit, by rw [← lit.only n hn active, tote]⟩
      · exact none n hn active
    have lawful2 : Lawful s2 := lawful1.of_map lines2
      (fun n hn active => (breachedLine_spec T n).2.1 active (away n hn active))
      fun n _ => (breachedLine_spec T n).1.imp_right fun held =>
        ⟨fun e => absurd (held.symm.trans e) (by decide), fun e => absurd (held.symm.trans e) (by decide)⟩
    have none_ : ¬ (hit.any fun l => l.state == .active) = true := by
      rw [List.any_eq_true]
      rintro ⟨l, hl, active⟩
      obtain ⟨mem, tote⟩ := List.mem_filter.mp hl
      exact away l (marked.lines ▸ mem) (beq_iff_eq.mp active)
        (beq_iff_eq.mp (Bool.and_eq_true _ _ ▸ tote :).1)
    have lawful4 : Lawful s4 := by
      refine derived.lawful ?_
      rw [dims, if_neg none_]
      exact lawful2
    split
    · rename_i presented
      obtain ⟨face, record⟩ : s4.lane.face = .presenting ∧ ∃ q, s4.lane.faceRec = some q ∧ q.tote = T := by
        simpa [Option.any_eq_true] using presented
      obtain ⟨q, hq, hqT⟩ := record
      have face1 : s1.lane.face = .presenting := by
        have : s3.lane.face = .presenting := derived.face.symm.trans face
        rwa [dims, if_neg none_] at this
      obtain ⟨l, lit⟩ := lawful1.lit face1
      refine absurd ⟨l, lit, ?_⟩ own
      have same : s4.lane.faceRec.map LaneRec.tote = s1.lane.faceRec.map LaneRec.tote := by
        rw [derived.tote, dims, if_neg none_]
        rfl
      rw [hq, lit.tote] at same
      exact (Option.some.inj same).symm.trans hqT
    · exact lawful4

theorem State.coldWork_lawful {s : State} (h : Lawful s) (T : ToteNo) : Lawful (s.coldWork T) := by
  have alerted := (s.coldAlertWork_same T).lawful h
  unfold State.coldWork State.coldBreachWork
  split
  · exact State.breach_lawful alerted T
  · exact alerted

theorem State.coldTick_lawful (Ts : List ToteNo) {s : State} (h : Lawful s) :
    Lawful (Ts.foldl State.coldWork s) := by
  induction Ts generalizing s with
  | nil => exact h
  | cons T Ts ih => exact ih (State.coldWork_lawful h T)

/-! ### The fill and the bench mode (R112, R128, R148) -/

theorem State.beginArriving_lawful {s : State} (h : Unlit s)
    (live : ¬ (s.mode = .rest ∨ s.mode = .unconfigured)) (q : LaneRec) (x : FaceSource) :
    Lawful (s.beginArriving q x) :=
  (h.relaned (s.beginArriving_frame q x)).lawful rfl
    ⟨fun e => (by cases e), fun e => (by cases e)⟩ (fun e => by cases e) live

theorem State.live_of_sweeping {s : State} (h : s.mode = .sweeping) :
    ¬ (s.mode = .rest ∨ s.mode = .unconfigured) := by
  rw [h]
  decide

theorem State.fillHead_lawful {s : State} (h : Lawful s) (face : s.lane.face = .empty) :
    Lawful s.fillHead := by
  obtain ⟨unlit, lane⟩ := (dark_iff s).mp (h.dark (by rw [face]; decide))
  unfold State.fillHead
  split
  · rename_i q rest queue
    have live : ¬ (s.mode = .rest ∨ s.mode = .unconfigured) := fun hm => by
      have empty := lane.2 hm
      simp [State.laneEmpty, queue] at empty
    split
    · refine State.beginArriving_lawful ?_ (fun hm => ?_) _ _
      · exact unlit.relaned (s.withLane_frame _)
      · exact live hm
    · exact (s.withLane_same rfl rfl id).lawful h
  · split
    · rename_i sweeping
      rw [Bool.and_eq_true, beq_iff_eq] at sweeping
      exact State.beginArriving_lawful unlit (State.live_of_sweeping sweeping.1) _ _
    · exact h

theorem State.fill_lawful {s : State} (h : Lawful s) : Lawful s.fill := by
  unfold State.fill
  split
  · exact h
  · rename_i fills
    simp only [Bool.or_eq_true, bne_iff_ne, not_or, not_not] at fills
    obtain ⟨face, -⟩ := fills
    obtain ⟨unlit, lane⟩ := (dark_iff s).mp (h.dark (by rw [face]; decide))
    split
    · rename_i swept
      rw [Bool.and_eq_true, beq_iff_eq] at swept
      exact State.beginRelease_lawful (unlit.relaned (s.withLane_frame _)) rfl
        (State.live_of_sweeping swept.1)
    · split
      · exact State.fillHead_lawful h face
      · split
        · rename_i q parked
          refine State.beginArriving_lawful (unlit.relaned (s.withLane_frame _)) (fun hm => ?_) _ _
          have empty := lane.2 hm
          simp [State.laneEmpty, parked] at empty
        · split
          · rename_i swept
            rw [Bool.and_eq_true, beq_iff_eq] at swept
            exact State.beginArriving_lawful unlit (State.live_of_sweeping swept.1) _ _
          · exact State.fillHead_lawful h face

/-- A mode is entered with a lane that it may have (R146). -/
theorem State.enterMode_lawful {s : State} (lines : LinesLaw s) (present : PresentLaw s)
    (record : s.lane.faceRec.isSome = true ↔ s.lane.face ≠ .empty ∧ s.lane.face ≠ .parking)
    {m : BenchMode} (empty : m = .rest ∨ m = .unconfigured → s.laneEmpty = true) :
    Lawful (s.enterMode m) := by
  have frame := s.enterMode_frame m
  have lane := frame.lane_eq (by simp)
  have demand := frame.demand_eq (by simp)
  refine ⟨⟨lines.of_lines_eq (by rw [demand]), by rw [lane]; exact record, fun hm => ?_⟩, ?_⟩
  · rw [State.enterMode_mode] at hm
    unfold State.laneEmpty
    rw [lane, frame.divert_eq (by simp)]
    exact empty hm
  · unfold PresentLaw
    rw [lane, demand, frame.puts_eq (by simp), frame.picker_eq (by simp)]
    exact present

theorem Lawful.enterMode {s : State} (h : Lawful s) {m : BenchMode}
    (empty : m = .rest ∨ m = .unconfigured → s.laneEmpty = true) : Lawful (s.enterMode m) :=
  State.enterMode_lawful h.1.1 h.2 h.1.2.1 empty

theorem State.drainTest_lawful {s : State} (h : Lawful s) : Lawful s.drainTest := by
  unfold State.drainTest
  split
  · rename_i drained
    exact h.enterMode fun _ => (Bool.and_eq_true _ _ ▸ drained :).2
  · exact h

theorem State.sweepTest_lawful {s : State} (h : Lawful s) : Lawful s.sweepTest := by
  unfold State.sweepTest
  split
  · rename_i swept
    have clear := (Bool.and_eq_true _ _ ▸ swept :).2
    simp only [State.laneClear, Bool.and_eq_true] at clear
    exact h.enterMode fun _ => clear.1.1
  · exact h

theorem State.enterSweeping_lawful {s : State} (lines : LinesLaw s) (present : PresentLaw s)
    (record : s.lane.faceRec.isSome = true ↔ s.lane.face ≠ .empty ∧ s.lane.face ≠ .parking)
    (r : SweepReturn) : Lawful (s.enterSweeping r) :=
  State.sweepTest_lawful (State.fill_lawful (State.enterMode_lawful
    (s := s.withModeCtl { s.modeCtl with sweepReturn := r }) lines present record
    fun hm => absurd hm (by decide)))

/-! ### The commands of the local link -/

theorem State.reply_same (s : State) (code : Byte) (st : Status) (fs : List Byte) :
    Same s (s.reply code st fs) :=
  (s.reply_frame code st fs).same (by simp) (by simp) (by simp) (by simp) (by simp) (by simp)

theorem Lawful.reply {s : State} (h : Lawful s) (code : Byte) (st : Status) (fs : List Byte) :
    Lawful (s.reply code st fs) := (s.reply_same code st fs).lawful h

theorem Lawful.settle {s : State} (h : Lawful s) : Lawful s.settleLane := s.settleLane_same.lawful h

theorem State.whenConfigured_lawful {s : State} {effect : State → State} (code : Byte)
    (h : Lawful s) (k : Lawful (effect s)) : Lawful (s.whenConfigured code effect) := by
  unfold State.whenConfigured
  split
  · exact k
  · exact h.reply _ _ _

/-- No line, no order, no light and an empty lane. -/
theorem lawful_of_reset {s : State} (demand : s.demand = .reset) (lane : s.lane.face = .empty)
    (record : s.lane.faceRec = none) (off : LightsOff s) (empty : s.laneEmpty = true) : Lawful s := by
  refine Unlit.lawful_of_none ⟨?_, ?_, ?_, off⟩ record (.inl lane) fun _ => empty
  · rw [LinesLaw, demand]
    exact ⟨Nat.zero_le _, List.nodup_nil, fun l h => (by cases h)⟩
  · rw [SuspendedPlaced, demand]
    exact fun l h => (by cases h)
  · rw [NoneActive, demand]
    exact fun l h => (by cases h)

theorem State.configure_lawful {s : State} (h : Lawful s) (f : ConfigFields) :
    Lawful (s.configure f) := by
  unfold State.configure
  split
  · exact h.reply _ _ _
  · split
    · have stored : Lawful (s.storeConfig f) :=
        (Same.mk ⟨⟨rfl, rfl, rfl, id⟩, rfl, fun _ => rfl⟩ ⟨rfl, rfl, rfl, rfl⟩ :
          Same s (s.storeConfig f)).lawful h
      exact (State.enterSweeping_lawful stored.1.1 stored.2 stored.1.2.1 _).settle.reply _ _ _
    · exact h.reply _ _ _

theorem State.clearNotices_same (s : State) : Same s s.clearNotices :=
  s.clearNotices_frame.same (by simp) (by simp) (by simp) (by simp) (by simp) (by simp)

theorem State.restart_lawful {s : State} (h : Lawful s) : Lawful s.restart := by
  unfold State.restart
  split
  · have cleared : Lawful s.clearWork.clearNotices :=
      s.clearWork.clearNotices_same.lawful (lawful_of_reset rfl rfl rfl ⟨rfl, rfl, rfl, rfl⟩ rfl)
    exact (State.enterSweeping_lawful cleared.1.1 cleared.2 cleared.1.2.1 _).settle.reply _ _ _
  · have zeroed : Same s { s with clock := 0 } :=
      ⟨⟨⟨rfl, rfl, rfl, id⟩, rfl, fun _ => rfl⟩, rfl, rfl, rfl, rfl⟩
    exact ((State.clearNotices_same _).lawful (zeroed.lawful h)).reply _ _ _

theorem State.moveClock_same (s : State) (t : Clock) : Same s (s.moveClock t) := by
  refine ⟨⟨⟨rfl, rfl, ?_, ?_⟩, rfl, fun _ => rfl⟩, rfl, rfl, rfl, rfl⟩
  · show (s.lane.faceRec.map _).map LaneRec.tote = s.lane.faceRec.map LaneRec.tote
    rw [Option.map_map]
    rfl
  · simp [State.laneEmpty, State.moveClock, State.shiftTimes]

theorem State.setTime_lawful {s : State} (h : Lawful s) (t : Clock) : Lawful (s.setTime t) := by
  refine State.whenConfigured_lawful 2 h (Lawful.reply (Lawful.settle ?_) 2 .accepted [])
  exact (State.checkWants_same _ _).lawful
    (State.reurgent_lawful ((s.moveClock_same t).lawful h) fun _ => true)

/-- A new line is WAITING (R18). -/
theorem Lawful.append {s : State} (h : Lawful s) {l : Line}
    (lines : LinesLaw (s.withLines (s.demand.lines ++ [l]))) (waiting : l.state = .waiting) :
    Lawful (s.withLines (s.demand.lines ++ [l])) := by
  obtain ⟨⟨-, lane⟩, present⟩ := h
  obtain ⟨suspended, cases_⟩ := (presentLaw_iff s).mp present
  have old : ∀ m ∈ s.demand.lines ++ [l], m.state ≠ .waiting → m ∈ s.demand.lines := by
    intro m hm other
    rcases List.mem_append.mp hm with hm | hm
    · exact hm
    · rw [List.mem_singleton.mp hm] at other
      exact absurd waiting other
  refine ⟨⟨lines, (s.withLines_sameFace _).laneLaw lane⟩, (presentLaw_iff _).mpr
    ⟨fun m hm hs => suspended m (old m hm (by rw [hs]; decide)) hs,
      cases_.imp (fun ⟨face, m, lit⟩ => ⟨face, m, ?_⟩) fun ⟨face, idle, off⟩ => ⟨face, ?_, off⟩⟩⟩
  · exact { lit with
            mem := List.mem_append_left _ lit.mem
            only := fun n hn active => lit.only n (old n hn (by rw [active]; decide)) active }
  · exact fun n hn active => idle n (old n hn (by rw [active]; decide)) active

theorem State.loadLine_lawful {s : State} (h : Lawful s) (tag : Tag) (tote : ToteNo)
    (handle : Handle) (cls qty prio : Byte) :
    Lawful (s.loadLine tag tote handle cls qty prio) := by
  refine State.whenConfigured_lawful 4 h ?_
  split
  · exact h.reply _ _ _
  · rename_i l fields
    obtain ⟨rfl, low, high, none, waiting⟩ := lineOfFields_some fields
    split
    · exact h.reply _ _ _
    · rename_i fresh
      split
      · exact h.reply _ _ _
      · rename_i room
        have kept := State.newLine_demandKept (s := s) (l := l) (by simpa using fresh) (by omega) low
          high none
        have added := h.append (kept.lines h.1.1) waiting
        have missed : Lawful (s.withNewLine l) := by
          unfold State.withNewLine
          split
          · exact (State.raise_same _ _ _).lawful added
          · exact added
        rw [State.addLine_eq]
        exact (State.reurgent_lawful ((State.reready_same _ _).lawful
          ((State.deriveWant_same _ _).lawful missed)) _).settle.reply 4 _ _

theorem State.cancelOpen_lawful {s : State} (h : Lawful s) {l : Line} (hl : l ∈ s.demand.lines) :
    Lawful (s.cancelOpen l) := by
  unfold State.cancelOpen
  dsimp only
  split
  · rename_i active
    by_cases face : s.lane.face = .presenting
    · obtain ⟨m, lit⟩ := h.lit face
      obtain rfl := lit.only l hl active
      exact (State.lineBoundary_lawful
        (h.leaveActive lit.activeLine (x := .cancelled) (by decide)) l).settle
    · exact absurd active ((h.dark face).1.2.2 l hl)
  · rename_i waiting
    have cancelled := h.cancelled hl (by rw [waiting]; decide) (by rw [waiting]; decide)
    exact (State.reurgent_lawful ((State.reready_same _ _).lawful
      ((State.deriveWant_same _ _).lawful cancelled)) _).settle
  · rename_i suspended
    have cancelled := h.cancelled hl (by rw [suspended]; decide) (by rw [suspended]; decide)
    exact (State.reurgent_lawful ((State.reready_same _ _).lawful cancelled) _).settle
  · rename_i held
    have cancelled := h.cancelled hl (by rw [held]; decide) (by rw [held]; decide)
    exact (State.reurgent_lawful ((State.reready_same _ _).lawful cancelled) _).settle
  all_goals exact h

theorem State.cancelLine_lawful {s : State} (h : Lawful s) (tag : Tag) :
    Lawful (s.cancelLine tag) := by
  refine State.whenConfigured_lawful 5 h ?_
  split
  · exact h.reply _ _ _
  · rename_i l found
    split
    · exact (State.cancelOpen_lawful h (List.mem_of_find?_eq_some found)).reply 5 _ _
    · exact h.reply _ _ _

/-- The Put Map changes and lines go, but none that is ACTIVE, and the placed handles of the rest stay where
they are. -/
theorem Lawful.of_filter {s : State} (h : Lawful s) (p : Line → Bool)
    {puts : Vector (Option Order) 16}
    (gone : ∀ l ∈ s.demand.lines, p l = false → l.state ≠ .active)
    (orders : ∀ l ∈ s.demand.lines, p l = true → isPlaced s.puts l.handle = true →
      positionOf puts l.handle = positionOf s.puts l.handle) :
    Lawful { s.withLines (s.demand.lines.filter p) with puts := puts } := by
  obtain ⟨⟨lines, lane⟩, present⟩ := h
  obtain ⟨suspended, cases_⟩ := (presentLaw_iff s).mp present
  have placed : ∀ l ∈ s.demand.lines, p l = true → isPlaced s.puts l.handle = true →
      isPlaced puts l.handle = true := fun l hl hp on => by
    unfold isPlaced at *
    rwa [orders l hl hp on]
  refine ⟨⟨?_, lane⟩, (presentLaw_iff _).mpr ⟨fun m hm hs => ?_,
    cases_.imp (fun ⟨face, m, lit⟩ => ⟨face, m, ?_⟩) fun ⟨face, idle, off⟩ => ⟨face, ?_, off⟩⟩⟩
  · obtain ⟨len, tags, each⟩ := lines
    exact ⟨(List.length_filter_le _ _).trans len, tags.sublist (List.filter_sublist.map _),
      fun l hl => each l (List.mem_filter.mp hl).1⟩
  · obtain ⟨mem, keep⟩ := List.mem_filter.mp hm
    exact placed m mem keep (suspended m mem hs)
  · have keep : p m = true := by
      cases hp : p m with
      | true => rfl
      | false => exact absurd lit.active (gone m lit.mem hp)
    have same := orders m lit.mem keep lit.placed
    exact { lit with
            mem := List.mem_filter.mpr ⟨lit.mem, keep⟩
            only := fun n hn => lit.only n (List.mem_filter.mp hn).1
            placed := placed m lit.mem keep lit.placed
            position := lit.position.trans same.symm
            putLight := lit.putLight.trans same.symm }
  · exact fun n hn => idle n (List.mem_filter.mp hn).1

theorem Lawful.withPuts {s : State} (h : Lawful s) {puts : Vector (Option Order) 16}
    (orders : ∀ x, isPlaced s.puts x = true → positionOf puts x = positionOf s.puts x) :
    Lawful { s with puts := puts } := by
  have all := h.of_filter (fun _ => true) (puts := puts) (fun _ _ e => by cases e)
    fun l _ _ => orders l.handle
  rwa [List.filter_true] at all

theorem positionOf_congr {p q : Vector (Option Order) 16} {x : Handle}
    (same : ∀ k : PutIdx, (q[k].any fun o => o.handle == x) = p[k].any fun o => o.handle == x) :
    positionOf q x = positionOf p x := by
  simp only [positionOf, same]

theorem State.placeOrder_lawful {s : State} (h : Lawful s) (x : Handle) (position : Byte)
    (deadline : Clock) : Lawful (s.placeOrder x position deadline) := by
  refine State.whenConfigured_lawful 6 h ?_
  split
  · exact h.reply _ _ _
  · rename_i k _
    split
    · exact h.reply _ _ _
    · split
      · exact h.reply _ _ _
      · rename_i elsewhere
        split
        · rename_i o ho
          split
          · have dated : Lawful { s with puts := s.puts.set k (some { o with deadline := deadline }) } := by
              refine h.withPuts fun y _ => positionOf_congr fun j => ?_
              rw [getElem_set_puts]
              split
              · rename_i e
                subst e
                rw [ho]
                rfl
              · rfl
            exact ((State.checkWants_same _ _).lawful
              (State.reurgent_lawful dated _)).settle.reply 6 _ _
          · exact h.reply _ _ _
        · rename_i free
          have unplaced : isPlaced s.puts x = false := by
            cases hp : positionOf s.puts x with
            | none => simp [isPlaced, hp]
            | some j =>
              obtain ⟨o, ho, -⟩ := positionOf_some hp
              have here : j = k := by simpa [hp] using elsewhere
              rw [here, free] at ho
              cases ho
          have placed := h.withPuts
              (puts := s.puts.set k (some { handle := x, deadline := deadline, ready := false })) (by
            refine fun y hy => positionOf_congr fun j => ?_
            rw [getElem_set_puts]
            split
            · rename_i e
              subst e
              have other : (x == y) = false := by
                rw [beq_eq_false_iff_ne]
                rintro rfl
                rw [hy] at unplaced
                cases unplaced
              rw [free]
              exact other
            · rfl)
          exact (State.reurgent_lawful ((State.reready_same _ _).lawful
            ((Same.foldl State.deriveWant_same _ _).lawful placed)) _).settle.reply 6 _ _

theorem State.closeOrder_lawful {s : State} (h : Lawful s) (x : Handle) :
    Lawful (s.closeOrder x) := by
  refine State.whenConfigured_lawful 7 h ?_
  split
  · rename_i k hk
    obtain ⟨o, ho, handle⟩ := positionOf_some hk
    split
    · exact h.reply _ _ _
    · rename_i closed
      refine Lawful.reply (h.of_filter (fun l => l.handle != x) (fun l hl e active => closed ?_)
        fun l hl keep _ => positionOf_congr fun j => ?_) 7 _ _
      · exact List.any_eq_true.mpr ⟨l, hl, by simpa [active, LineState.isOpen] using e⟩
      · rw [getElem_set_puts]
        split
        · rename_i e
          subst e
          have other : (o.handle == l.handle) = false := by
            rw [handle, beq_eq_false_iff_ne]
            exact Ne.symm (by simpa using keep)
          rw [ho]
          exact other.symm
        · rfl
  · rename_i unplaced
    split
    · refine Lawful.reply (h.of_filter (fun l => l.handle != x) (puts := s.puts)
        (fun l hl e active => ?_) fun _ _ _ _ => rfl) 7 _ _
      have same : l.handle = x := by simpa using e
      by_cases face : s.lane.face = .presenting
      · obtain ⟨m, lit⟩ := h.lit face
        obtain rfl := lit.only l hl active
        have placed := lit.placed
        rw [same, isPlaced, unplaced] at placed
        cases placed
      · exact (h.dark face).1.2.2 l hl active
    · exact h.reply _ _ _

theorem State.releaseFace_lawful {s : State} (h : Lawful s) : Lawful s.releaseFace := by
  refine State.whenConfigured_lawful 8 h ?_
  split
  · rename_i face
    exact (State.releasePresenting_lawful h face).settle.reply 8 _ _
  · exact h.reply _ _ _

theorem State.sweepReturn_same (s : State) (r : SweepReturn) :
    Same s (s.withModeCtl { s.modeCtl with sweepReturn := r }) :=
  ⟨⟨⟨rfl, rfl, rfl, id⟩, rfl, fun _ => rfl⟩, rfl, rfl, rfl, rfl⟩

theorem State.goToRest_lawful {s : State} (h : Lawful s) : Lawful s.goToRest := by
  unfold State.goToRest
  split
  · exact (State.drainTest_lawful (h.enterMode fun hm => absurd hm (by decide))).settle
  · exact (s.sweepReturn_same _).lawful h
  all_goals exact h

theorem State.wakeUp_lawful {s : State} (h : Lawful s) : Lawful s.wakeUp := by
  unfold State.wakeUp
  split
  · exact (h.enterMode fun hm => absurd hm (by decide)).settle
  · exact (h.enterMode fun hm => absurd hm (by decide)).settle
  · exact (s.sweepReturn_same _).lawful h
  all_goals exact h

theorem State.clearJam_lawful {s : State} (h : Lawful s) : Lawful s.clearJam := by
  refine State.whenConfigured_lawful 11 h (Lawful.reply ?_ 11 _ _)
  split
  · refine (State.sweepTest_lawful (State.tryLeave_lawful (State.fill_lawful
      (Same.lawful (State.withLane_same s ?_ ?_ ?_) h)))).settle
    exacts [rfl, rfl, id]
  · exact h

theorem State.runCommand_lawful {s : State} (h : Lawful s) (i : LinkCommand) :
    Lawful (s.runCommand i) := by
  have kept : ∀ {bs : List Block} {t : State}, SameExcept bs s t → bs ⊆ [.link, .notices, .tracker] →
      Lawful t := fun frame sub =>
    ((frame.mono sub).same (by simp) (by simp) (by simp) (by simp) (by simp) (by simp)).lawful h
  cases i with
  | configure f => exact State.configure_lawful h f
  | setTime t => exact State.setTime_lawful h t
  | restart => exact State.restart_lawful h
  | loadLine tag tote handle cls qty prio => exact State.loadLine_lawful h tag tote handle cls qty prio
  | cancelLine tag => exact State.cancelLine_lawful h tag
  | placeOrder x position deadline => exact State.placeOrder_lawful h x position deadline
  | closeOrder x => exact State.closeOrder_lawful h x
  | releaseFace => exact State.releaseFace_lawful h
  | rest =>
    exact State.whenConfigured_lawful (effect := fun s => s.goToRest.reply 9 .accepted) 9 h
      ((State.goToRest_lawful h).reply 9 _ _)
  | wake =>
    exact State.whenConfigured_lawful (effect := fun s => s.wakeUp.reply 10 .accepted) 10 h
      ((State.wakeUp_lawful h).reply 10 _ _)
  | clearJam => exact State.clearJam_lawful h
  | retrack => exact kept s.retrack_frame (by simp [commandBlocks])
  | setNotice source enable level => exact kept (s.setNotice_frame source enable level) (by simp)
  | setFloor floor => exact kept (s.setFloor_frame floor) (by simp)
  | readNotice => exact kept s.readNotice_frame (by simp)
  | clearNotice source => exact kept (s.clearNotice_frame source) (by simp)
  | readStatus =>
    exact (Same.mk ⟨⟨rfl, rfl, rfl, id⟩, rfl, fun _ => rfl⟩ ⟨rfl, rfl, rfl, rfl⟩ :
      Same s s.readStatus).lawful h
  | readLine tag => exact kept (s.readLine_frame tag) (by simp)
  | readLane => exact kept s.readLane_frame (by simp)
  | readTrack => exact kept s.readTrack_frame (by simp)
  | readConfig => exact kept s.readConfig_frame (by simp)

theorem State.takeFrame_lawful {s : State} (h : Lawful s) (bytes : List Byte) :
    Lawful (s.takeFrame bytes) := by
  unfold State.takeFrame
  split
  · exact h
  · split
    · exact h
    · split
      · exact State.runCommand_lawful h _
      · exact h.reply _ _ _

/-! ### The reader, the lane and the picks -/

theorem State.place_same (s : State) (e : EalEntry) : Same s (s.place e) :=
  (s.place_frame e).same (by simp) (by simp) (by simp) (by simp) (by simp) (by simp)

/-- A take adds a divert record in ACTIVE (R99, R103). -/
theorem State.sighted_lawful {s : State} (h : Lawful s) (T : ToteNo) (part : Option EntryPart) :
    Lawful (s.sighted T part) := by
  have board : Same s { s with board := boardSighting s.board T } :=
    ⟨⟨⟨rfl, rfl, rfl, id⟩, rfl, fun _ => rfl⟩, rfl, rfl, rfl, rfl⟩
  unfold State.sighted
  refine Lawful.settle ?_
  unfold State.judge
  split
  · exact (State.raise_same _ _ _).lawful (board.lawful h)
  · split
    · rename_i takes
      simp only [State.takes, Bool.and_eq_true, beq_iff_eq] at takes
      obtain ⟨⟨active, -⟩, -⟩ := takes
      obtain ⟨⟨lines, record, -⟩, present⟩ := h
      refine ⟨⟨lines, record, fun hm => ?_⟩, present⟩
      rcases hm with e | e
      · exact absurd (active.symm.trans e) (by decide)
      · exact absurd (active.symm.trans e) (by decide)
    · exact (State.place_same _ _).lawful (board.lawful h)

theorem State.readReport_lawful {s : State} (h : Lawful s) (r : ReaderReport) :
    Lawful (s.readReport r) := by
  have failed : Lawful s.failedRead := by
    unfold State.failedRead
    split
    · have gone : ∀ T, Same s (s.unexpect T) := fun T =>
        ⟨⟨⟨rfl, rfl, rfl, id⟩, rfl, fun _ => rfl⟩, rfl, rfl, rfl, rfl⟩
      exact State.sighted_lawful ((gone _).lawful h) _ _
    · exact h
  unfold State.readReport
  split
  · split
    · exact failed
    · split
      · unfold State.goodRead
        split
        · exact State.sighted_lawful (((s.matchRead_frame _).same (by simp) (by simp) (by simp)
            (by simp) (by simp) (by simp)).lawful h) _ _
        · exact State.sighted_lawful h _ _
      · exact h
      · exact failed
      · exact failed
  · exact h

theorem State.sensorEvent_lawful {s : State} (h : Lawful s) (x : Sensor) (b : Bool)
    {effect : State → State}
    (k : Lawful (s.sensorLevel x b) → (s.sensorLevel x b).mode ≠ .unconfigured →
      Lawful (effect (s.sensorLevel x b))) :
    Lawful ((s.sensorLevel x b).fieldEvent effect) := by
  have level := (s.sensorLevel_same x b).lawful h
  unfold State.fieldEvent
  split
  · rename_i configured
    exact (k level (State.configured_iff _ |>.mp configured)).settle
  · exact level

theorem State.newHeadCheck_lawful {s : State} (h : Lawful s) : Lawful s.newHeadCheck := by
  unfold State.newHeadCheck
  split
  · exact State.headTurnedUrgent_lawful h
  · exact h

/-- A divert record in flight keeps the lane from being empty (R123). -/
theorem State.recordQueued_same {s : State} {d : DivertRec} {rest : List DivertRec}
    (hd : s.divert.records = d :: rest) (q : LaneRec) :
    Same s (({ s with divert := { s.divert with records := rest } } : State).pushRecord q) := by
  refine ⟨⟨⟨rfl, rfl, rfl, fun empty => ?_⟩, rfl, fun _ => rfl⟩, rfl, rfl, rfl, rfl⟩
  simp [State.laneEmpty, hd] at empty

theorem State.complete_lawful {s : State} (h : Lawful s) {d : DivertRec} {rest : List DivertRec}
    (hd : s.divert.records = d :: rest) : Lawful (s.complete d rest) :=
  State.fill_lawful (State.newHeadCheck_lawful (State.coldWork_lawful
    ((State.request_same _ _ _).lawful ((State.recordQueued_same hd _).lawful h)) _))

theorem State.strayEntry_lawful {s : State} (h : Lawful s) (hs : s.mode ≠ .unconfigured) :
    Lawful s.strayEntry := by
  unfold State.strayEntry
  split
  · dsimp only
    split
    · exact State.enterSweeping_lawful (s := s.pushRecord _) h.1.1 h.2 h.1.2.1 _
    · rename_i rest
      refine State.fill_lawful ⟨⟨h.1.1, h.1.2.1, fun hm => ?_⟩, h.2⟩
      exact hm.elim (fun e => absurd e rest) fun e => absurd e hs
  · exact (s.jamLane_same _).lawful h

theorem State.entryBlocks_lawful {s : State} (h : Lawful s) : Lawful s.entryBlocks := by
  refine State.sensorEvent_lawful h .entry true (effect := fun s =>
    match s.divert.records with
    | d :: rest => s.complete d rest
    | [] => s.strayEntry) fun level mode => ?_
  split
  · rename_i records
    exact State.complete_lawful level records
  · exact State.strayEntry_lawful level mode

theorem State.headBlocks_lawful {s : State} (h : Lawful s) : Lawful s.headBlocks := by
  refine State.sensorEvent_lawful h .head true (effect := fun s =>
    (s.withLane { s.lane with waits := { s.lane.waits with head := none } }).fill) fun level _ => ?_
  refine State.fill_lawful (Same.lawful (State.withLane_same _ ?_ ?_ ?_) level)
  exacts [rfl, rfl, id]

/-- The arriving tote is presented or released (R113). -/
theorem State.arrive_lawful {s : State} (h : Lawful s) {q : LaneRec}
    (face : s.lane.face = .arriving) : Lawful (s.arrive q) := by
  obtain ⟨unlit, lane⟩ := (dark_iff s).mp (h.dark (by rw [face]; decide))
  have live := lane.live (by rw [face]; decide)
  unfold State.arrive
  extract_lets _ _ s1 _ s2 s3
  have unlit1 : Unlit s1 := unlit.relaned (s.withLane_frame _)
  split
  · exact State.beginRelease_lawful unlit1 rfl live
  · have dark : Dark s2 := (dark_iff s2).mpr ⟨unlit1.relaned (s1.withLane_frame _),
      ⟨fun _ => ⟨fun e => (by cases e), fun e => (by cases e)⟩, fun _ => rfl⟩, fun hm => absurd hm live⟩
    split
    · exact State.preemptOrRequest_lawful dark rfl
    · exact State.requestLine_lawful dark rfl

theorem State.faceBlocks_lawful {s : State} (h : Lawful s) : Lawful s.faceBlocks := by
  refine State.sensorEvent_lawful h .face true (effect := fun s =>
    match s.lane.face, s.lane.faceRec with
    | .arriving, some q => s.arrive q
    | _, _ => if s.mode = .sweeping then s.fill else s) fun level _ => ?_
  split
  · rename_i face _
    exact State.arrive_lawful level face
  · split
    · exact State.fill_lawful level
    · exact level

/-- The parked tote has left the face (R117). -/
theorem State.parked_lawful {s : State} (h : Lawful s) (face : s.lane.face = .parking) :
    Lawful s.parked := by
  obtain ⟨unlit, lane⟩ := (dark_iff s).mp (h.dark (by rw [face]; decide))
  have record : s.lane.faceRec = none := by
    cases hr : s.lane.faceRec with
    | none => rfl
    | some q => exact absurd face (lane.1.mp (by rw [hr]; rfl)).2
  exact State.fill_lawful ((unlit.relaned (s.withLane_frame _)).lawful_of_none record (.inl rfl)
    fun hm => absurd hm (lane.live (by rw [face]; decide)))

theorem State.parkBlocks_lawful {s : State} (h : Lawful s) : Lawful s.parkBlocks := by
  refine State.sensorEvent_lawful h .park true (effect := fun s =>
    if s.lane.face = .parking then s.parked else if s.mode = .sweeping then s.fill else s)
    fun level _ => ?_
  split
  · rename_i face
    exact State.parked_lawful level face
  · split
    · exact State.fill_lawful level
    · exact level

theorem State.exitBlocks_lawful {s : State} (h : Lawful s) : Lawful s.exitBlocks := by
  refine State.sensorEvent_lawful h .exit true (effect := fun s =>
    if s.mode = .sweeping then s.fill else s) fun level _ => ?_
  split
  · exact State.fill_lawful level
  · exact level

theorem State.mergeOut_same (s : State) (q : LaneRec) : Same s (s.mergeOut q) :=
  (s.mergeOut_frame q).same (by simp) (by simp) (by simp) (by simp) (by simp) (by simp)

theorem State.leaves_lawful {s : State} (h : Lawful s) (face : s.lane.face = .leaving)
    (q : LaneRec) : Lawful (s.leaves q) := by
  obtain ⟨unlit, lane⟩ := (dark_iff s).mp (h.dark (by rw [face]; decide))
  unfold State.leaves
  extract_lets _ _ s1
  have gone : Lawful s1 := (unlit.relaned (s.withLane_frame _)).lawful_of_none rfl (.inl rfl)
    fun hm => absurd hm (lane.live (by rw [face]; decide))
  exact State.sweepTest_lawful (State.drainTest_lawful (State.fill_lawful
    ((s1.mergeOut_same q).lawful gone)))

theorem State.exitClears_lawful {s : State} (h : Lawful s) : Lawful s.exitClears := by
  refine State.sensorEvent_lawful h .exit false (effect := fun s =>
    match s.lane.face, s.lane.faceRec with
    | .leaving, some q => s.leaves q
    | _, _ => s.sweepTest) fun level _ => ?_
  split
  · rename_i face _
    exact State.leaves_lawful level face _
  · exact State.sweepTest_lawful level

theorem State.sensorClears_lawful {s : State} (h : Lawful s) (x : Sensor) :
    Lawful (s.sensorClears x) :=
  State.sensorEvent_lawful h x false fun level _ => State.sweepTest_lawful level

theorem State.mergeGap_lawful {s : State} (h : Lawful s) (g : Bool) :
    Lawful ((s.withLane { s.lane with gap := g }).fieldEvent State.tryLeave) := by
  have level : Lawful (s.withLane { s.lane with gap := g }) :=
    Same.lawful ⟨⟨⟨rfl, rfl, rfl, id⟩, rfl, fun _ => rfl⟩, rfl, rfl, rfl, rfl⟩ h
  unfold State.fieldEvent
  split
  · exact (State.tryLeave_lawful level).settle
  · exact level

theorem State.divertStep_same (s : State) : Same s s.divertStep := by
  unfold State.divertStep
  split
  · exact .refl _
  · rename_i d rest hd
    split
    · unfold State.timeOut
      extract_lets s1 _ s2 s3
      have divert : s1.divert = s.divert := (State.raise_frame _ _ _).divert_eq (by simp)
      have gone : Same s1 s2 := by
        refine ⟨⟨⟨rfl, rfl, rfl, fun empty => ?_⟩, rfl, fun _ => rfl⟩, rfl, rfl, rfl, rfl⟩
        simp [State.laneEmpty, divert, hd] at empty
      exact (State.place_same _ _).after ((State.request_same _ _ _).after
        (gone.after (State.raise_same _ _ _)))
    · exact .refl _

theorem State.divertSteps_same (n : Nat) (s : State) : Same s (State.divertSteps n s) := by
  induction n generalizing s with
  | zero => exact .refl _
  | succ n ih => exact (ih _).after s.divertStep_same

theorem State.pulse_lawful {s : State} (h : Lawful s) : Lawful s.pulse := by
  have counted : Lawful s.advanceCount :=
    Same.lawful ⟨⟨⟨rfl, rfl, rfl, id⟩, rfl, fun _ => rfl⟩, rfl, rfl, rfl, rfl⟩ h
  unfold State.pulse
  extract_lets s1 s2
  split
  · have removed : Same s1 s2 := (State.overdueSteps_frame _ _).same (by simp) (by simp) (by simp)
      (by simp) (by simp) (by simp)
    exact (State.drainTest_lawful (((State.divertSteps_same _ _).after removed).lawful
      counted)).settle
  · exact counted

theorem State.stallWork_same (s : State) : Same s s.stallWork := by
  unfold State.stallWork
  split
  · exact .refl _
  · rename_i q hq
    split
    · refine (State.raise_same _ _ _).after (s.withLane_same rfl ?_ id)
      rw [hq]
      rfl
    · exact .refl _

theorem State.countMergeWait_same (s : State) : Same s s.countMergeWait := by
  unfold State.countMergeWait
  split
  · refine s.withLane_same rfl ?_ id
    rw [Option.map_map]
    rfl
  · exact .refl _

theorem State.refreshWork_same (s : State) : Same s s.refreshWork :=
  s.refreshWork_frame.same (by simp) (by simp) (by simp) (by simp) (by simp) (by simp)

theorem State.countRefresh_same (s : State) : Same s s.countRefresh :=
  s.countRefresh_frame.same (by simp) (by simp) (by simp) (by simp) (by simp) (by simp)

theorem State.tick_lawful {s : State} (h : Lawful s) : Lawful s.tick := by
  have clock : Lawful s.advanceClock :=
    Same.lawful ⟨⟨⟨rfl, rfl, rfl, id⟩, rfl, fun _ => rfl⟩, rfl, rfl, rfl, rfl⟩ h
  unfold State.tick
  extract_lets s1 s2 s3
  split
  · have aged : Same s1 s1.ageStations.ageEntries :=
      ⟨⟨⟨rfl, rfl, rfl, id⟩, rfl, fun _ => rfl⟩, rfl, rfl, rfl, rfl⟩
    have waited : Same s1 s2 :=
      (State.stallWork_same _).after ((State.countMergeWait_same _).after aged)
    have cold : Lawful s3 :=
      State.reurgent_lawful (State.coldTick_lawful _ (waited.lawful clock)) _
    exact (((State.countRefresh_same _).after (State.checkWants_same _ _)).lawful cold).settle
  · exact clock

theorem State.withPicker_same (s : State) {p : Picker} (active : p.active = s.picker.active)
    (put : p.putLight = s.picker.putLight) (tote : p.toteLight = s.picker.toteLight)
    (display : p.display = s.picker.display) : Same s { s with picker := p } :=
  ⟨⟨⟨rfl, rfl, rfl, id⟩, rfl, fun _ => rfl⟩, active, put, tote, display⟩

theorem State.passMs_lawful {s : State} (h : Lawful s) : Lawful s.passMs := by
  have picking : ∀ u : State, Same u u.pickingMs := by
    intro u
    unfold State.pickingMs
    refine (Same.foldl (fun s k => s.raise_same .beamStuck _) _ _).after ?_
    exact ⟨⟨⟨rfl, rfl, rfl, id⟩, rfl, fun _ => rfl⟩, rfl, rfl, rfl, rfl⟩
  have lane : ∀ u : State, Same u u.laneMs := by
    intro u
    have run : Same u (u.withLane { u.lane with waits := waitsMs u.lane.waits, sensors := sensorsMs u.lane.sensors }) :=
      ⟨⟨⟨rfl, rfl, rfl, id⟩, rfl, fun _ => rfl⟩, rfl, rfl, rfl, rfl⟩
    unfold State.laneMs
    dsimp only
    split
    · exact .refl _
    · split
      · exact run
      · refine (State.jamLane_same _ _).after (Same.after ?_ run)
        exact ⟨⟨⟨rfl, rfl, rfl, id⟩, rfl, fun _ => rfl⟩, rfl, rfl, rfl, rfl⟩
  unfold State.passMs
  split
  · refine Lawful.settle (((lane _).after (picking _)).lawful ?_)
    exact (s.lineMs_frame.same (by simp) (by simp) (by simp) (by simp) (by simp) (by simp)).lawful h
  · exact h

theorem State.passAll_lawful (n : Nat) {s : State} (h : Lawful s) : Lawful (State.passAll n s) := by
  induction n generalizing s with
  | zero => exact h
  | succ n ih => exact ih (State.passMs_lawful h)

/-- A counted put: the display shows what remains, or the line ends DONE (R24, R134). -/
theorem State.countPut_lawful {s : State} (h : Lawful s) {l : Line}
    (hl : activeLine s.demand.lines = some l) : Lawful (s.countPut l) := by
  obtain ⟨face, lit⟩ := h.of_activeLine hl
  obtain ⟨mem, active⟩ := activeLine_mem hl
  have own : ∀ n ∈ s.demand.lines, n.tag = l.tag → n = l := fun n hn =>
    eq_of_tag_eq h.1.1.2.1 hn mem
  unfold State.countPut
  dsimp only
  split
  · rename_i short
    have kept := State.setPuts_demandKept mem short
    refine ⟨⟨kept.lines h.1.1, (SameFace.mk rfl rfl rfl id : SameFace s _).laneLaw h.1.2⟩,
      (presentLaw_iff _).mpr ⟨fun m hm hs => ?_, .inl ⟨face, { l with puts := l.puts + 1 }, ?_⟩⟩⟩
    · obtain ⟨n, hn, rfl⟩ := List.mem_map.mp hm
      by_cases tag : n.tag = l.tag
      · rw [if_pos tag, own n hn tag] at hs
        exact absurd (active.symm.trans hs) (by decide)
      · rw [if_neg tag] at hs ⊢
        exact ((presentLaw_iff s).mp h.2).1 n hn hs
    · refine { lit with mem := ?_, only := fun m hm ha => ?_, display := rfl }
      · exact List.mem_map.mpr ⟨l, mem, if_pos rfl⟩
      · obtain ⟨n, hn, rfl⟩ := List.mem_map.mp hm
        by_cases tag : n.tag = l.tag
        · rw [if_pos tag, own n hn tag]
        · rw [if_neg tag] at ha
          exact absurd (congrArg Line.tag (lit.only n hn ha)) tag
  · rename_i last
    have kept := State.donePut_demandKept mem active last
    have both : (s.setPuts l.tag (l.puts + 1)).setLineState l.tag .done =
        s.withLines (s.demand.lines.map fun n =>
          if (if n.tag = l.tag then { n with puts := l.puts + 1 } else n).tag = l.tag then
            { (if n.tag = l.tag then { n with puts := l.puts + 1 } else n) with state := .done }
          else if n.tag = l.tag then { n with puts := l.puts + 1 } else n) := by
      simp only [State.setLineState, State.setPuts, State.withLines_lines, List.map_map]
      rfl
    have idle : Idle ((s.setPuts l.tag (l.puts + 1)).setLineState l.tag .done) := by
      have lines := kept.lines h.1.1
      rw [both] at lines ⊢
      refine lit.idle_of_map h lines (fun n tag => ?_) fun n tag => ?_
      · simp [tag]
      · simp [tag]
    have raised := (State.raise_same _ .lineDone (l.tag.setWidth 32)).toSameLines.idle idle
    exact (State.lineBoundary_lawful raised.leaveActive l).settle

theorem State.beamBreak_lawful {s : State} (h : Lawful s) (k : PutIdx) :
    Lawful (s.beamBreak k) := by
  have broken : ∀ f, Lawful (s.setBeam k f) := fun f =>
    (s.withPicker_same rfl rfl rfl rfl).lawful h
  have judged : ∀ u : State, Lawful u → Lawful (u.judgeBreak k) := by
    intro u hu
    unfold State.judgeBreak
    split
    · exact hu
    · split
      · exact (u.raise_same _ _).lawful hu
      · split
        · rename_i l hl
          split
          · exact State.countPut_lawful hu hl
          · exact (u.raise_same _ _).lawful hu
        · exact (u.raise_same _ _).lawful hu
  unfold State.beamBreak
  split
  · exact judged _ (broken _)
  · exact broken _

theorem State.shortKey_lawful {s : State} (h : Lawful s) : Lawful s.shortKey := by
  unfold State.shortKey
  split
  · exact h
  · rename_i l hl
    have idle := (h.of_activeLine hl).2.idle h (x := .short) (by decide)
    have raised := (State.raise_same _ .lineShort
      (BitVec.ofNat 32 (l.tag.toNat * 256 + l.puts))).toSameLines.idle idle
    exact (State.lineBoundary_lawful raised.leaveActive l).settle

/-! ### Every command, and every step (O60) -/

theorem exec_lawful (i : Instr) {s : State} (h : Lawful s) :
    ∃ t, exec i s = .next t ∧ Lawful t := by
  by_cases apart : Block.demand ∉ commandBlocks i ∧ Block.puts ∉ commandBlocks i ∧
      Block.picker ∉ commandBlocks i ∧ Block.divert ∉ commandBlocks i ∧
      Block.lane ∉ commandBlocks i ∧ Block.modeCtl ∉ commandBlocks i
  · obtain ⟨t, run, frame⟩ := exec_frame i s
    obtain ⟨demand, puts, picker, divert, lane, mode⟩ := apart
    exact ⟨t, run, (frame.same demand puts picker divert lane mode).lawful h⟩
  cases i with
  | powerOnReset => exact ⟨_, rfl, lawful_of_reset rfl rfl rfl ⟨rfl, rfl, rfl, rfl⟩ rfl⟩
  | transaction bits =>
    have shifted : Same s (s.shiftOut bits.length) :=
      ⟨⟨⟨rfl, rfl, rfl, id⟩, rfl, fun _ => rfl⟩, rfl, rfl, rfl, rfl⟩
    exact ⟨_, rfl, State.takeFrame_lawful (shifted.lawful h) _⟩
  | badFrame bytes => exact ⟨_, rfl, State.takeFrame_lawful h bytes⟩
  | configure f => exact ⟨_, rfl, State.configure_lawful h f⟩
  | setTime t => exact ⟨_, rfl, State.setTime_lawful h t⟩
  | restart => exact ⟨_, rfl, State.restart_lawful h⟩
  | loadLine tag tote handle cls qty prio =>
    exact ⟨_, rfl, State.loadLine_lawful h tag tote handle cls qty prio⟩
  | cancelLine tag => exact ⟨_, rfl, State.cancelLine_lawful h tag⟩
  | placeOrder x position deadline => exact ⟨_, rfl, State.placeOrder_lawful h x position deadline⟩
  | closeOrder x => exact ⟨_, rfl, State.closeOrder_lawful h x⟩
  | releaseFace => exact ⟨_, rfl, State.releaseFace_lawful h⟩
  | rest => exact ⟨_, rfl, State.runCommand_lawful h .rest⟩
  | wake => exact ⟨_, rfl, State.runCommand_lawful h .wake⟩
  | clearJam => exact ⟨_, rfl, State.clearJam_lawful h⟩
  | encoderPulse => exact ⟨_, rfl, State.pulse_lawful h⟩
  | divertTimeout =>
    refine ⟨_, rfl, ?_⟩
    split
    · exact (State.drainTest_lawful (s.divertStep_same.lawful h)).settle
    · exact h
  | oneSecondTick => exact ⟨_, rfl, State.tick_lawful h⟩
  | wantRefresh T =>
    refine ⟨_, rfl, ?_⟩
    split
    · split
      · exact (s.announce_same _ _).lawful h
      · exact h
    · exact h
  | coldAlert T => exact ⟨_, rfl, (s.coldAlertWork_same T).lawful h⟩
  | coldBreach T =>
    refine ⟨_, rfl, ?_⟩
    split
    · exact (State.reurgent_lawful (State.breach_lawful h T) _).settle
    · exact h
  | mergeStall => exact ⟨_, rfl, s.stallWork_same.lawful h⟩
  | laneJam w => exact ⟨_, rfl, State.passAll_lawful _ h⟩
  | unaccountedSensor x => exact ⟨_, rfl, State.passAll_lawful _ h⟩
  | settleEnd k => exact ⟨_, rfl, State.passAll_lawful _ h⟩
  | beamStuck k => exact ⟨_, rfl, State.passAll_lawful _ h⟩
  | beamRecovered k => exact ⟨_, rfl, State.passAll_lawful _ h⟩
  | readerEvent r => exact ⟨_, rfl, State.readReport_lawful h r⟩
  | entrySeen => exact ⟨_, rfl, State.entryBlocks_lawful h⟩
  | headBlocked => exact ⟨_, rfl, State.headBlocks_lawful h⟩
  | faceArrived => exact ⟨_, rfl, State.faceBlocks_lawful h⟩
  | parkArrived => exact ⟨_, rfl, State.parkBlocks_lawful h⟩
  | merged => exact ⟨_, rfl, State.exitClears_lawful h⟩
  | mergeGap g => exact ⟨_, rfl, State.mergeGap_lawful h g⟩
  | sensorBlocked x =>
    refine ⟨_, rfl, ?_⟩
    cases x with
    | entry => exact State.entryBlocks_lawful h
    | head => exact State.headBlocks_lawful h
    | face => exact State.faceBlocks_lawful h
    | park => exact State.parkBlocks_lawful h
    | exit => exact State.exitBlocks_lawful h
  | sensorClear x =>
    refine ⟨_, rfl, ?_⟩
    cases x with
    | exit => exact State.exitClears_lawful h
    | entry => exact State.sensorClears_lawful h .entry
    | head => exact State.sensorClears_lawful h .head
    | face => exact State.sensorClears_lawful h .face
    | park => exact State.sensorClears_lawful h .park
  | beamBreak k => exact ⟨_, rfl, State.beamBreak_lawful h k⟩
  | beamClear k => exact ⟨_, rfl, (s.withPicker_same rfl rfl rfl rfl).lawful h⟩
  | shortKey =>
    refine ⟨_, rfl, ?_⟩
    split
    · exact State.shortKey_lawful h
    · exact h
  | logonKey => exact ⟨_, rfl, State.wakeUp_lawful h⟩
  | _ =>
    exact (apart ⟨by simp [commandBlocks], by simp [commandBlocks], by simp [commandBlocks],
      by simp [commandBlocks], by simp [commandBlocks], by simp [commandBlocks]⟩).elim

theorem step_lawful {s t : State} (h : step s = .next t) (k : Lawful s) : Lawful t := by
  unfold step at h
  split at h
  · cases h
    exact State.passMs_lawful k
  · rename_i c rest _
    obtain ⟨u, run, lawful⟩ := exec_lawful c (s := { s with pending := rest })
      (Same.lawful ⟨⟨⟨rfl, rfl, rfl, id⟩, rfl, fun _ => rfl⟩, rfl, rfl, rfl, rfl⟩ k)
    obtain rfl : u = t := by simpa [run] using h
    exact lawful

theorem step_ableKept {s t : State} (h : step s = .next t) : AbleKept s t := by
  unfold step at h
  split at h
  · cases h
    exact s.passMs_ableKept
  · rename_i c rest _
    obtain ⟨u, run, kept⟩ := exec_ableKept c { s with pending := rest }
    obtain rfl : u = t := by simpa [run] using h
    exact fun settled law => kept settled law

/-- Settles O60: the face and its ACTIVE line by a case for each moment of a line, able and the outputs by the
end of each event. -/
theorem laneLawsKept : Obligations.LaneLawsKept := by
  unfold Obligations.LaneLawsKept
  intro s t h
  refine ⟨fun lane present lines => ?_, fun able outputs => ?_⟩
  · obtain ⟨⟨-, lane⟩, present⟩ := step_lawful h ⟨⟨lines, lane⟩, present⟩
    exact ⟨lane, present⟩
  · obtain ⟨now, law⟩ := (ableLaw_iff s).mp able
    obtain ⟨⟨now, outputs⟩, law⟩ := step_ableKept h ⟨now, outputs⟩ law
    exact ⟨(ableLaw_iff t).mpr ⟨now, law⟩, outputs⟩

end Sys2Proof.Machine
end

section
/-! PROOFS. The frames of the part's two links: commands (O4), bench line frames (O5), transactions (O6) and bad
frames (O7). -/

namespace Sys2Proof.Machine

/-! ### Numbers of more than one byte -/

theorem word16_bytes (x : BitVec 16) : word16 (x.extractLsb' 8 8) (x.extractLsb' 0 8) = x := by
  refine BitVec.eq_of_getLsbD_eq fun i hi => ?_
  simp only [word16, BitVec.getLsbD_append, BitVec.getLsbD_extractLsb', Nat.zero_add]
  split
  · simp [*]
  · have : 8 + (i - 8) = i := by omega
    have : i - 8 < 8 := by omega
    simp [*]

theorem word32_bytes (x : BitVec 32) :
    word32 (x.extractLsb' 24 8) (x.extractLsb' 16 8) (x.extractLsb' 8 8) (x.extractLsb' 0 8) = x := by
  refine BitVec.eq_of_getLsbD_eq fun i hi => ?_
  simp only [word32, BitVec.getLsbD_append, BitVec.getLsbD_extractLsb', Nat.zero_add]
  split
  · simp [*]
  · split
    · have : 8 + (i - 8) = i := by omega
      simp [*]
    · split
      · have : 16 + (i - 8 - 8) = i := by omega
        simp [*]
      · have : 24 + (i - 8 - 8 - 8) = i := by omega
        have : i - 8 - 8 - 8 < 8 := by omega
        simp [*]

theorem words16_flatMap (ws : List (BitVec 16)) : words16 (ws.flatMap bytes16) = some ws := by
  induction ws with
  | nil => rfl
  | cons w ws ih => simp [List.flatMap_cons, bytes16, words16, ih, word16_bytes]

theorem flatMap_bytes16_length (ws : List (BitVec 16)) :
    (ws.flatMap bytes16).length = 2 * ws.length := by
  induction ws with
  | nil => rfl
  | cons w ws ih =>
    simp only [List.flatMap_cons, List.length_append, ih, bytes16, List.length_cons, List.length_nil]
    omega

/-! ### Command frames (R156, R157) -/

theorem byteSum_append (bs cs : List Byte) : byteSum (bs ++ cs) = byteSum bs + byteSum cs := by
  have from_ : ∀ (cs : List Byte) (x : Byte), cs.foldl (· + ·) x = x + cs.foldl (· + ·) 0 := by
    intro cs
    induction cs with
    | nil => intro x; simp
    | cons c cs ih =>
      intro x
      rw [List.foldl_cons, List.foldl_cons, ih, ih (0 + c), zero_add, add_assoc]
  rw [byteSum, List.foldl_append, from_]
  rfl

theorem byteSum_withCheckByte (bs : List Byte) : byteSum (withCheckByte bs) = 0 := by
  rw [withCheckByte, byteSum_append]
  simp [byteSum]

theorem fieldBytes_length_le (c : LinkCommand) : c.fieldBytes.length ≤ 42 := by
  cases c with
  | configure f =>
    rw [LinkCommand.fieldBytes, flatMap_bytes16_length]
    rfl
  | _ => simp [LinkCommand.fieldBytes, bytes16, bytes32]

theorem commandOfFields_fieldBytes (c : LinkCommand) :
    commandOfFields c.code c.fieldBytes = some c := by
  cases c with
  | configure f =>
    show ((words16 (f.words.flatMap bytes16)).bind configOfWords).map LinkCommand.configure = _
    rw [words16_flatMap]
    rfl
  | setTime t =>
    show some (LinkCommand.setTime _) = _
    rw [word32_bytes]
  | loadLine tag tote handle cls qty prio =>
    show some (LinkCommand.loadLine _ _ _ _ _ _) = _
    rw [word16_bytes, word32_bytes, word16_bytes]
  | cancelLine tag =>
    show some (LinkCommand.cancelLine _) = _
    rw [word16_bytes]
  | placeOrder h position deadline =>
    show some (LinkCommand.placeOrder _ _ _) = _
    rw [word16_bytes, word32_bytes]
  | closeOrder h =>
    show some (LinkCommand.closeOrder _) = _
    rw [word16_bytes]
  | readLine tag =>
    show some (LinkCommand.readLine _) = _
    rw [word16_bytes]
  | _ => rfl

theorem encodeCommand_eq (c : LinkCommand) : encodeCommand c =
    c.code :: BitVec.ofNat 8 c.fieldBytes.length ::
      (c.fieldBytes ++ [-(byteSum ([c.code, BitVec.ofNat 8 c.fieldBytes.length] ++ c.fieldBytes))]) :=
  rfl

theorem decodeCommand_encodeCommand (c : LinkCommand) : decodeCommand (encodeCommand c) = some c := by
  have few := fieldBytes_length_le c
  have sum : byteSum (encodeCommand c) = 0 := byteSum_withCheckByte _
  have len : (BitVec.ofNat 8 c.fieldBytes.length).toNat = c.fieldBytes.length := by
    rw [BitVec.toNat_ofNat]
    omega
  rw [encodeCommand_eq] at sum ⊢
  rw [decodeCommand, if_pos ⟨by rw [len]; simp, sum⟩, len, List.take_left,
    commandOfFields_fieldBytes]

/-- Settles O4, by the fields of each command. -/
theorem commandFrameRoundTrip : Obligations.CommandFrameRoundTrip := by
  unfold Obligations.CommandFrameRoundTrip
  refine fun c => ⟨decodeCommand_encodeCommand c, byteSum_withCheckByte _, ?_⟩
  simp [encodeCommand_eq]

/-! ### Bench line frames (R50) -/

/-- Runs of one length each stand at its multiples. -/
theorem getElem?_flatMap_of_length {α : Type} {f : α → List Bool} {k : Nat}
    (len : ∀ a, (f a).length = k) (as : List α) (n i : Nat) (hi : i < k) :
    (as.flatMap f)[k * n + i]? = as[n]?.bind fun a => (f a)[i]? := by
  induction as generalizing n with
  | nil => simp
  | cons a as ih =>
    rw [List.flatMap_cons]
    cases n with
    | zero =>
      rw [Nat.mul_zero, Nat.zero_add, List.getElem?_append_left (by rw [len]; exact hi)]
      rfl
    | succ n =>
      rw [List.getElem?_append_right (by rw [len, Nat.mul_succ]; omega), len, List.getElem?_cons_succ,
        ← ih n]
      congr 1
      rw [Nat.mul_succ]
      omega

@[simp] theorem characterBits_length (b : Byte) : (characterBits b).length = 10 := rfl

theorem lineBits_length (bs : List Byte) : (lineBits bs).length = 10 * bs.length := by
  induction bs with
  | nil => rfl
  | cons b bs ih =>
    rw [lineBits, List.flatMap_cons, List.length_append, ← lineBits, ih, characterBits_length,
      List.length_cons]
    omega

theorem bytesAfterQuiet_lineBits (bs : List Byte) : bytesAfterQuiet 0 (lineBits bs) = some bs := by
  induction bs with
  | nil => rfl
  | cons b bs ih =>
    rw [lineBits, List.flatMap_cons, ← lineBits, bytesAfterQuiet_start, ih]
    rfl

theorem bytesOfLine_lineBits (bs : List Byte) : bytesOfLine (lineBits bs) = some bs := by
  have first : (lineBits bs).dropWhile id = lineBits bs := by
    cases bs <;> rfl
  rw [bytesOfLine, first, bytesAfterQuiet_lineBits]

theorem byteBits_getElem? (b : Byte) {i : Nat} (hi : i < 8) : (byteBits b)[i]? = some (b.getMsbD i) := by
  unfold byteBits
  interval_cases i <;> rfl

/-- A character: the start bit, the data bits from the most significant, the stop bit. -/
theorem lineBits_character {bs : List Byte} {n : Nat} {b : Byte} (hb : bs[n]? = some b) :
    (lineBits bs)[10 * n]? = some false ∧ (lineBits bs)[10 * n + 9]? = some true ∧
      ∀ i, i < 8 → (lineBits bs)[10 * n + 1 + i]? = some (b.getMsbD i) := by
  have at_ : ∀ i, i < 10 → (lineBits bs)[10 * n + i]? = (characterBits b)[i]? := fun i hi => by
    rw [lineBits, getElem?_flatMap_of_length characterBits_length bs n i hi, hb]
    rfl
  refine ⟨(at_ 0 (by decide)).trans rfl, (at_ 9 (by decide)).trans rfl, fun i hi => ?_⟩
  rw [Nat.add_assoc, Nat.add_comm 1 i, at_ (i + 1) (by omega)]
  show (byteBits b ++ [true])[i]? = _
  rw [List.getElem?_append_left hi, byteBits_getElem? b hi]

theorem lineClass_le (x : FrameBody) : x.lineClass ≤ 3 := by
  cases x <;> simp [FrameBody.lineClass]

theorem arbitrationByte_toNat (f : Frame) :
    f.arbitrationByte.toNat = f.body.lineClass * 32 + f.sender.val := by
  have := lineClass_le f.body
  have := f.sender.isLt
  rw [Frame.arbitrationByte, BitVec.toNat_ofNat]
  omega

theorem bodyOfBytes_toBytes (x : FrameBody) : bodyOfBytes x.kindCode x.toBytes = some x := by
  cases x with
  | infeed a =>
    show some (FrameBody.infeed ⟨_, word16 _ _, _, word16 _ _, word16 _ _⟩) = _
    rw [word16_bytes, word16_bytes, word16_bytes]
  | release a =>
    show some (FrameBody.release ⟨_, word16 _ _, _, word16 _ _, word16 _ _⟩) = _
    rw [word16_bytes, word16_bytes, word16_bytes]
  | want w =>
    show some (FrameBody.want _) = _
    rw [word16_bytes]
  | _ => rfl

theorem decodeFrame_encodeFrame (f : Frame) : decodeFrame (encodeFrame f) = some f := by
  have bytes : encodeFrame f = f.arbitrationByte :: f.body.kindCode ::
      f.tote.extractLsb' 24 8 :: f.tote.extractLsb' 16 8 :: f.tote.extractLsb' 8 8 ::
      f.tote.extractLsb' 0 8 :: (f.body.toBytes ++ bytes16 (crc16 f.head)) := rfl
  have short : (f.body.toBytes ++ bytes16 (crc16 f.head)).length - 2 = f.body.toBytes.length := by
    simp [bytes16]
  have head : crc16 (f.arbitrationByte :: f.body.kindCode :: f.tote.extractLsb' 24 8 ::
      f.tote.extractLsb' 16 8 :: f.tote.extractLsb' 8 8 :: f.tote.extractLsb' 0 8 ::
      f.body.toBytes) = crc16 f.head := rfl
  have byte := arbitrationByte_toNat f
  have classed := lineClass_le f.body
  have sender := f.sender.isLt
  have number : f.arbitrationByte.toNat % 32 = f.sender.val := by omega
  rw [bytes, decodeFrame]
  rw [short, List.take_left, List.drop_left, bodyOfBytes_toBytes, bytes16]
  dsimp only
  rw [if_pos ⟨by rw [head, word16_bytes], by omega⟩, word32_bytes]
  congr

/-- Settles O5, by the bits of each character and the bytes of each kind. -/
theorem benchLineFrameRoundTrip : Obligations.BenchLineFrameRoundTrip := by
  unfold Obligations.BenchLineFrameRoundTrip
  refine ⟨fun bytes => ⟨bytesOfLine_lineBits bytes, lineBits_length bytes,
    fun n b hb => lineBits_character hb⟩, fun f => ⟨?_, decodeFrame_encodeFrame f, ?_, ?_⟩⟩
  · rw [decodeLine, frameBits, bytesOfLine_lineBits]
    exact decodeFrame_encodeFrame f
  · show some f.arbitrationByte.toNat = _
    rw [arbitrationByte_toNat f]
  · obtain ⟨sender, tote, body⟩ := f
    cases body <;> rfl

/-! ### Transactions and bad frames (R156, R157) -/

theorem exec_transaction (bits : List Bool) (s : State) :
    exec (.transaction bits) s =
      .next ((s.shiftOut bits.length).takeFrame (bytesOfLink bits)) := rfl

theorem exec_badFrame (bytes : List Byte) (s : State) :
    exec (.badFrame bytes) s = .next (s.takeFrame bytes) := rfl

theorem State.takeFrame_of_none {s : State} {bytes : List Byte}
    (h : bytes = [] ∨ bytes.head? = some 0) : s.takeFrame bytes = s := by
  rcases bytes with _ | ⟨b, rest⟩
  · rfl
  · have zero : b = 0 := by simpa using h
    simp [State.takeFrame, zero]

theorem State.takeFrame_command (s : State) (c : LinkCommand) :
    s.takeFrame (encodeCommand c) = s.runCommand c := by
  have code : c.code ≠ 0 := by
    cases c <;> simp [LinkCommand.code]
  have decoded := decodeCommand_encodeCommand c
  rw [encodeCommand_eq] at decoded ⊢
  rw [State.takeFrame]
  rw [if_neg code, decoded]

/-- What goes out: the reply's bits, and zero bits after them (R156). -/
theorem State.shiftOut_bits (s : State) {n i : Nat} (hi : i < n) :
    (s.shiftOut n).link.shiftedOut[i]? = some (((linkBits s.link.reply)[i]?).getD false) := by
  show ((linkBits s.link.reply ++ List.replicate n false).take n)[i]? = _
  rw [List.getElem?_take_of_lt hi]
  by_cases h : i < (linkBits s.link.reply).length
  · rw [List.getElem?_append_left h, List.getElem?_eq_getElem h]
    rfl
  · rw [List.getElem?_append_right (by omega), List.getElem?_replicate, if_pos (by omega),
      List.getElem?_eq_none (by omega)]
    rfl

/-- Settles O6, by what the bits shifted in spell. -/
theorem transaction : Obligations.Transaction := by
  unfold Obligations.Transaction
  refine ⟨fun bytes => ⟨linkBits_length bytes, fun n b hb i hi => ?_⟩,
    fun bytes cut bits s short hbits => ?_⟩
  · rw [linkBits, getElem?_flatMap_of_length byteBits_length bytes n i hi, hb]
    exact byteBits_getElem? b hi
  have spelt : bytesOfLink bits = bytes := by rw [hbits, bytesOfLink_linkBits bytes cut short]
  rw [exec_transaction, spelt]
  refine ⟨fun none => ⟨_, rfl, ?_⟩, fun c hc => ?_, fun b rest _ _ _ => ?_⟩
  · rw [State.takeFrame_of_none none]
    exact ⟨s.shiftOut_frame _, rfl, s.shiftOut_length _, fun i hi => s.shiftOut_bits hi⟩
  · rw [hc, State.takeFrame_command, exec_commandRow]
    rfl
  · rw [exec_badFrame]
    rfl

theorem words16_length {fs : List Byte} {ws : List (BitVec 16)} (h : words16 fs = some ws) :
    fs.length = 2 * ws.length := by
  induction fs using words16.induct generalizing ws with
  | case1 =>
    cases h
    rfl
  | case2 a b rest ih =>
    obtain ⟨vs, hv, rfl⟩ := Option.map_eq_some_iff.mp h
    have := ih hv
    simp only [List.length_cons] at this ⊢
    omega
  | case3 => cases h

theorem configOfWords_length {ws : List (BitVec 16)} {f : ConfigFields}
    (h : configOfWords ws = some f) : ws.length = 21 := by
  unfold configOfWords at h
  split at h
  · rfl
  · cases h

/-- The fields that spell a command number as many bytes as the command has (R157). -/
theorem commandOfFields_some {code : Byte} {fields : List Byte} {c : LinkCommand}
    (h : commandOfFields code fields = some c) :
    c.code.toNat = code.toNat ∧ c.fieldBytes.length = fields.length := by
  unfold commandOfFields at h
  obtain ⟨n, hn⟩ : ∃ n, code.toNat = n := ⟨_, rfl⟩
  rw [hn] at h ⊢
  match n with
  | 0 => cases h
  | 1 =>
    obtain ⟨f, hf, rfl⟩ := Option.map_eq_some_iff.mp h
    obtain ⟨ws, hw, hf⟩ := Option.bind_eq_some_iff.mp hf
    refine ⟨rfl, ?_⟩
    rw [words16_length hw, configOfWords_length hf]
    rfl
  | 3 | 8 | 9 | 10 | 11 | 12 | 15 | 17 | 19 | 20 | 21 =>
    rcases fields with _ | ⟨_, _⟩
    all_goals cases h
    exact ⟨rfl, rfl⟩
  | 14 | 16 =>
    rcases fields with _ | ⟨_, _ | ⟨_, _⟩⟩
    all_goals cases h
    exact ⟨rfl, rfl⟩
  | 5 | 7 | 18 =>
    rcases fields with _ | ⟨_, _ | ⟨_, _ | ⟨_, _⟩⟩⟩
    all_goals cases h
    exact ⟨rfl, rfl⟩
  | 13 =>
    rcases fields with _ | ⟨_, _ | ⟨_, _ | ⟨_, _ | ⟨_, _⟩⟩⟩⟩
    all_goals cases h
    exact ⟨rfl, rfl⟩
  | 2 =>
    rcases fields with _ | ⟨_, _ | ⟨_, _ | ⟨_, _ | ⟨_, _ | ⟨_, _⟩⟩⟩⟩⟩
    all_goals cases h
    exact ⟨rfl, rfl⟩
  | 6 =>
    rcases fields with
      _ | ⟨_, _ | ⟨_, _ | ⟨_, _ | ⟨_, _ | ⟨_, _ | ⟨_, _ | ⟨_, _ | ⟨_, _⟩⟩⟩⟩⟩⟩⟩⟩
    all_goals cases h
    exact ⟨rfl, rfl⟩
  | 4 =>
    rcases fields with
      _ | ⟨_, _ | ⟨_, _ | ⟨_, _ | ⟨_, _ | ⟨_, _ | ⟨_, _ | ⟨_, _ | ⟨_, _ | ⟨_, _ | ⟨_, _ | ⟨_,
        _ | ⟨_, _⟩⟩⟩⟩⟩⟩⟩⟩⟩⟩⟩⟩
    all_goals cases h
    exact ⟨rfl, rfl⟩
  | n + 22 => cases h

theorem decodeCommand_some {b : Byte} {rest : List Byte} {c : LinkCommand}
    (h : decodeCommand (b :: rest) = some c) :
    ∃ len more, rest = len :: more ∧ more.length = len.toNat + 1 ∧ byteSum (b :: rest) = 0 ∧
      c.code = b ∧ c.fieldBytes.length = len.toNat := by
  cases rest with
  | nil => cases h
  | cons len more =>
    rw [decodeCommand] at h
    split at h
    · rename_i ok
      obtain ⟨code, fields⟩ := commandOfFields_some h
      refine ⟨len, more, rfl, ok.1, ok.2, BitVec.eq_of_toNat_eq code, ?_⟩
      rw [fields, List.length_take]
      omega
    · cases h

theorem code_toNat_le (c : LinkCommand) : c.code.toNat ≤ 21 := by
  cases c <;> simp [LinkCommand.code]

/-- Settles O7: a frame that fails a check spells no command. -/
theorem badFrameIsAnswered : Obligations.BadFrameIsAnswered := by
  unfold Obligations.BadFrameIsAnswered
  intro b rest s hb bad
  have none : decodeCommand (b :: rest) = none := by
    cases h : decodeCommand (b :: rest) with
    | none => rfl
    | some c =>
      obtain ⟨len, more, rfl, count, sum, code, fields⟩ := decodeCommand_some h
      rcases bad with high | wrong | empty | ⟨len', head, wrong | other⟩
      · have := code_toNat_le c
        rw [code] at this
        omega
      · exact absurd sum wrong
      · cases empty
      · cases head
        rw [List.length_cons, count] at wrong
        exact absurd rfl wrong
      · cases head
        exact absurd fields (other c code)
  rw [exec_badFrame, State.takeFrame]
  rw [if_neg hb, none, State.reply_eq_answered]
  simp [replyFrame, withCheckByte, byteSum, statusCode]

end Sys2Proof.Machine
end

section
/-! PROOFS. What UNCONFIGURED refuses and discards (O8), the state after POWER_ON_RESET (O9), the record of an
accepted CONFIGURE (O10) and the claim weight (O20). -/

namespace Sys2Proof.Machine

/-! ### UNCONFIGURED (R105, R110, R133, R150, R157) -/

theorem State.configured_eq_false {s : State} (h : s.mode = .unconfigured) : s.configured = false := by
  have mode : s.modeCtl.mode = .unconfigured := h
  simp [State.configured, mode]

theorem exec_commandRow_unconfigured {s : State} (h : s.mode = .unconfigured) {c : LinkCommand}
    (configure : c.code ≠ 1) (status : c.code ≠ 17) (restart : c.code ≠ 3) :
    exec (commandRow c) s = .next (s.answered [c.code, 2, -(c.code + 2)]) := by
  have refused : s.runCommand c = s.reply c.code .notConfigured := by
    cases c
    case configure => exact absurd rfl configure
    case restart => exact absurd rfl restart
    case readStatus => exact absurd rfl status
    all_goals
      simp only [State.runCommand, State.setTime, State.loadLine, State.cancelLine,
        State.placeOrder, State.closeOrder, State.releaseFace, State.restCommand,
        State.wakeCommand, State.clearJam, State.retrack, State.setNotice, State.setFloor,
        State.readNotice, State.clearNotice, State.readLine, State.readLane, State.readTrack,
        State.readConfig, State.whenConfigured_unconfigured h, LinkCommand.code]
  rw [exec_commandRow, refused, State.reply_eq_answered]
  simp [replyFrame, withCheckByte, byteSum, statusCode]

theorem State.fieldEvent_unconfigured {s : State} (h : s.mode = .unconfigured)
    (effect : State → State) : s.fieldEvent effect = s := by
  rw [State.fieldEvent, State.configured_eq_false h]
  rfl

theorem State.fieldEvent_configured {s : State} (h : s.mode ≠ .unconfigured)
    (effect : State → State) : s.fieldEvent effect = (effect s).settleLane := by
  rw [State.fieldEvent, (State.configured_iff s).mpr h]
  rfl

/-- Outside the configured modes a sensor event is the change of its level. -/
theorem exec_sensor_unconfigured {s : State} (h : s.mode = .unconfigured) (x : Sensor) :
    exec (.sensorBlocked x) s = .next (s.sensorLevel x true) ∧
      exec (.sensorClear x) s = .next (s.sensorLevel x false) := by
  have level : ∀ b (effect : State → State),
      (s.sensorLevel x b).fieldEvent effect = s.sensorLevel x b := fun b effect =>
    State.fieldEvent_unconfigured (by exact h) effect
  cases x <;> exact ⟨congrArg _ (level true _), congrArg _ (level false _)⟩

theorem exec_beamBreak_unconfigured {s : State} (h : s.mode = .unconfigured) (k : PutIdx) :
    exec (.beamBreak k) s = .next (s.setBeam k fun b => { b with blocked := true }) := by
  show Host.Outcome.next (s.beamBreak k) = _
  rw [State.beamBreak, State.configured_eq_false h]
  rfl

/-- Settles O8, command by command and event by event. -/
theorem unconfigured : Obligations.Unconfigured := by
  unfold Obligations.Unconfigured
  intro s h
  have off := State.configured_eq_false h
  refine ⟨fun c => exec_commandRow_unconfigured h, fun r => ?_, ?_, ?_, fun x => ?_, fun x => ?_,
    rfl, rfl, rfl, rfl, rfl, fun g => ?_, fun k => ?_⟩
  · show Host.Outcome.next (s.readReport r) = _
    unfold State.readReport
    rw [off]
    rfl
  · show Host.Outcome.next (if s.configured then _ else _) = _
    rw [off]
    rfl
  · show Host.Outcome.next s.wakeUp = _
    rw [State.wakeUp, h]
  · refine ⟨_, (exec_sensor_unconfigured h x).1, rfl, ?_, fun y hy => ?_⟩
    · show sensorOf (setLevel s.lane.sensors x true) x = _
      rw [sensorOf_setLevel, if_pos rfl]
      rfl
    · show sensorOf (setLevel s.lane.sensors x true) y = _
      rw [sensorOf_setLevel, if_neg (Ne.symm hy)]
  · refine ⟨_, (exec_sensor_unconfigured h x).2, rfl, ?_, fun y hy => ?_⟩
    · show sensorOf (setLevel s.lane.sensors x false) x = _
      rw [sensorOf_setLevel, if_pos rfl]
      rfl
    · show sensorOf (setLevel s.lane.sensors x false) y = _
      rw [sensorOf_setLevel, if_neg (Ne.symm hy)]
  · show Host.Outcome.next (State.fieldEvent _ _) = _
    rw [State.fieldEvent_unconfigured (by exact h)]
    rfl
  · refine ⟨_, exec_beamBreak_unconfigured h k, rfl, ?_, fun j hj => ?_⟩
    · exact (getElem_modifyVec k _ _ k.val k.isLt).trans (if_pos rfl)
    · exact (getElem_modifyVec k _ _ j.val j.isLt).trans (if_neg fun e => hj (Fin.ext e))

/-! ### Power-on (R155) -/

/-- Settles O9: the reset state is written out block by block. -/
theorem powerOnReset : Obligations.PowerOnReset := by
  unfold Obligations.PowerOnReset
  refine ⟨fun s => ⟨s.powerOn, rfl, rfl, fun x => ?_, fun k => ?_⟩, rfl, rfl, rfl, rfl, rfl,
    puts_reset, rfl, rfl, rfl, rfl, rfl, fun i => ?_, rfl, rfl, rfl, rfl, rfl, rfl, rfl, rfl, rfl,
    rfl, rfl, rfl, rfl, rfl, rfl, rfl, rfl, rfl, rfl, rfl, rfl, rfl, rfl, fun k => ⟨?_, ?_⟩, rfl,
    rfl, rfl, rfl, rfl⟩
  · cases x <;> rfl
  · exact getElem_mapVec _ _ _ k.isLt
  · exact Vector.getElem_replicate i.isLt
  · exact Vector.getElem_replicate k.isLt
  · exact congrArg Beam.stuck (Vector.getElem_replicate (a := Beam.reset) k.isLt)

/-! ### The tuning fields (R13, R14) -/

/-- A tuning row whose default lies in its range, which holds what steps 1 to 3 of R13 give. -/
def TuningRow.tuned (e : TuningRow) : Prop :=
  e.held = (tune e.low e.high e.dflt e.zero e.sent).2 ∧ e.low ≤ e.dflt ∧ e.dflt ≤ e.high ∧
    (e.zero = true → e.low = 0)

theorem tune_held (lo hi dflt : Nat) (zero : Bool) (sent : BitVec 16) :
    (tune lo hi dflt zero sent).2 =
      if sent = 0 then dflt
      else if zero = true ∧ sent = 65535#16 then 0
      else max lo (min hi sent.toNat) := by
  rw [tune]
  by_cases none : sent = 0
  · simp only [if_pos none]
  · by_cases z : zero = true ∧ sent = 65535#16
    · simp [z]
    · have : (zero && sent == 65535#16) = false := by
        rw [Bool.eq_false_iff]
        simpa using z
      simp only [if_neg none, this, if_neg z, Bool.false_eq_true, if_false]

/-- A field is held at the value asked for where none was sent, where 65535 stands for 0, and where the
value sent is the one held (R13). -/
theorem tune_unclamped (lo hi dflt : Nat) (zero : Bool) (sent : BitVec 16) :
    (tune lo hi dflt zero sent).1 = (tune lo hi dflt zero sent).2 ↔
      sent = 0 ∨ (zero = true ∧ sent = 65535#16) ∨
        sent.toNat = (tune lo hi dflt zero sent).2 := by
  rw [tune]
  by_cases none : sent = 0
  · simp [none]
  · by_cases z : zero = true ∧ sent = 65535#16
    · simp [z]
    · have : (zero && sent == 65535#16) = false := by
        rw [Bool.eq_false_iff]
        simpa using z
      simp only [this, Bool.false_eq_true, if_false, none, z, false_or]

theorem TuningRow.tuned.spec {e : TuningRow} (h : e.tuned) :
    e.low ≤ e.held ∧ e.held ≤ e.high ∧
      e.held =
        if e.sent = 0 then e.dflt
        else if e.zero = true ∧ e.sent = 65535#16 then 0
        else max e.low (min e.high e.sent.toNat) := by
  obtain ⟨held, low, high, zero⟩ := h
  rw [tune_held] at held
  rw [held]
  split
  · exact ⟨low, high, rfl⟩
  · split
    · rename_i z
      exact ⟨(zero z.1).le, Nat.zero_le _, rfl⟩
    · exact ⟨by omega, by omega, rfl⟩

theorem tuningTable_tuned (f : ConfigFields) {e : TuningRow} (he : e ∈ tuningTable f (recordOf f)) :
    e.tuned := by
  simp only [tuningTable, List.mem_cons, List.not_mem_nil, or_false] at he
  rcases he with h | h | h | h | h | h | h | h | h | h | h | h | h | h | h | h
  all_goals
    subst h
    refine ⟨rfl, ?_, ?_, ?_⟩
    all_goals simp

/-- CONFIGURE is clamped where W_win or a row of the table is (R13). -/
theorem isClamped_eq_false_iff (f : ConfigFields) :
    isClamped f = false ↔
      (tune 1 255 40 false f.wWin).1 =
        min (tune 1 255 40 false f.wWin).2 (f.loopLen.toNat / 8) ∧
      ∀ e ∈ tuningTable f (recordOf f),
        (tune e.low e.high e.dflt e.zero e.sent).1 = (tune e.low e.high e.dflt e.zero e.sent).2 := by
  simp only [isClamped, tuning, tuningTable, List.any_cons, List.any_nil, Bool.or_eq_false_iff,
    bne_eq_false_iff_eq, List.forall_mem_cons, List.not_mem_nil, false_implies, implies_true,
    and_true]
  exact and_left_comm

/-- Settles O10: every row of the tuning table is held as R13 says, and W_win with its fourth step. -/
theorem configurationHeld : Obligations.ConfigurationHeld := by
  unfold Obligations.ConfigurationHeld
  intro f valid
  obtain ⟨station, loop, -⟩ := valid
  extract_lets r win
  have asked : (tune 1 255 40 false f.wWin).2 = win := by
    rw [tune_held]
    simp [win]
  have windowHeld : r.wWin = min win (f.loopLen.toNat / 8) := by
    rw [← asked]
    rfl
  have low : 1 ≤ win ∧ win ≤ 255 := by
    simp only [win]
    split <;> omega
  refine ⟨Nat.mod_eq_of_lt (by omega), rfl, rfl, rfl, windowHeld, by omega, by omega,
    fun e he => (tuningTable_tuned f he).spec, ?_, rfl, rfl, rfl, rfl, rfl⟩
  rw [isClamped_eq_false_iff, asked]
  have rows : (∀ e ∈ tuningTable f r, (tune e.low e.high e.dflt e.zero e.sent).1 =
      (tune e.low e.high e.dflt e.zero e.sent).2) ↔
      ∀ e ∈ tuningTable f r,
        e.sent = 0 ∨ (e.zero = true ∧ e.sent = 65535#16) ∨ e.sent.toNat = e.held :=
    forall₂_congr fun e he => by
      rw [tune_unclamped, (tuningTable_tuned f he).1]
  rw [rows, ← and_assoc]
  refine and_congr_left' ?_
  by_cases sent : f.wWin = 0
  · have : win = 40 := by simp [win, sent]
    simp only [tune, sent, if_true, this, true_or, true_and]
    omega
  · have : (tune 1 255 40 false f.wWin).1 = f.wWin.toNat := by
      rw [tune, if_neg sent]
      rfl
    have : win = max 1 (min 255 f.wWin.toNat) := if_neg sent
    simp only [sent, false_or]
    omega

/-! ### The claim weight (R36 to R38) -/

theorem isWorkable_iff (puts : Vector (Option Order) 16) (l : Line) :
    isWorkable puts l = true ↔
      l.state = .waiting ∧
        ∃ k : PutIdx, (puts[k]).any (fun o => decide (o.handle = l.handle)) = true := by
  have placed : isPlaced puts l.handle = true ↔
      ∃ k : PutIdx, (puts[k]).any (fun o => decide (o.handle = l.handle)) = true := by
    rw [isPlaced_iff]
    simp [Option.any_eq_true]
  rw [isWorkable, Bool.and_eq_true, placed, beq_iff_eq]

theorem urgencyTerm_eq (S : Int) : urgencyTerm S = 4095 - (max 0 (min 4095 S)).toNat := by
  unfold urgencyTerm
  omega

theorem expressTerm_eq (ls : List Line) :
    expressTerm ls = if ∃ l ∈ ls, l.prio = .express then 1024 else 0 := by
  simp [expressTerm]

theorem mem_slacks {puts : Vector (Option Order) 16} {t : Clock} {ls : List Line} {S : Int} :
    S ∈ slacks puts t ls ↔ ∃ l ∈ ls, ∃ d, deadlineOf puts l.handle = some d ∧ timeTo d t = S := by
  simp [slacks]

/-- Settles O20, by the three terms of the weight. -/
theorem claimWeightRange : Obligations.ClaimWeight := by
  unfold Obligations.ClaimWeight
  intro s T ls hls
  have workable : workableOf s.demand.lines s.puts T = ls := by
    rw [hls, workableOf]
    refine List.filter_congr fun l _ => ?_
    rw [Bool.eq_iff_iff, Bool.and_eq_true, isWorkable_iff, beq_iff_eq, decide_eq_true_iff]
  have weight : s.weightOf T = if ls.isEmpty then none else
      some (((slacks s.puts s.clock ls).min?.elim 0 urgencyTerm) + lineTerm ls.length +
        expressTerm ls) := by
    rw [State.weightOf, claimWeight, workable]
  refine ⟨fun none => by rw [weight, none]; rfl, fun some => ⟨_, by
    rw [weight, if_neg (by simpa using some)], ?_, ?_⟩, fun S ⟨l, hl, d, hd, hS⟩ least => ?_⟩
  · have : 1 ≤ ls.length := List.length_pos_iff.mpr some
    unfold lineTerm
    omega
  · have express : expressTerm ls ≤ 1024 := by
      unfold expressTerm
      split <;> omega
    have urgency : (slacks s.puts s.clock ls).min?.elim 0 urgencyTerm ≤ 4095 := by
      cases (slacks s.puts s.clock ls).min? with
      | none => exact Nat.zero_le _
      | some S => exact Nat.sub_le _ _
    unfold lineTerm
    omega
  · have first : (slacks s.puts s.clock ls).min? = some S := by
      rw [List.min?_eq_some_iff]
      refine ⟨mem_slacks.mpr ⟨l, hl, d, hd, hS⟩, fun x hx => ?_⟩
      obtain ⟨m, hm, e, he, rfl⟩ := mem_slacks.mp hx
      exact least m hm e he
    have some : ls ≠ [] := List.ne_nil_of_mem hl
    rw [weight, if_neg (by simpa using some), first, ← expressTerm_eq, ← urgencyTerm_eq]
    rfl

end Sys2Proof.Machine
end

section
/-! PROOFS. What the end of an event and a change of the bench mode leave, field by field, and the desk: REST
(O26), WAKE (O27), RETRACK and the overdue removal (O29), MERGE_GAP and MERGE_STALL (O33), and RELEASE_FACE
(O25). -/

namespace Sys2Proof.Machine

/-! ### The frame of a command -/

theorem exec_next_frame {c : Instr} {s t : State} (h : exec c s = .next t) :
    SameExcept (commandBlocks c) s t := by
  obtain ⟨u, hu, frame⟩ := exec_frame c s
  rw [h] at hu
  cases hu
  exact frame

theorem SameExcept.replied {bs : List Block} {s t : State} (h : SameExcept bs s t)
    (link : Block.link ∉ bs) (code : Byte) (status : Status) (fields : List Byte := []) :
    (t.reply code status fields).link = { s.link with reply := replyFrame code status fields } := by
  show ({ t.link with reply := _ } : Link) = _
  rw [h.link_eq link]

/-! ### One event of a source (R162) -/

theorem RaisedOnce.of_notices {n : NoticeSource} {d : BitVec 32} {s t u : State}
    (h : RaisedOnce n d s t) (e : u.notices = t.notices) : RaisedOnce n d s u := by
  unfold RaisedOnce at h ⊢
  rw [e]
  exact h

theorem RaisedOnce.raised {n : NoticeSource} {d : BitVec 32} {s t : State}
    (e : t.notices = (s.raise n d).notices) : RaisedOnce n d s t :=
  (s.raise_once n d).of_notices e

/-- Two events of a source that was not pending. -/
theorem State.raise_twice {s t : State} {n : NoticeSource} {d e : BitVec 32}
    (first : t.notices = (s.raise n d).notices)
    (h : s.notices.sources[n.index].pending = false) :
    (t.raise n e).notices.sources[n.index] =
      { s.notices.sources[n.index] with pending := true, count := 2, detail := d } := by
  have one := (s.raise_once n d).2.2.2.1 h
  rw [← first] at one
  have two := (t.raise_once n e).2.2.2.2 (by rw [one])
  rw [two, one]
  rfl

/-! ### The end of an event (R111, R125, R147) -/

/-- The sensors with the times that the end of an event gives them (R125). -/
def State.timedSensors (s : State) : Sensors where
  entry := s.timedSensor .entry
  head := s.timedSensor .head
  face := s.timedSensor .face
  park := s.timedSensor .park
  exit := s.timedSensor .exit

theorem State.settleLane_lane_eq (s : State) :
    s.settleLane.lane =
      { s.lane with drives := drivesOf s.lane, sensors := s.timedSensors } := by
  unfold State.settleLane
  dsimp only
  split
  · rfl
  · rw [(State.requestState_frame _).lane_eq (by simp)]
    rfl

@[simp] theorem State.settleLane_queue (s : State) : s.settleLane.lane.queue = s.lane.queue := by
  rw [s.settleLane_lane_eq]

@[simp] theorem State.settleLane_face (s : State) : s.settleLane.lane.face = s.lane.face := by
  rw [s.settleLane_lane_eq]

@[simp] theorem State.settleLane_faceRec (s : State) :
    s.settleLane.lane.faceRec = s.lane.faceRec := by
  rw [s.settleLane_lane_eq]

@[simp] theorem State.settleLane_parkRec (s : State) :
    s.settleLane.lane.parkRec = s.lane.parkRec := by
  rw [s.settleLane_lane_eq]

@[simp] theorem State.settleLane_preempted (s : State) :
    s.settleLane.lane.preempted = s.lane.preempted := by
  rw [s.settleLane_lane_eq]

@[simp] theorem State.settleLane_jam (s : State) : s.settleLane.lane.jam = s.lane.jam := by
  rw [s.settleLane_lane_eq]

@[simp] theorem State.settleLane_waits (s : State) : s.settleLane.lane.waits = s.lane.waits := by
  rw [s.settleLane_lane_eq]

@[simp] theorem State.settleLane_gap (s : State) : s.settleLane.lane.gap = s.lane.gap := by
  rw [s.settleLane_lane_eq]

@[simp] theorem State.settleLane_drives (s : State) :
    s.settleLane.lane.drives = drivesOf s.lane := by
  rw [s.settleLane_lane_eq]

theorem sensorOf_timedSensors (s : State) (x : Sensor) :
    sensorOf s.timedSensors x = s.timedSensor x := by
  cases x <;> rfl

@[simp] theorem State.settleLane_isBlocked (s : State) (x : Sensor) :
    s.settleLane.isBlocked x = s.isBlocked x := by
  rw [State.isBlocked, s.settleLane_lane_eq]
  show (sensorOf s.timedSensors x).blocked = _
  rw [sensorOf_timedSensors]
  rfl

theorem State.settleLane_modeCtl (s : State) :
    s.settleLane.modeCtl = { s.modeCtl with able := s.ableNow } := by
  unfold State.settleLane
  dsimp only
  split
  · rename_i same
    exact congrArg (fun b => { s.modeCtl with able := b }) same.symm
  · rw [(State.requestState_frame _).modeCtl_eq (by simp)]
    rfl

theorem State.settleLane_notices_of_room {L : List TxKey} {s : State} (hL : .state ∈ L)
    (hr : RoomFor L s) : s.settleLane.notices = s.notices :=
  (State.settleLane_frame_of_room hL hr).notices_eq (by simp)

theorem State.ableNow_iff (s : State) :
    s.ableNow = decide (s.mode = .active ∧ s.lane.jam = none ∧
      s.divert.records.length + s.lane.queue.length < s.conf.c) := by
  rw [State.ableNow, State.queueRecords, Bool.eq_iff_iff]
  simp [and_assoc]

/-- STATE is requested where able changes (R148). -/
theorem State.settleLane_of_able_changed {s : State} (h : s.ableNow ≠ s.modeCtl.able) :
    ∃ u : State, s.settleLane = u.requestState ∧ u.bus = s.bus ∧ u.modeCtl.able = s.ableNow := by
  unfold State.settleLane
  dsimp only
  rw [if_neg (by exact h)]
  exact ⟨_, rfl, rfl, rfl⟩

/-! ### STATE in the queue (R54, R55) -/

/-- A request that finds room is in the queue. -/
theorem State.request_mem {s : State} (on : s.bus.tx = .on) (room : s.bus.queue.length < 16)
    (T : ToteNo) (b : FrameBody) :
    { sender := s.bus.ownStation.getD 0, tote := T, body := b } ∈ (s.request T b).bus.queue := by
  have fits : RoomFor [requestKey T b] s := RoomFor.of_length (by simpa using room)
  have queued := State.request_queue on T b
  exact (enqueue_with_room (List.mem_singleton.mpr (frameKey_eq_requestKey _)) fits
    (congrArg Bus.queue queued)).2.1

theorem State.request_notices_of_room {s : State} (room : s.bus.queue.length < 16) (T : ToteNo)
    (b : FrameBody) : (s.request T b).notices = s.notices :=
  (State.request_frame_of_room (List.mem_singleton.mpr rfl)
    (RoomFor.of_length (by simpa using room))).notices_eq (by simp)

/-! ### A change of the bench mode (R63, R147, R148) -/

theorem State.enterMode_frame_of_modeEntered (s : State) (m : BenchMode) :
    SameExcept [.bus, .notices] (s.modeEntered m) (s.enterMode m) := by
  rw [State.enterMode_eq]
  split
  · exact .refl _ _
  · exact State.requestState_frame _

theorem State.enterMode_modeCtl (s : State) (m : BenchMode) :
    (s.enterMode m).modeCtl =
      { mode := m, sweepReturn := s.modeCtl.sweepReturn,
        able := m == .active && s.lane.jam.isNone && decide (s.queueRecords < s.conf.c) } :=
  ((s.enterMode_frame_of_modeEntered m).modeCtl_eq (by simp)).trans (s.modeEntered_modeCtl m)

theorem State.enterMode_able (s : State) (m : BenchMode) :
    (s.enterMode m).ableNow = (s.enterMode m).modeCtl.able := by
  have frame := s.enterMode_frame m
  rw [State.ableNow, State.queueRecords, State.conf, State.mode, s.enterMode_modeCtl,
    frame.lane_eq (by simp), frame.divert_eq (by simp), frame.cfg_eq (by simp)]
  rfl

theorem busOnMode_tx {b : Bus} {m : BenchMode} (rest : m ≠ .rest) (off : m ≠ .unconfigured) :
    (busOnMode b m).tx = .on := by
  cases m with
  | rest => exact absurd rfl rest
  | unconfigured => exact absurd rfl off
  | sweeping => rfl
  | active => rfl
  | draining => rfl

theorem busOnMode_ownStation (b : Bus) (m : BenchMode) :
    (busOnMode b m).ownStation = b.ownStation := by
  cases m with
  | rest => rw [busOnMode]; split <;> rfl
  | _ => rfl

section
variable {s : State} {m : BenchMode}

theorem State.enterMode_tx (rest : m ≠ .rest) (off : m ≠ .unconfigured) :
    (s.enterMode m).bus.tx = .on := by
  rw [State.enterMode_eq, if_neg rest, (State.requestState_requests _).tx, State.modeEntered_bus]
  exact busOnMode_tx rest off

/-- STATE carries the new able (R148). -/
theorem State.enterMode_state (rest : m ≠ .rest) (off : m ≠ .unconfigured)
    (room : s.bus.queue.length < 16) :
    { sender := s.bus.ownStation.getD 0, tote := 0,
      body := .state (boolCode (s.enterMode m).modeCtl.able) } ∈ (s.enterMode m).bus.queue := by
  have on : (s.modeEntered m).bus.tx = .on := by
    rw [State.modeEntered_bus]
    exact busOnMode_tx rest off
  have fits : (s.modeEntered m).bus.queue.length < 16 := by
    rw [State.modeEntered_bus, busOnMode_queue]
    exact room
  have queued := State.request_mem on fits 0 (.state (boolCode (s.modeEntered m).modeCtl.able))
  rw [s.modeEntered_bus, busOnMode_ownStation] at queued
  rw [s.enterMode_modeCtl, ← s.modeEntered_modeCtl, State.enterMode_eq, if_neg rest]
  exact queued

theorem State.enterMode_notices (rest : m ≠ .rest) (room : s.bus.queue.length < 16) :
    (s.enterMode m).notices = (s.raise .modeChanged (BitVec.ofNat 32 (modeCode m))).notices := by
  have fits : (s.modeEntered m).bus.queue.length < 16 := by
    rw [State.modeEntered_bus, busOnMode_queue]
    exact room
  rw [State.enterMode_eq, if_neg rest, State.requestState, State.request_notices_of_room fits,
    State.modeEntered_notices]

end

/-- After a change of mode the end of the event touches the lane alone. -/
theorem State.enterMode_settle_frame (s : State) (m : BenchMode) :
    SameExcept [.lane] (s.enterMode m) (s.enterMode m).settleLane :=
  State.settleLane_frame_of_able (s.enterMode_able m)

/-! ### REST (R149, R151) -/

theorem exec_rest {s : State} (configured : s.mode ≠ .unconfigured) :
    exec .rest s = .next (s.goToRest.reply 9 .accepted) :=
  congrArg _ (State.whenConfigured_configured configured 9 _)

theorem State.goToRest_active {s : State} (h : s.mode = .active) :
    s.goToRest = ((s.enterMode .draining).drainTest).settleLane := by
  rw [State.goToRest, h]

theorem State.enterMode_laneEmpty (s : State) (m : BenchMode) :
    (s.enterMode m).laneEmpty = s.laneEmpty := by
  have frame := s.enterMode_frame m
  rw [State.laneEmpty, State.laneEmpty, frame.divert_eq (by simp), frame.lane_eq (by simp)]

/-- Settles O26, by the mode and by whether the lane is empty. -/
theorem rest : Obligations.Rest := by
  unfold Obligations.Rest
  intro s
  refine ⟨fun h => ?_, fun h => ?_, fun h on room => ?_⟩
  · have stays : s.goToRest = s := by
      unfold State.goToRest
      rcases h with h | h <;> rw [h]
    rw [exec_rest (by rcases h with h | h <;> rw [h] <;> decide), stays, State.reply_eq_answered]
    rfl
  · rw [exec_rest (by rw [h]; decide), State.goToRest, h, State.reply_eq_answered]
    rfl
  have run := exec_rest (s := s) (by rw [h]; decide)
  have frame := exec_next_frame run
  have link : (s.goToRest.reply 9 .accepted).link = { s.link with reply := [9, 0, 247] } :=
    s.goToRest_frame.replied (by decide) 9 .accepted
  rw [State.goToRest_active h] at run frame link
  have entered := s.enterMode_frame .draining
  have queued := State.enterMode_state (s := s) (m := .draining) (by decide) (by decide) room
  have raised := State.enterMode_notices (s := s) (m := .draining) (by decide) room
  have tx := State.enterMode_tx (s := s) (m := .draining) (by decide) (by decide)
  have able : (s.enterMode .draining).modeCtl.able = false := by
    rw [s.enterMode_modeCtl]
    rfl
  have sweepReturn : (s.enterMode .draining).modeCtl.sweepReturn = s.modeCtl.sweepReturn := by
    rw [s.enterMode_modeCtl]
  rw [able] at queued
  generalize hu : s.enterMode .draining = u at *
  have lane : u.lane = s.lane := entered.lane_eq (by simp)
  have empty : u.laneEmpty = s.laneEmpty := by
    rw [← hu]
    exact s.enterMode_laneEmpty _
  have mode : u.mode = .draining := by
    rw [← hu]
    exact s.enterMode_mode _
  have settled : u.ableNow = u.modeCtl.able := by
    rw [← hu]
    exact s.enterMode_able _
  by_cases drained : s.laneEmpty = true
  · rw [State.drainTest_of_drained mode (empty.trans drained)] at run frame link
    have end_ := State.settleLane_frame_of_able u.enterRest_able
    have rested := u.enterMode_frame .rest
    refine ⟨_, run, frame, link, ?_, ?_, ⟨⟨s.bus.ownStation.getD 0, 0, .state 0⟩, ?_, rfl, rfl⟩, ?_, ?_, ?_, ?_,
      fun no => absurd no (by simp [drained]), fun _ => ⟨?_, ?_, fun calm => ?_⟩⟩
    · exact congrArg ModeCtl.able (end_.modeCtl_eq (by simp))
    · show (u.enterMode .rest).settleLane.modeCtl.sweepReturn = _
      rw [end_.modeCtl_eq (by simp), u.enterRest_modeCtl]
      exact sweepReturn
    · show _ ∈ (u.enterMode .rest).settleLane.bus.queue
      rw [end_.bus_eq (by simp)]
      show _ ∈ (busOnMode u.bus .rest).queue
      rw [busOnMode_queue]
      exact queued
    · rw [← lane]
      exact (State.settleLane_queue _).trans (congrArg Lane.queue (rested.lane_eq (by simp)))
    · rw [← lane]
      exact (State.settleLane_face _).trans (congrArg Lane.face (rested.lane_eq (by simp)))
    · rw [← lane]
      exact (State.settleLane_faceRec _).trans (congrArg Lane.faceRec (rested.lane_eq (by simp)))
    · rw [← lane]
      exact (State.settleLane_parkRec _).trans (congrArg Lane.parkRec (rested.lane_eq (by simp)))
    · exact State.settleLane_mode _
    · show (u.enterMode .rest).settleLane.bus.tx = .closing
      rw [end_.bus_eq (by simp)]
      exact State.enterRest_tx tx (List.ne_nil_of_mem queued)
    · show (u.enterMode .rest).settleLane.notices.sources[NoticeSource.modeChanged.index] = _
      rw [end_.notices_eq (by simp), u.enterRest_notices]
      exact State.raise_twice raised calm
  · have busy : ¬ (u.mode = .draining ∧ u.laneEmpty = true) := fun h => drained (empty ▸ h.2)
    rw [State.drainTest_of_not_drained busy] at run frame link
    have end_ := State.settleLane_frame_of_able settled
    refine ⟨_, run, frame, link, ?_, ?_, ⟨⟨s.bus.ownStation.getD 0, 0, .state 0⟩, ?_, rfl, rfl⟩, ?_, ?_, ?_, ?_,
      fun _ => ⟨?_, ?_, ?_⟩, fun yes => absurd yes drained⟩
    · rw [← able]
      exact congrArg ModeCtl.able (end_.modeCtl_eq (by simp))
    · rw [← sweepReturn]
      exact congrArg ModeCtl.sweepReturn (end_.modeCtl_eq (by simp))
    · show _ ∈ u.settleLane.bus.queue
      rw [end_.bus_eq (by simp)]
      exact queued
    · rw [← lane]
      exact State.settleLane_queue _
    · rw [← lane]
      exact State.settleLane_face _
    · rw [← lane]
      exact State.settleLane_faceRec _
    · rw [← lane]
      exact State.settleLane_parkRec _
    · exact (State.settleLane_mode _).trans mode
    · rw [← tx]
      exact congrArg Bus.tx (end_.bus_eq (by simp))
    · exact RaisedOnce.raised ((end_.notices_eq (by simp)).trans raised)

/-! ### WAKE and LOGON (R150) -/

theorem State.wakeUp_frame_settle (s : State) : SameExcept settleBlocks s s.wakeUp :=
  exec_next_frame (c := .logonKey) rfl

theorem boolCode_eq (b : Bool) : boolCode b = if b = true then 1 else 0 := by
  cases b <;> rfl

/-- Settles O27, by the mode. -/
theorem wake : Obligations.Wake := by
  unfold Obligations.Wake
  intro s configured
  refine ⟨s.wakeUp, rfl, ?_, s.wakeUp_frame_settle, fun h => ?_, fun h => ?_, fun h => ?_⟩
  · have run : exec .wake s = .next (s.wakeUp.reply 10 .accepted) :=
      congrArg _ (State.whenConfigured_configured configured 10 _)
    rw [run, State.reply_eq_answered]
    rfl
  · rw [State.wakeUp, h]
  · rw [State.wakeUp, h]
    rfl
  have up : s.wakeUp = (s.enterMode .active).settleLane := by
    rw [State.wakeUp]
    rcases h with h | h <;> rw [h]
  have entered := s.enterMode_frame .active
  have end_ := s.enterMode_settle_frame .active
  have lane : (s.enterMode .active).lane = s.lane := entered.lane_eq (by simp)
  rw [up]
  refine ⟨(State.settleLane_mode _).trans (s.enterMode_mode _), ?_, ?_, ?_, ?_, ?_, ?_,
    fun room => ⟨?_, ?_⟩⟩
  · rw [end_.bus_eq (by simp)]
    exact State.enterMode_tx (by decide) (by decide)
  · rw [end_.modeCtl_eq (by simp), s.enterMode_modeCtl, State.queueRecords, Bool.eq_iff_iff]
    simp
  · rw [State.settleLane_queue, lane]
  · rw [State.settleLane_face, lane]
  · rw [State.settleLane_faceRec, lane]
  · rw [State.settleLane_parkRec, lane]
  · exact RaisedOnce.raised
      ((end_.notices_eq (by simp)).trans (State.enterMode_notices (by decide) room))
  · rw [end_.bus_eq (by simp), end_.modeCtl_eq (by simp), ← boolCode_eq]
    exact ⟨_, State.enterMode_state (by decide) (by decide) room, rfl, rfl⟩

/-! ### The tracker lock (R83, R90 to R92) -/

section
variable {r : Record} {tr : Tracker}

theorem lockFail_faulted (h : tr.lock = .faulted) : lockFail r tr = (tr, none) := by
  rw [lockFail, h]

theorem lockFail_missed (h : tr.lock = .locked) (few : tr.misses + 1 < r.missLimit) :
    lockFail r tr = ({ tr with misses := tr.misses + 1 }, none) := by
  rw [lockFail, h]
  exact if_neg (by omega)

theorem lockFail_lost (h : tr.lock = .locked) (many : r.missLimit ≤ tr.misses + 1) :
    lockFail r tr =
      ({ tr with lock := .seeking, run := 0, attempts := 0, misses := 0 }, some .trackLost) := by
  rw [lockFail, h]
  exact if_pos many

theorem lockFail_attempt (h : tr.lock = .seeking ∨ tr.lock = .confirming)
    (few : tr.attempts + 1 < r.attemptLimit) :
    lockFail r tr =
      ({ tr with lock := .seeking, run := 0, attempts := tr.attempts + 1 }, none) := by
  have : lockFail r tr = lockAttemptFails r tr := by
    rcases h with h | h <;> rw [lockFail, h]
  rw [this]
  exact if_neg (by omega)

theorem lockFail_fault (h : tr.lock = .seeking ∨ tr.lock = .confirming)
    (many : r.attemptLimit ≤ tr.attempts + 1) :
    lockFail r tr =
      ({ tr with lock := .faulted, run := 0, attempts := r.attemptLimit }, some .trackFault) := by
  have : lockFail r tr = lockAttemptFails r tr := by
    rcases h with h | h <;> rw [lockFail, h]
  rw [this]
  exact if_pos many

end

section
variable {s : State} {tr : Tracker}

theorem State.lockFailure_quiet (h : lockFail s.conf s.tracker = (tr, none)) (T : ToteNo) :
    s.lockFailure T = { s with tracker := tr } := by
  rw [State.lockFailure, h]

theorem State.lockFailure_raises {n : NoticeSource}
    (h : lockFail s.conf s.tracker = (tr, some n)) (T : ToteNo) :
    s.lockFailure T = ({ s with tracker := tr } : State).raise n T := by
  rw [State.lockFailure, h]

end

theorem isOverdue_iff (r : Record) (current : Count) (e : EalEntry) :
    isOverdue r current e = true ↔ (r.wWin : Int) < signed16 (current - e.expected) :=
  decide_eq_true_iff

theorem isOverdue_eq_false_iff (r : Record) (current : Count) (e : EalEntry) :
    isOverdue r current e = false ↔ signed16 (current - e.expected) ≤ (r.wWin : Int) := by
  rw [← Bool.not_eq_true, isOverdue_iff, not_lt]

theorem exec_overdueRemoval {s : State} (configured : s.mode ≠ .unconfigured) :
    exec .overdueRemoval s = .next s.overdueStep := by
  show Host.Outcome.next (if s.configured then s.overdueStep else s) = _
  rw [(State.configured_iff s).mpr configured]
  rfl

theorem State.overdueStep_of_calm {s : State}
    (h : ∀ e ∈ s.tracker.eal.head?, isOverdue s.conf s.count e = false) : s.overdueStep = s := by
  unfold State.overdueStep
  split
  · rfl
  · rename_i e rest he
    rw [h e (by rw [he]; rfl)]
    rfl

theorem State.overdueStep_of_due {s : State} {e : EalEntry} {rest : List EalEntry}
    (he : s.tracker.eal = e :: rest) (due : isOverdue s.conf s.count e = true) :
    s.overdueStep =
      ({ s with tracker := { s.tracker with eal := rest } } : State).lockFailure e.tote := by
  rw [State.overdueStep, he]
  exact if_pos due

section
variable {s : State} {e : EalEntry} {rest : List EalEntry} {tr : Tracker}

theorem State.overdueStep_quiet (he : s.tracker.eal = e :: rest)
    (due : isOverdue s.conf s.count e = true)
    (h : lockFail s.conf { s.tracker with eal := rest } = (tr, none)) :
    s.overdueStep = { s with tracker := tr } :=
  (State.overdueStep_of_due he due).trans (State.lockFailure_quiet (by exact h) _)

theorem State.overdueStep_raises {n : NoticeSource} (he : s.tracker.eal = e :: rest)
    (due : isOverdue s.conf s.count e = true)
    (h : lockFail s.conf { s.tracker with eal := rest } = (tr, some n)) :
    s.overdueStep = ({ s with tracker := tr } : State).raise n e.tote :=
  (State.overdueStep_of_due he due).trans (State.lockFailure_raises (by exact h) _)

end

/-- Settles O29, by the state of the lock and its counter's limit. -/
theorem trackerLock : Obligations.TrackerLock := by
  unfold Obligations.TrackerLock
  intro s configured
  refine ⟨?_, fun calm => ?_, fun e rest he late => ?_⟩
  · have run : exec .retrack s = .next (s.seekAgain.reply 12 .accepted) :=
      congrArg _ (State.whenConfigured_configured configured 12 _)
    rw [run, State.reply_eq_answered]
    rfl
  · rw [exec_overdueRemoval configured, State.overdueStep_of_calm fun e he =>
      (isOverdue_eq_false_iff _ _ e).mpr (calm e he)]
  have due := (isOverdue_iff _ _ e).mpr late
  have run := exec_overdueRemoval configured
  refine ⟨_, run, exec_next_frame run, fun h => ?_, fun h few => ?_, fun h many => ?_,
    fun h few => ?_, fun h many => ?_⟩
  · rw [State.overdueStep_quiet he due (lockFail_faulted h)]
    exact ⟨rfl, rfl⟩
  · rw [State.overdueStep_quiet he due (lockFail_missed h few)]
    exact ⟨rfl, rfl⟩
  · rw [State.overdueStep_raises he due (lockFail_lost h many)]
    exact ⟨rfl, RaisedOnce.raised rfl⟩
  · rw [State.overdueStep_quiet he due (lockFail_attempt h few)]
    exact ⟨rfl, rfl⟩
  · rw [State.overdueStep_raises he due (lockFail_fault h many)]
    exact ⟨rfl, RaisedOnce.raised rfl⟩

/-! ### The merge gap and the merge stall (R118) -/

theorem State.tryLeave_of_gap {s : State} (face : s.lane.face = .releasing)
    (gap : s.lane.gap = true) (jam : s.lane.jam = none) :
    s.tryLeave = s.withLane
      { s.lane with face := .leaving, waits := { s.lane.waits with merge := some 0 } } := by
  rw [State.tryLeave, face, gap, jam]
  rfl

theorem State.tryLeave_of_not {s : State}
    (h : s.lane.gap = false ∨ s.lane.face ≠ .releasing ∨ s.lane.jam ≠ none) : s.tryLeave = s := by
  unfold State.tryLeave
  rw [if_neg]
  simp only [Bool.and_eq_true, beq_iff_eq, Option.isNone_iff_eq_none, not_and]
  intro ⟨face, gap⟩ jam
  rcases h with h | h | h
  · rw [h] at gap
    cases gap
  · exact h face
  · exact h jam

theorem exec_mergeGap {s : State} (configured : s.mode ≠ .unconfigured) (g : Bool) :
    exec (.mergeGap g) s =
      .next ((s.withLane { s.lane with gap := g }).tryLeave).settleLane :=
  congrArg _ (State.fieldEvent_configured (by exact configured) _)

theorem exec_mergeStall (s : State) : exec .mergeStall s = .next s.stallWork := rfl

/-- Settles O33, by the face, the gap and the jam, and by the merge wait. -/
theorem mergeGapAndStall : Obligations.MergeGapAndStall := by
  unfold Obligations.MergeGapAndStall
  intro s configured
  refine ⟨fun face jam => ?_, fun g outputs able h => ?_, fun q hq face long fresh => ?_,
    fun q hq h => ?_⟩
  · have run := exec_mergeGap configured true
    have frame := exec_next_frame run
    rw [State.tryLeave_of_gap (s := s.withLane { s.lane with gap := true }) face rfl jam]
      at run frame
    refine ⟨_, run, frame, State.settleLane_gap _, State.settleLane_face _,
      State.settleLane_faceRec _, State.settleLane_queue _, State.settleLane_parkRec _,
      State.settleLane_waits _, ?_⟩
    rw [State.settleLane_drives]
    simp [drivesOf, jam]
  · rw [exec_mergeGap configured, State.tryLeave_of_not h,
      State.settleLane_of_law (by exact outputs) (by exact able.1)]
    rfl
  · have work : s.stallWork =
        (s.withLane { s.lane with faceRec := some { q with stallMark := true } }).raise .mergeStall
          q.tote := by
      unfold State.stallWork
      rw [hq]
      exact if_pos (by simp [face, long, fresh])
    rw [exec_mergeStall, work]
    exact ⟨_, rfl, (s.withLane_frame _).step (State.raise_frame _ _ _) (by simp) (by simp), rfl,
      RaisedOnce.raised rfl⟩
  · have work : s.stallWork = s := by
      unfold State.stallWork
      rw [hq]
      refine if_neg ?_
      rcases h with h | h | h <;> simp [h]
    rw [exec_mergeStall, work]

end Sys2Proof.Machine
end

section
/-! PROOFS. READ_LANE's slots (O18), the receive path (O36), and what WANT, HOLD, RETURN, RELEASE and INFEED do
to the Interest Board and the expected arrival list (O38, O39, O40). -/

namespace Sys2Proof.Machine

/-! ### READ_LANE (R160) -/

theorem coldFields_spec (s : State) (T : ToteNo) (cls : TempClass) (cold : ColdRef) :
    ColdBytes s T cls cold (coldFields s.conf s.clock T cls cold) := by
  unfold coldFields
  refine ⟨fun h => ?_, fun tote watched => ?_⟩
  · rw [if_pos h]
    rfl
  · rw [if_neg fun h => h.elim tote watched]
    refine ⟨remainingField (coldRemaining s.conf cls cold s.clock), ?_, fun low high => ?_⟩
    · cases cold <;> rfl
    · rw [remainingField, if_pos ⟨low, high⟩, BitVec.toInt_ofInt]
      generalize coldRemaining s.conf cls cold s.clock = x at low high
      rw [Int.bmod_def]
      split <;> omega

theorem coldFields_length (r : Record) (t : Clock) (T : ToteNo) (cls : TempClass) (cold : ColdRef) :
    (coldFields r t T cls cold).length = 5 := by
  unfold coldFields
  split <;> rfl

theorem divertSlot_length (s : State) (d : DivertRec) : (divertSlot s d).length = 15 := by
  simp [divertSlot, coldFields_length, bytes32, bytes16]

theorem laneSlot_length (s : State) (isPark : Bool) (q : LaneRec) :
    (laneSlot s isPark q).length = 15 := by
  simp [laneSlot, coldFields_length, bytes32, bytes16]

/-- The slots in use: divert records, queue, face, park (R160). -/
def usedSlots (s : State) : List (List Byte) :=
  s.divert.records.map (divertSlot s) ++
    ((s.lane.queue ++ s.lane.faceRec.toList).map (laneSlot s false) ++
      s.lane.parkRec.toList.map (laneSlot s true))

theorem usedSlots_length (s : State) : (usedSlots s).length = (ownTotes s).length := by
  simp [usedSlots, ownTotes]

theorem laneSlots_eq (s : State) :
    laneSlots s = (usedSlots s ++ List.replicate 8 unusedSlot).take 8 := by
  simp [laneSlots, usedSlots, List.append_assoc]

theorem usedSlots_slot_length {s : State} {slot : List Byte} (h : slot ∈ usedSlots s) :
    slot.length = 15 := by
  simp only [usedSlots, List.mem_append, List.mem_map] at h
  rcases h with ⟨d, -, rfl⟩ | ⟨q, -, rfl⟩ | ⟨q, -, rfl⟩
  · exact divertSlot_length s d
  · exact laneSlot_length s false q
  · exact laneSlot_length s true q

theorem laneSlots_used {s : State} (few : (ownTotes s).length ≤ 8) {i : Nat} {slot : List Byte}
    (h : (usedSlots s)[i]? = some slot) : (laneSlots s)[i]? = some slot := by
  obtain ⟨hi, -⟩ := List.getElem?_eq_some_iff.mp h
  have := usedSlots_length s
  rw [laneSlots_eq, List.getElem?_take_of_lt (by omega), List.getElem?_append_left hi, h]

theorem laneSlots_unused {s : State} {i : Nat} (high : (ownTotes s).length ≤ i) (low : i < 8) :
    (laneSlots s)[i]? = some (List.replicate 15 0) := by
  have := usedSlots_length s
  rw [laneSlots_eq, List.getElem?_take_of_lt low, List.getElem?_append_right (by omega),
    List.getElem?_replicate, if_pos (by omega)]
  rfl

theorem usedSlots_divert {s : State} {i : Nat} {d : DivertRec} (h : s.divert.records[i]? = some d) :
    (usedSlots s)[i]? = some (divertSlot s d) := by
  obtain ⟨hi, -⟩ := List.getElem?_eq_some_iff.mp h
  rw [usedSlots, List.getElem?_append_left (by simpa using hi), List.getElem?_map, h]
  rfl

theorem usedSlots_lane {s : State} {i : Nat} {q : LaneRec}
    (h : (s.lane.queue ++ s.lane.faceRec.toList ++ s.lane.parkRec.toList)[i]? = some q) :
    (usedSlots s)[s.divert.records.length + i]? =
      some (laneSlot s
        (decide (s.lane.queue.length + s.lane.faceRec.toList.length ≤ i)) q) := by
  rw [usedSlots, List.getElem?_append_right (by simp), List.length_map, Nat.add_sub_cancel_left]
  by_cases park : s.lane.queue.length + s.lane.faceRec.toList.length ≤ i
  · rw [List.getElem?_append_right (by simpa using park), List.length_append] at h
    rw [List.getElem?_append_right (by simpa using park), List.length_map, List.length_append,
      List.getElem?_map, h, decide_eq_true park]
    rfl
  · rw [List.getElem?_append_left (by simpa using park)] at h
    rw [List.getElem?_append_left (by simpa using park), List.getElem?_map, h,
      decide_eq_false park]
    rfl

theorem laneSlot_eq (s : State) (isPark : Bool) (q : LaneRec) :
    laneSlot s isPark q =
      ([match q.stage with | .queued => 2 | .face => 3 | .park => 4] : List Byte) ++
        bytes32 q.tote ++
        ([classCode q.cls, BitVec.ofNat 8 q.laps,
          BitVec.ofNat 8 ((if q.urgent = true then 1 else 0) +
            (if q.alertMark = true then 2 else 0) + (if q.breachMark = true then 4 else 0) +
            (if q.refusalMark = true then 8 else 0))] : List Byte) ++
        coldFields s.conf s.clock q.tote q.cls q.cold ++
        (if isPark = true then bytes16 (q.savedTag.getD 0) else [0, 0]) := by
  have tag : bytes16 (if isPark then q.savedTag.getD 0 else 0) =
      if isPark = true then bytes16 (q.savedTag.getD 0) else [0, 0] := by
    cases isPark
    · exact (by decide : bytes16 (0 : BitVec 16) = [0, 0])
    · rfl
  have stage : stageCode q.stage = match q.stage with | .queued => 2 | .face => 3 | .park => 4 := by
    cases q.stage <;> rfl
  rw [laneSlot, tag, stage]
  rfl

/-- Settles O18, slot by slot. -/
theorem readLaneSlots : Obligations.ReadLaneSlots := by
  unfold Obligations.ReadLaneSlots
  intro s configured few
  have used := usedSlots_length s
  refine ⟨laneSlots s, ?_, ?_, fun slot h => ?_, fun i d h => ?_, fun i q h => ?_,
    fun i high low => laneSlots_unused high low⟩
  · rw [laneSlots_eq]
    simp
  · have run : exec .readLane s =
        .next (s.reply 19 .accepted
          ([BitVec.ofNat 8 (faceCode s.lane.face)] ++ (laneSlots s).flatten)) :=
      congrArg _ (State.whenConfigured_configured configured 19 _)
    rw [run, State.reply_eq_answered]
    cases s.lane.face <;> rfl
  · rw [laneSlots_eq] at h
    rcases List.mem_append.mp (List.mem_of_mem_take h) with h | h
    · exact usedSlots_slot_length h
    · rw [List.eq_of_mem_replicate h]
      rfl
  · exact ⟨_, _, divertClass_spec s d, coldFields_spec s _ _ _,
      laneSlots_used few (usedSlots_divert h)⟩
  · refine ⟨_, coldFields_spec s _ _ _, (laneSlots_used few (usedSlots_lane h)).trans ?_⟩
    rw [laneSlot_eq]
    simp only [decide_eq_true_eq] <;> rfl

/-! ### The bits of a run (R50, R51) -/

theorem dropWhile_lead (lead : Nat) (bits : List Bool) :
    (List.replicate lead true ++ bits).dropWhile id = bits.dropWhile id := by
  induction lead with
  | zero => rfl
  | succ n ih => exact ih

theorem dropWhile_spaced {cs : List (Byte × Nat)} (h : cs ≠ []) (tail : List Bool) :
    (spacedBits cs ++ tail).dropWhile id = spacedBits cs ++ tail := by
  cases cs with
  | nil => exact absurd rfl h
  | cons c cs => rfl

/-- A run read from its first character: its bytes, and then what follows fewer than 12 quiet bits. -/
theorem bytesOfLine_run {cs : List (Byte × Nat)} (spaced : ∀ c ∈ cs, c.2 < 12) (lead : Nat)
    {tail : List Bool} (h : cs ≠ [] ∨ tail.dropWhile id = tail) :
    ∃ r, r < 12 ∧ bytesOfLine (List.replicate lead true ++ spacedBits cs ++ tail) =
      (bytesAfterQuiet r tail).map (cs.map Prod.fst ++ ·) := by
  have start : (spacedBits cs ++ tail).dropWhile id = spacedBits cs ++ tail := by
    by_cases none : cs = []
    · rw [none]
      exact h.resolve_left fun some => some none
    · exact dropWhile_spaced none tail
  rw [List.append_assoc, bytesOfLine, dropWhile_lead, start]
  exact bytesAfterQuiet_spaced cs spaced 0 (by decide) tail

/-- A character cut short or without its stop bit. -/
theorem bytesAfterQuiet_broken (r : Nat) {after : List Bool} (h : after[8]? ≠ some true) :
    bytesAfterQuiet r (false :: after) = none := by
  match after, h with
  | a :: b :: c :: d :: e :: f :: g :: i :: stop :: rest, h =>
    have broken : stop = false := by simpa using h
    rw [broken]
    rfl
  | [], _ | [_], _ | [_, _], _ | [_, _, _], _ | [_, _, _, _], _ | [_, _, _, _, _], _
  | [_, _, _, _, _, _], _ | [_, _, _, _, _, _, _], _ | [_, _, _, _, _, _, _, _], _ => rfl

theorem bytesOfLine_spaced {cs : List (Byte × Nat)} (spaced : ∀ c ∈ cs, c.2 < 12) (lead : Nat) :
    bytesOfLine (List.replicate lead true ++ spacedBits cs) = some (cs.map Prod.fst) := by
  obtain ⟨r, -, run⟩ := bytesOfLine_run spaced lead (tail := []) (.inr rfl)
  rw [List.append_nil] at run
  rw [run]
  simp [bytesAfterQuiet]

theorem bytesOfLine_idle {cs : List (Byte × Nat)} (spaced : ∀ c ∈ cs, c.2 < 12) (lead : Nat)
    (after : List Bool) (some : cs ≠ []) :
    bytesOfLine (List.replicate lead true ++ spacedBits cs ++
      (List.replicate 12 true ++ after)) = .some (cs.map Prod.fst) := by
  obtain ⟨r, -, run⟩ := bytesOfLine_run spaced lead (tail := List.replicate 12 true ++ after)
    (.inl some)
  rw [run, bytesAfterQuiet_idle]
  simp

/-! ### The form of a frame (R50, R58) -/

theorem bytes16_word16 (b0 b1 : Byte) : bytes16 (word16 b0 b1) = [b0, b1] := by
  unfold bytes16 word16
  simp only [List.cons.injEq, and_true]
  constructor
  · ext i hi
    have high : ¬ 8 + i < 8 := by omega
    rw [BitVec.getElem_extractLsb', show (b0 ++ b1 : BitVec 16).getLsbD (8 + i) =
      (if 8 + i < 8 then b1.getLsbD (8 + i) else b0.getLsbD (8 + i - 8)) from
        BitVec.getLsbD_append, if_neg high, Nat.add_sub_cancel_left, BitVec.getLsbD_eq_getElem hi]
  · ext i hi
    rw [BitVec.getElem_extractLsb', Nat.zero_add, show (b0 ++ b1 : BitVec 16).getLsbD i =
      (if i < 8 then b1.getLsbD i else b0.getLsbD (i - 8)) from BitVec.getLsbD_append,
      if_pos hi, BitVec.getLsbD_eq_getElem hi]

/-- The body that a kind code and its field bytes spell has the length and the class of its kind. -/
theorem kindForm_of_body {kind : Byte} {fields : List Byte} {x : FrameBody}
    (h : bodyOfBytes kind fields = some x) :
    kindForm kind.toNat = some (fields.length + 8, x.lineClass) := by
  unfold bodyOfBytes at h
  obtain ⟨n, hn⟩ : ∃ n, kind.toNat = n := ⟨_, rfl⟩
  rw [hn] at h ⊢
  match n with
  | 0 => cases h
  | 1 | 2 =>
    rcases fields with
      _ | ⟨_, _ | ⟨_, _ | ⟨_, _ | ⟨_, _ | ⟨_, _ | ⟨_, _ | ⟨_, _ | ⟨_, _ | ⟨_, _⟩⟩⟩⟩⟩⟩⟩⟩⟩
    all_goals cases h
    rfl
  | 3 | 5 | 6 =>
    rcases fields with _ | ⟨_, _⟩
    all_goals cases h
    rfl
  | 4 =>
    rcases fields with _ | ⟨_, _ | ⟨_, _ | ⟨_, _⟩⟩⟩
    all_goals cases h
    rfl
  | 7 =>
    rcases fields with _ | ⟨_, _ | ⟨_, _⟩⟩
    all_goals cases h
    rfl
  | n + 8 => cases h

theorem decodeFrame_some {bytes : List Byte} {f : Frame} (h : decodeFrame bytes = some f) :
    ∃ arb kind rest, bytes = arb :: kind :: rest ∧
      kindForm kind.toNat = some (bytes.length, arb.toNat / 32) ∧
      bytes16 (crc16 (bytes.take (bytes.length - 2))) = bytes.drop (bytes.length - 2) := by
  unfold decodeFrame at h
  split at h
  · rename_i arb kind t3 t2 t1 t0 rest
    dsimp only at h
    split at h
    · rename_i k1 k0 body check spelt
      split at h
      · rename_i ok
        have two : 2 ≤ rest.length := by
          have := congrArg List.length check
          simp only [List.length_drop, List.length_cons, List.length_nil] at this
          omega
        have form := kindForm_of_body spelt
        rw [List.length_take] at form
        refine ⟨arb, kind, _, rfl, ?_, ?_⟩
        · rw [form, ok.2]
          simp only [List.length_cons]
          congr 2
          omega
        · have len : (arb :: kind :: t3 :: t2 :: t1 :: t0 :: rest).length - 2 =
              rest.length - 2 + 6 := by
            simp only [List.length_cons]
            omega
          rw [len]
          simp only [List.take_succ_cons, List.drop_succ_cons]
          rw [ok.1, check, bytes16_word16]
      · cases h
    · cases h
  · cases h

/-- What R58 refuses: too few bytes, a wrong length or class for the kind, a wrong check. -/
def BadForm (bytes : List Byte) : Prop :=
  bytes.length < 2 ∨
    (∃ arb kind : Byte, ∃ rest, bytes = arb :: kind :: rest ∧
      kindForm kind.toNat ≠ some (bytes.length, arb.toNat / 32)) ∨
    bytes16 (crc16 (bytes.take (bytes.length - 2))) ≠ bytes.drop (bytes.length - 2)

theorem decodeFrame_of_badForm {bytes : List Byte} (h : BadForm bytes) :
    decodeFrame bytes = none := by
  cases decoded : decodeFrame bytes with
  | none => rfl
  | some f =>
    obtain ⟨arb, kind, rest, rfl, form, check⟩ := decodeFrame_some decoded
    rcases h with short | ⟨a, k, r, e, wrong⟩ | crc
    · simp only [List.length_cons] at short
      omega
    · cases e
      exact absurd form wrong
    · exact absurd check crc

/-! ### The receive path (R58 to R60, R63) -/

theorem exec_frameDiscarded_of_none {bits : List Bool} (h : decodeLine bits = none) (s : State) :
    exec (.frameDiscarded bits) s = .next s.lineIdled := by
  show Host.Outcome.next _ = _
  rw [h, ← State.frameOver_eq]

theorem exec_frameDiscarded_of_frame {bits : List Bool} {f : Frame} (h : decodeLine bits = some f)
    (s : State) : exec (.frameDiscarded bits) s = exec (frameRow f) s := by
  rw [exec_frameRow]
  show Host.Outcome.next _ = _
  rw [h]

theorem State.receive_eq (s : State) (f : Frame) :
    ∃ accept, s.receive f = s.receiveWith f accept := by
  obtain ⟨sender, T, body⟩ := f
  unfold State.receive
  cases body <;> exact ⟨_, rfl⟩

theorem State.lineIdled_of_off {s : State} (h : s.bus.rxOn = false) : s.lineIdled = s := by
  have line : (if s.bus.rxOn = true ∧ s.bus.attempting = false then Traffic.idle
      else s.bus.line) = s.bus.line := by
    rw [h]
    rfl
  rw [State.lineIdled, line]

theorem State.receiveWith_off {s : State} (h : s.bus.rxOn = false) (f : Frame)
    (accept : State → State) : s.receiveWith f accept = s := by
  rw [State.receiveWith, h]
  rfl

theorem State.receiveWith_own {s : State} {f : Frame} (on : s.bus.rxOn = true)
    (own : s.bus.ownStation = some f.sender) (accept : State → State) :
    s.receiveWith f accept = s.lineIdled.raise .stationClash (f.body.kindCode.setWidth 32) := by
  simp [State.receiveWith, on, own, State.frameOver_eq]

theorem State.receiveWith_invalid {s : State} {f : Frame} (other : s.bus.ownStation ≠ some f.sender)
    (bad : frameValuesOk s.conf f = false) (accept : State → State) :
    s.receiveWith f accept = s.lineIdled := by
  cases on : s.bus.rxOn with
  | false => rw [State.receiveWith_off on, State.lineIdled_of_off on]
  | true => simp [State.receiveWith, on, other, bad, State.frameOver_eq]

theorem announcementOk_eq_false {r : Record} {a : Announcement}
    (h : 2 < a.cls.toNat ∨ r.loopLen ≤ a.position.toNat) : announcementOk r a = false := by
  rw [announcementOk, Bool.and_eq_false_iff, Option.isSome_eq_false_iff, Option.isNone_iff_eq_none,
    classOfCode_eq_none_iff, decide_eq_false_iff_not, not_lt]
  exact h

/-- R60's checks in the words of the statement. -/
theorem frameValuesOk_eq_false {r : Record} {f : Frame}
    (h : match f.body with
      | .state able => f.tote ≠ 0 ∨ 1 < able.toNat
      | .want w => isProduct r f.tote = false ∨ 5631 < w.toNat
      | .infeed a => isProduct r f.tote = false ∨ 2 < a.cls.toNat ∨ r.loopLen ≤ a.position.toNat
      | .release a => isProduct r f.tote = false ∨ 2 < a.cls.toNat ∨ r.loopLen ≤ a.position.toNat
      | .ret => isProduct r f.tote = false
      | .drop => isProduct r f.tote = false
      | .hold => isProduct r f.tote = false) : frameValuesOk r f = false := by
  obtain ⟨sender, T, body⟩ := f
  cases body with
  | state able =>
    rw [frameValuesOk, Bool.and_eq_false_iff, beq_eq_false_iff_ne, decide_eq_false_iff_not, not_le]
    exact h
  | want w =>
    rw [frameValuesOk, Bool.and_eq_false_iff, decide_eq_false_iff_not, not_le]
    exact h
  | infeed a =>
    rw [frameValuesOk, Bool.and_eq_false_iff]
    exact h.imp_right announcementOk_eq_false
  | release a =>
    rw [frameValuesOk, Bool.and_eq_false_iff]
    exact h.imp_right announcementOk_eq_false
  | ret => exact h
  | drop => exact h
  | hold => exact h

/-- Settles O36, by what the bits spell and by the checks of an event's frame. -/
theorem receivePath : Obligations.ReceivePath := by
  unfold Obligations.ReceivePath
  refine ⟨fun lead cs after s spaced => ?_, fun f s => ⟨?_, fun off => ?_, fun on own => ?_,
    fun other bad => ?_⟩⟩
  · extract_lets run bytes
    refine ⟨fun broken => ?_, fun bits hbits => ?_⟩
    · obtain ⟨r, -, spelt⟩ := bytesOfLine_run spaced lead (tail := false :: after) (.inr rfl)
      refine exec_frameDiscarded_of_none ?_ s
      rw [decodeLine, spelt, bytesAfterQuiet_broken r broken]
      rfl
    · have spelt : bytesOfLine bits = some bytes := by
        rcases hbits with rfl | ⟨rfl, some⟩
        · exact bytesOfLine_spaced spaced lead
        · rw [List.append_assoc]
          exact bytesOfLine_idle spaced lead after some
      refine ⟨fun bad => exec_frameDiscarded_of_none ?_ s, fun f hf =>
        exec_frameDiscarded_of_frame ?_ s⟩
      · rw [decodeLine, spelt]
        exact decodeFrame_of_badForm bad
      · rw [decodeLine, spelt, hf]
        exact decodeFrame_encodeFrame f
  · refine exec_frameDiscarded_of_frame ?_ s
    rw [decodeLine, frameBits, bytesOfLine_lineBits]
    exact decodeFrame_encodeFrame f
  all_goals
    obtain ⟨accept, received⟩ := s.receive_eq f
    rw [exec_frameRow, received]
  · rw [State.receiveWith_off off]
  · rw [State.receiveWith_own on own]
    refine ⟨_, rfl, State.raise_frame _ _ _, RaisedOnce.raised ?_⟩
    obtain ⟨sender, T, body⟩ := f
    cases body <;> rfl
  · rw [State.receiveWith_invalid other (frameValuesOk_eq_false bad)]

end Sys2Proof.Machine
end

section
/-! PROOFS. What WANT, HOLD, RETURN, RELEASE and INFEED do to the Interest Board and the expected arrival list
(O38, O39, O40), and how a send attempt begins and ends (O41, O42). -/

namespace Sys2Proof.Machine

/-! ### The Interest Board (R69, R71 to R73, R75) -/

theorem mem_map_if {es : List InterestEntry} {p : InterestEntry → Bool}
    {f : InterestEntry → InterestEntry} {e : InterestEntry} :
    (e ∈ es.map fun x => if p x then f x else x) ↔
      (e ∈ es ∧ p e = false) ∨ ∃ o ∈ es, p o = true ∧ e = f o := by
  rw [List.mem_map]
  constructor
  · rintro ⟨o, ho, rfl⟩
    cases named : p o with
    | true => exact .inr ⟨o, ho, named, rfl⟩
    | false => exact .inl ⟨ho, named⟩
  · rintro (⟨he, other⟩ | ⟨o, ho, named, rfl⟩)
    · exact ⟨e, he, by rw [other]; rfl⟩
    · exact ⟨o, ho, if_pos named⟩

theorem isEntry_eq_false_iff {x : StationNo} {T : ToteNo} {e : InterestEntry} :
    isEntry x T e = false ↔ ¬ (e.station = x ∧ e.tote = T) := by
  rw [← isEntry_iff, Bool.not_eq_true]

theorem any_isEntry_eq_false {es : List InterestEntry} {x : StationNo} {T : ToteNo}
    (absent : ∀ o ∈ es, ¬ (o.station = x ∧ o.tote = T)) : es.any (isEntry x T) = false := by
  rw [List.any_eq_false]
  exact fun o ho => mt isEntry_iff.mp (absent o ho)

theorem any_isEntry {es : List InterestEntry} {o : InterestEntry} (ho : o ∈ es) :
    es.any (isEntry o.station o.tote) = true :=
  List.any_eq_true.mpr ⟨o, ho, isEntry_iff.mpr ⟨rfl, rfl⟩⟩

/-- No two entries have one pair (R68). -/
theorem BoardLaw.eq_of_pair {s : State} (h : BoardLaw s) {a b : InterestEntry}
    (ha : a ∈ s.board.entries) (hb : b ∈ s.board.entries)
    (pair : a.station = b.station ∧ a.tote = b.tote) : a = b :=
  List.inj_on_of_nodup_map h.2.1 ha hb (Prod.ext pair.1 pair.2)

section
variable {b : Board} {x : StationNo} {T : ToteNo} {W : Nat}

theorem boardWant_of_present (h : b.entries.any (isEntry x T) = true) :
    boardWant b x T W =
      { b with entries := b.entries.map fun e =>
          if isEntry x T e then { e with weight := some W, age := 0 } else e } :=
  if_pos h

theorem boardWant_of_room (h : b.entries.any (isEntry x T) = false)
    (room : b.entries.length < 64) :
    boardWant b x T W =
      { b with entries := b.entries ++
          [{ station := x, tote := T, weight := some W, holding := false, age := 0 }] } := by
  rw [boardWant, h]
  exact if_pos room

theorem boardWant_of_full (h : b.entries.any (isEntry x T) = false)
    (full : b.entries.length = 64) :
    boardWant b x T W =
      { b with
        crowded := true
        entries := (match weakest b.entries with
          | some e =>
              if e.weight.getD 0 < W then
                (b.entries.filter fun x => !isEntry e.station e.tote x) ++
                  [{ station := x, tote := T, weight := some W, holding := false, age := 0 }]
              else b.entries
          | none => b.entries) } :=
  (if_neg (by simp [h])).trans (if_neg (by omega))

theorem boardHold_of_present (h : b.entries.any (isEntry x T) = true) :
    boardHold b x T =
      { b with entries := b.entries.map fun e =>
          if isEntry x T e then { e with holding := true, age := 0 } else e } :=
  if_pos h

theorem boardHold_of_room (h : b.entries.any (isEntry x T) = false)
    (room : b.entries.length < 64) :
    boardHold b x T =
      { b with entries := b.entries ++
          [{ station := x, tote := T, weight := none, holding := true, age := 0 }] } := by
  rw [boardHold, h]
  exact if_pos room

theorem boardHold_of_full (h : b.entries.any (isEntry x T) = false)
    (full : 64 ≤ b.entries.length) : boardHold b x T = { b with crowded := true } :=
  (if_neg (by simp [h])).trans (if_neg (not_lt.mpr full))

end

theorem mem_clearHolding {b : Board} {named : InterestEntry → Bool} {e : InterestEntry} :
    e ∈ (clearHolding b named).entries ↔
      (e ∈ b.entries ∧ named e = false) ∨
      ∃ o ∈ b.entries, named o = true ∧ o.weight.isSome = true ∧
        e = { o with holding := false } := by
  rw [clearHolding, mem_map_if]
  refine or_congr ?_ ?_
  · rw [List.mem_filter]
    exact ⟨fun h => ⟨h.1.1, h.2⟩, fun h => ⟨⟨h.1, by simp [h.2]⟩, h.2⟩⟩
  · refine exists_congr fun o => ?_
    rw [List.mem_filter]
    cases named o
    · simp
    · simp [and_assoc]

/-! ### The weakest entry of a full board (R75) -/

/-- Of two entries the one that a crowded WANT replaces first. -/
def Weakest (o : InterestEntry) (es : List InterestEntry) : Prop :=
  ∀ e ∈ es, e ≠ o → weaker o e = true ∧ weaker e o = false

/-- The entry kept of the best so far and the next, as `weakest` takes them. -/
def weakerOf (best : Option InterestEntry) (e : InterestEntry) : Option InterestEntry :=
  match best with
  | none => some e
  | some b => if weaker e b then some e else some b

theorem weakest_eq (es : List InterestEntry) :
    weakest es = (es.filter fun e => !e.holding).foldl weakerOf none := rfl

theorem foldl_weakerOf {o : InterestEntry} {es : List InterestEntry} (h : Weakest o es)
    {best : Option InterestEntry} (hbest : ∀ b ∈ best, Weakest o [b])
    (found : o ∈ es ∨ best = some o) : es.foldl weakerOf best = some o := by
  induction es generalizing best with
  | nil => exact found.resolve_left (by simp)
  | cons a es ih =>
    have rest : Weakest o es := fun e he => h e (.tail _ he)
    have first : Weakest o [a] := fun e he => h e (by simp_all)
    rw [List.foldl_cons]
    cases best with
    | none =>
      refine ih rest (fun b hb => ?_) ?_
      · cases hb
        exact first
      · rcases found with found | found
        · rcases List.mem_cons.mp found with rfl | found
          · exact .inr rfl
          · exact .inl found
        · cases found
    | some c =>
      have old := hbest c rfl
      show es.foldl weakerOf (if weaker a c then some a else some c) = some o
      cases lower : weaker a c with
      | true =>
        refine ih rest (fun b hb => ?_) ?_
        · cases hb
          exact first
        · by_cases same : o = a
          · exact .inr (congrArg some same.symm)
          · refine .inl ((List.mem_cons.mp (found.resolve_right fun e => ?_)).resolve_left same)
            cases e
            rw [(first a (.head _) (Ne.symm same)).2] at lower
            cases lower
      | false =>
        refine ih rest hbest ?_
        by_cases same : c = o
        · exact .inr (congrArg some same)
        · refine .inl ((List.mem_cons.mp (found.resolve_right fun e => same ?_)).resolve_left
            fun e => ?_)
          · exact Option.some.inj e
          · rw [← e, (old c (.head _) same).1] at lower
            cases lower

theorem weakest_eq_some {o : InterestEntry} {es : List InterestEntry} (ho : o ∈ es)
    (free : o.holding = false) (h : Weakest o (es.filter fun e => !e.holding)) :
    weakest es = some o :=
  foldl_weakerOf h (by simp) (.inl (List.mem_filter.mpr ⟨ho, by simp [free]⟩))

theorem weakest_free {es : List InterestEntry} {e : InterestEntry} (h : weakest es = some e) :
    e ∈ es ∧ e.holding = false := by
  have key : ∀ (l : List InterestEntry) (b : Option InterestEntry), l.foldl weakerOf b = some e →
      e ∈ l ∨ b = some e := by
    intro l
    induction l with
    | nil => exact fun b hb => .inr hb
    | cons a l ih =>
      intro b hb
      rcases ih _ hb with found | found
      · exact .inl (.tail _ found)
      · cases b with
        | none => exact .inl (Option.some.inj found ▸ .head _)
        | some c =>
          have found : (if weaker a c then some a else some c) = some e := found
          split at found
          · exact .inl (Option.some.inj found ▸ .head _)
          · exact .inr found
  have mem := List.mem_filter.mp ((key _ _ h).resolve_right (by simp))
  exact ⟨mem.1, by simpa using mem.2⟩

/-- R75's order of the entries with a weight that may give way. -/
theorem weaker_of_order {o e : InterestEntry} {v u : Nat} (ho : o.weight = some v)
    (he : e.weight = some u)
    (h : v < u ∨ v = u ∧ (e.age < o.age ∨ e.age = o.age ∧
      (o.station < e.station ∨ o.station = e.station ∧ o.tote.toNat < e.tote.toNat))) :
    weaker o e = true ∧ weaker e o = false := by
  rcases h with lower | ⟨rfl, older | ⟨age, low | ⟨station, low⟩⟩⟩
  · simp [weaker, ho, he, lower, lower.ne, lower.ne', lower.le]
  · simp [weaker, ho, he, older, older.ne, older.ne', older.le]
  · simp [weaker, ho, he, age, low, low.ne, low.ne', low.le]
  · simp [weaker, ho, he, age, station, low, low.le]

/-! ### WANT (R69, R75) -/

section
variable {x : StationNo} {T : ToteNo} {s : State}

theorem exec_wantFrame_accepted {W : BitVec 16} (hrx : s.bus.rxOn = true)
    (hown : s.bus.ownStation ≠ some x) (hT : isProduct s.conf T = true) (hW : W.toNat ≤ 5631) :
    exec (.wantFrame x T W) s = .next (s.lineIdled.acceptWant x T W) :=
  congrArg _ (State.receiveWith_accepted _ hrx hown (by simp [frameValuesOk, hT, hW]))

theorem boardWant_kept (b : Board) (x : StationNo) (T : ToteNo) (W : Nat) :
    (boardWant b x T W).stations = b.stations ∧
      (boardWant b x T W).refreshCount = b.refreshCount := by
  unfold boardWant
  dsimp only
  split
  · exact ⟨rfl, rfl⟩
  · split <;> exact ⟨rfl, rfl⟩

end

/-- Settles O38, by the entry of the pair and the room on the board. -/
theorem wantFrame : Obligations.WantFrame := by
  unfold Obligations.WantFrame
  intro x T W s hrx hown hT hW law
  have kept := boardWant_kept s.board x T W.toNat
  refine ⟨_, exec_wantFrame_accepted hrx hown hT hW, State.acceptWant_frame _ _ _ _, kept.1, kept.2,
    fun o ho station tote => ?_, fun absent => ⟨fun room => ?_, fun full => ?_⟩⟩
  all_goals show (boardWant s.board x T W.toNat).crowded = _ ∧ _
  · subst station tote
    rw [boardWant_of_present (any_isEntry ho)]
    refine ⟨rfl, fun e => ?_⟩
    show e ∈ (boardWant s.board o.station o.tote W.toNat).entries ↔ _
    rw [boardWant_of_present (any_isEntry ho), mem_map_if, isEntry_eq_false_iff, or_comm]
    refine or_congr_left ⟨fun ⟨p, hp, pair, e⟩ => ?_, fun e =>
      ⟨o, ho, isEntry_iff.mpr ⟨rfl, rfl⟩, e⟩⟩
    rw [e, law.eq_of_pair hp ho (isEntry_iff.mp pair)]
  · have fresh := any_isEntry_eq_false absent
    rw [boardWant_of_room fresh room]
    refine ⟨rfl, fun e => ?_⟩
    show e ∈ (boardWant s.board x T W.toNat).entries ↔ _
    rw [boardWant_of_room fresh room, List.mem_append, List.mem_singleton]
  · have fresh := any_isEntry_eq_false absent
    have entries : (s.lineIdled.acceptWant x T W).board.entries =
        (boardWant s.board x T W.toNat).entries := rfl
    rw [entries, boardWant_of_full fresh full]
    refine ⟨rfl, fun strong => ?_, fun o ho v free weight lower order e => ?_⟩
    · cases weak : weakest s.board.entries with
      | none => rfl
      | some e =>
        obtain ⟨he, free⟩ := weakest_free weak
        obtain ⟨v, hv⟩ := Option.isSome_iff_exists.mp
          ((law.2.2 e he).resolve_right (by simp [free]))
        have := strong e he free v hv
        dsimp only
        rw [hv, if_neg (by simpa using this)]
    · have weak : weakest s.board.entries = some o := weakest_eq_some ho free fun e he other => by
        obtain ⟨he, free⟩ := List.mem_filter.mp he
        have free : e.holding = false := by simpa using free
        obtain ⟨u, hu⟩ := Option.isSome_iff_exists.mp
          ((law.2.2 e he).resolve_right (by simp [free]))
        exact weaker_of_order weight hu (order e he u other free hu)
      rw [weak]
      dsimp only
      rw [if_pos (by rw [weight]; exact lower), List.mem_append, List.mem_singleton,
        List.mem_filter, Bool.not_eq_true', isEntry_eq_false_iff]
      refine or_congr_left (and_congr_right fun he => not_congr ⟨fun pair => ?_, ?_⟩)
      · exact law.eq_of_pair he ho pair
      · rintro rfl
        exact ⟨rfl, rfl⟩

/-! ### HOLD and RETURN (R62, R71, R82) -/

theorem exec_returnFrame_accepted {x : StationNo} {T : ToteNo} {s : State}
    (hrx : s.bus.rxOn = true) (hown : s.bus.ownStation ≠ some x) (hT : isProduct s.conf T = true) :
    exec (.returnFrame x T) s = .next (s.lineIdled.unexpect T) :=
  congrArg _ (State.receiveWith_accepted _ hrx hown (by simp [frameValuesOk, hT]))

theorem exec_holdFrame_accepted {x : StationNo} {T : ToteNo} {s : State}
    (hrx : s.bus.rxOn = true) (hown : s.bus.ownStation ≠ some x) (hT : isProduct s.conf T = true) :
    exec (.holdFrame x T) s = .next (s.lineIdled.acceptHold x T) :=
  congrArg _ (State.receiveWith_accepted _ hrx hown (by simp [frameValuesOk, hT]))

theorem State.unexpect_eq (s : State) (T : ToteNo) :
    s.unexpect T = { s with tracker := { s.tracker with
      eal := s.tracker.eal.filter fun e => decide (e.tote ≠ T) } } := by
  have same : (fun e : EalEntry => e.tote != T) = fun e => decide (e.tote ≠ T) := by
    funext e
    by_cases h : e.tote = T <;> simp [h]
  rw [State.unexpect, same]

theorem State.noteDuplicate_notices (s : State) (T : ToteNo) :
    (s.inOwnLane T = true → (s.noteDuplicate T).notices = (s.raise .duplicateTote T).notices) ∧
      (s.inOwnLane T = false → s.noteDuplicate T = s) := by
  refine ⟨fun h => ?_, fun h => ?_⟩ <;> rw [State.noteDuplicate, h] <;> rfl

theorem State.noteDuplicate_board (s : State) (T : ToteNo) :
    (s.noteDuplicate T).board = s.board := (s.noteDuplicate_frame T).board_eq (by simp)

/-- The pair's entry after a HOLD (R71, R75). -/
theorem mem_boardHold {b : Board} {x : StationNo} {T : ToteNo} {e : InterestEntry} :
    e ∈ (boardHold b x T).entries ↔
      (e ∈ b.entries ∧ ¬ (e.station = x ∧ e.tote = T)) ∨
      (∃ o ∈ b.entries, o.station = x ∧ o.tote = T ∧ e = { o with holding := true, age := 0 }) ∨
      ((∀ o ∈ b.entries, ¬ (o.station = x ∧ o.tote = T)) ∧ b.entries.length < 64 ∧
        e = { station := x, tote := T, weight := none, holding := true, age := 0 }) := by
  by_cases present : ∃ o ∈ b.entries, o.station = x ∧ o.tote = T
  · obtain ⟨o, ho, rfl, rfl⟩ := present
    rw [boardHold_of_present (any_isEntry ho), mem_map_if, isEntry_eq_false_iff]
    refine or_congr_right ⟨fun ⟨p, hp, pair, e⟩ => .inl ?_, fun h => ?_⟩
    · obtain ⟨station, tote⟩ := isEntry_iff.mp pair
      exact ⟨p, hp, station, tote, e⟩
    · rcases h with ⟨p, hp, station, tote, e⟩ | ⟨absent, -⟩
      · exact ⟨p, hp, isEntry_iff.mpr ⟨station, tote⟩, e⟩
      · exact absurd ⟨rfl, rfl⟩ (absent o ho)
  · have absent : ∀ o ∈ b.entries, ¬ (o.station = x ∧ o.tote = T) := fun o ho pair =>
      present ⟨o, ho, pair⟩
    have fresh := any_isEntry_eq_false absent
    have old : (e ∈ b.entries ∧ ¬ (e.station = x ∧ e.tote = T)) ↔ e ∈ b.entries :=
      and_iff_left_of_imp (absent e)
    have none : ¬ ∃ o ∈ b.entries, o.station = x ∧ o.tote = T ∧
        e = { o with holding := true, age := 0 } := fun ⟨o, ho, station, tote, _⟩ =>
      absent o ho ⟨station, tote⟩
    rw [old, or_iff_right none]
    by_cases room : b.entries.length < 64
    · rw [boardHold_of_room fresh room, List.mem_append, List.mem_singleton]
      exact or_congr_right ⟨fun h => ⟨absent, room, h⟩, fun h => h.2.2⟩
    · rw [boardHold_of_full fresh (not_lt.mp room)]
      exact (or_iff_left fun h => room h.2.1).symm

theorem boardHold_kept (b : Board) (x : StationNo) (T : ToteNo) :
    (boardHold b x T).stations = b.stations ∧ (boardHold b x T).refreshCount = b.refreshCount ∧
      ((boardHold b x T).crowded = true ↔ b.crowded = true ∨
        (64 ≤ b.entries.length ∧ ∀ o ∈ b.entries, ¬ (o.station = x ∧ o.tote = T))) := by
  by_cases present : ∃ o ∈ b.entries, o.station = x ∧ o.tote = T
  · obtain ⟨o, ho, rfl, rfl⟩ := present
    rw [boardHold_of_present (any_isEntry ho)]
    exact ⟨rfl, rfl, (or_iff_left fun h => h.2 o ho ⟨rfl, rfl⟩).symm⟩
  · have absent : ∀ o ∈ b.entries, ¬ (o.station = x ∧ o.tote = T) := fun o ho pair =>
      present ⟨o, ho, pair⟩
    have fresh := any_isEntry_eq_false absent
    by_cases room : b.entries.length < 64
    · rw [boardHold_of_room fresh room]
      exact ⟨rfl, rfl, (or_iff_left fun h => absurd h.1 (not_le.mpr room)).symm⟩
    · rw [boardHold_of_full fresh (not_lt.mp room)]
      exact ⟨rfl, rfl, iff_of_true rfl (.inr ⟨not_lt.mp room, absent⟩)⟩

/-- Settles O39: the frames are accepted once the line is idle. -/
theorem holdAndReturnFrames : Obligations.HoldAndReturnFrames := by
  unfold Obligations.HoldAndReturnFrames
  intro x T s hrx hown hT
  have board : (s.lineIdled.acceptHold x T).board = boardHold s.board x T := by
    show boardHold (s.lineIdled.noteDuplicate T).board x T = _
    rw [State.noteDuplicate_board]
    rfl
  have notices : (s.lineIdled.acceptHold x T).notices = (s.lineIdled.noteDuplicate T).notices := rfl
  have kept := boardHold_kept s.board x T
  refine ⟨⟨_, exec_returnFrame_accepted hrx hown hT, State.unexpect_eq _ _⟩, _,
    exec_holdFrame_accepted hrx hown hT, (State.acceptHold_frame _ _ _).mono (by decide), ?_, fun own => ?_,
    fun other => ?_, ?_, ?_, fun e => ?_, ?_⟩
  · rw [State.acceptHold, State.unexpect_eq]
    dsimp only
    rw [(State.noteDuplicate_frame _ _).tracker_eq (by simp)]
    rfl
  · exact RaisedOnce.raised (notices.trans ((State.noteDuplicate_notices _ T).1 own))
  · exact notices.trans (congrArg State.notices ((State.noteDuplicate_notices s.lineIdled T).2 other) :)
  · rw [board]
    exact kept.1
  · rw [board]
    exact kept.2.1
  · rw [board]
    exact mem_boardHold
  · rw [board]
    exact kept.2.2

/-! ### Placing a prediction (R79, R81) -/

/-- The entry that the placing of a prediction settles on: the prediction, or its next lap where it is
overdue (R79, step 1), itself not overdue. -/
def PlacedAs (r : Record) (c : Count) (e0 e : EalEntry) : Prop :=
  (isOverdue r c e0 = false ∧ e = e0 ∨ isOverdue r c e0 = true ∧ e = nextLap r e0) ∧
    isOverdue r c e = false

section
variable {r : Record} {c : Count} {e0 e : EalEntry} {tr : Tracker}

theorem PlacedAs.tote_eq (h : PlacedAs r c e0 e) : e.tote = e0.tote := by
  obtain ⟨⟨-, rfl⟩ | ⟨-, rfl⟩, -⟩ := h <;> rfl

theorem PlacedAs.of_due (h : isOverdue r c e0 = false) : PlacedAs r c e0 e0 :=
  ⟨.inl ⟨h, rfl⟩, h⟩

theorem PlacedAs.of_overdue (h : isOverdue r c e0 = true)
    (next : isOverdue r c (nextLap r e0) = false) : PlacedAs r c e0 (nextLap r e0) :=
  ⟨.inr ⟨h, rfl⟩, next⟩

/-- The placing once the entry is settled (R79, steps 2 and 3, R81). -/
theorem placeEntry_placedAs (h : PlacedAs r c e0 e) :
    placeEntry r c e0 tr =
      if tr.eal.any fun x => x.tote == e.tote then
        { tr with eal := insertEntry c e (tr.eal.filter fun x => x.tote != e.tote) }
      else if tr.eal.length < 32 then { tr with eal := insertEntry c e tr.eal }
      else
        { tr with
          crowded := true
          eal := (match tr.eal.getLast? with
            | some far =>
                if aheadOf e.expected c < aheadOf far.expected c then
                  insertEntry c e tr.eal.dropLast
                else tr.eal
            | none => tr.eal) } := by
  have settled : (if isOverdue r c e0 then nextLap r e0 else e0) = e := by
    obtain ⟨⟨due, rfl⟩ | ⟨due, rfl⟩, -⟩ := h <;> simp [due]
  unfold placeEntry
  dsimp only
  rw [settled, h.2]
  rfl

theorem any_tote_eq_false {es : List EalEntry} {T : ToteNo} (absent : ∀ i ∈ es, i.tote ≠ T) :
    (es.any fun x => x.tote == T) = false :=
  List.any_eq_false.mpr fun i hi => mt eq_of_beq (absent i hi)

/-- An entry overdue twice over is given up (R79). -/
theorem placeEntry_of_overdue (h : isOverdue r c e0 = true)
    (next : isOverdue r c (nextLap r e0) = true) : placeEntry r c e0 tr = tr := by
  unfold placeEntry
  dsimp only
  rw [if_pos h, if_pos next]

/-- The placing leaves the tracker but its list and the crowded flag. -/
theorem placeEntry_kept (h : PlacedAs r c e0 e) :
    placeEntry r c e0 tr =
      { tr with eal := (placeEntry r c e0 tr).eal, crowded := (placeEntry r c e0 tr).crowded } := by
  rw [placeEntry_placedAs h]
  split
  · rfl
  · split <;> rfl

/-- The placing replaces the tote's entry, or adds one while there is room (R79). -/
theorem placeEntry_of_space (h : PlacedAs r c e0 e)
    (space : tr.eal.length < 32 ∨ ∃ i ∈ tr.eal, i.tote = e.tote) :
    (placeEntry r c e0 tr).crowded = tr.crowded ∧
      ∀ i, i ∈ (placeEntry r c e0 tr).eal ↔ (i ∈ tr.eal ∧ i.tote ≠ e.tote) ∨ i = e := by
  rw [placeEntry_placedAs h]
  by_cases present : ∃ i ∈ tr.eal, i.tote = e.tote
  · obtain ⟨i, hi, same⟩ := present
    have found : (tr.eal.any fun x => x.tote == e.tote) = true :=
      List.any_eq_true.mpr ⟨i, hi, beq_iff_eq.mpr same⟩
    rw [if_pos found]
    refine ⟨rfl, fun i => ?_⟩
    rw [mem_insertEntry, List.mem_filter, bne_iff_ne, or_comm]
  · have absent : ∀ i ∈ tr.eal, i.tote ≠ e.tote := fun i hi same => present ⟨i, hi, same⟩
    rw [if_neg (by simp [any_tote_eq_false absent]), if_pos (space.resolve_right present)]
    refine ⟨rfl, fun i => ?_⟩
    rw [mem_insertEntry, or_comm, and_iff_left_of_imp (absent i)]

/-- In a crowded list the nearer of the prediction and the farthest entry is kept (R81). -/
theorem placeEntry_of_crowded (h : PlacedAs r c e0 e) {near : List EalEntry} {far : EalEntry}
    (list : tr.eal = near ++ [far]) (full : 32 ≤ tr.eal.length)
    (absent : ∀ i ∈ tr.eal, i.tote ≠ e.tote) :
    (placeEntry r c e0 tr).crowded = true ∧
      (signed16 (e.expected - c) < signed16 (far.expected - c) →
        ∀ i, i ∈ (placeEntry r c e0 tr).eal ↔ i ∈ near ∨ i = e) ∧
      (signed16 (far.expected - c) ≤ signed16 (e.expected - c) →
        (placeEntry r c e0 tr).eal = tr.eal) := by
  rw [placeEntry_placedAs h, if_neg (by simp [any_tote_eq_false absent]),
    if_neg (not_lt.mpr full), list, List.getLast?_concat, List.dropLast_concat]
  refine ⟨rfl, fun nearer i => ?_, fun farther => if_neg (not_lt.mpr farther)⟩
  have nearer : aheadOf e.expected c < aheadOf far.expected c := nearer
  dsimp only
  rw [if_pos nearer, mem_insertEntry, or_comm]

end

/-! ### RELEASE and INFEED (R62, R72, R80) -/


theorem dist_eq {L a b : Nat} (ha : a < L) : dist L a b = (b + L - a) % L := by
  have pos : ((b : Int) - a) % L = (((b + L - a) % L : Nat) : Int) := by
    rw [Int.natCast_mod, show ((b + L - a : Nat) : Int) = (b : Int) - a + L by omega,
      Int.add_emod_right]
  rw [dist, pos, Int.toNat_natCast]

section
variable {x : StationNo} {T : ToteNo} {a : Announcement} {cls : TempClass} {s : State}

theorem announcementOk_of (hcls : a.cls = classCode cls)
    (hpos : a.position.toNat < s.conf.loopLen) : announcementOk s.conf a = true := by
  simp [announcementOk, hcls, classOfCode_classCode, hpos]

theorem exec_releaseFrame_accepted (hrx : s.bus.rxOn = true) (hown : s.bus.ownStation ≠ some x)
    (hT : isProduct s.conf T = true) (ha : announcementOk s.conf a = true) :
    exec (.releaseFrame x T a) s = .next (s.lineIdled.acceptRelease x T a) :=
  congrArg _ (State.receiveWith_accepted _ hrx hown (by simp [frameValuesOk, hT, ha]))

theorem exec_infeedFrame_accepted (hrx : s.bus.rxOn = true) (hown : s.bus.ownStation ≠ some x)
    (hT : isProduct s.conf T = true) (ha : announcementOk s.conf a = true) :
    exec (.infeedFrame x T a) s = .next (s.lineIdled.acceptInfeed T a) :=
  congrArg _ (State.receiveWith_accepted _ hrx hown (by simp [frameValuesOk, hT, ha]))

/-- A prediction of an own lane tote is not entered (R79). -/
theorem State.place_own {s : State} {e : EalEntry} (own : s.inOwnLane e.tote = true) :
    s.place e = s := if_pos own

theorem State.place_other {s : State} {e : EalEntry} (other : s.inOwnLane e.tote = false) :
    s.place e = { s with tracker := placeEntry s.conf s.count e s.tracker } :=
  if_neg (by simp [other])

/-- The tracker after an INFEED: nothing for an own lane tote, and otherwise the placed prediction. -/
theorem State.acceptInfeed_tracker (s : State) (T : ToteNo) (a : Announcement) :
    (s.inOwnLane T = true → (s.acceptInfeed T a).tracker = s.tracker ∧
      (s.acceptInfeed T a).notices = (s.raise .duplicateTote T).notices) ∧
    (s.inOwnLane T = false → (s.acceptInfeed T a).tracker =
        placeEntry s.conf s.count (predict s.conf T a s.clock) s.tracker ∧
      (s.acceptInfeed T a).notices = s.notices) := by
  refine ⟨fun own => ?_, fun other => ?_⟩
  · have same : (s.noteDuplicate T).expect T a = s.noteDuplicate T := State.place_own (by
      rw [State.noteDuplicate, own]
      exact own)
    rw [State.acceptInfeed, same]
    exact ⟨(s.noteDuplicate_frame T).tracker_eq (by simp), (s.noteDuplicate_notices T).1 own⟩
  · rw [State.acceptInfeed, (s.noteDuplicate_notices T).2 other, State.expect,
      State.place_other other]
    exact ⟨rfl, rfl⟩

/-- RELEASE and INFEED differ on the board alone. -/
theorem State.acceptRelease_eq (s : State) (x : StationNo) (T : ToteNo) (a : Announcement) :
    s.acceptRelease x T a =
      { s.acceptInfeed T a with board := boardRelease s.board x T } := by
  have board := s.noteDuplicate_board T
  cases own : s.inOwnLane T with
  | true =>
    have same := State.place_own (s := s.noteDuplicate T)
      (e := predict (s.noteDuplicate T).conf T a (s.noteDuplicate T).clock) (by
        rw [State.noteDuplicate, own]
        exact own)
    rw [State.acceptInfeed, State.expect, same, ← board]
    exact State.place_own (by
      rw [State.noteDuplicate, own]
      exact own)
  | false =>
    have same := (s.noteDuplicate_notices T).2 own
    rw [State.acceptInfeed, State.acceptRelease, same, State.expect, State.expect,
      State.place_other (e := predict s.conf T a s.clock) own]
    exact State.place_other (e := predict s.conf T a s.clock) own

end

/-- Settles O40: the prediction placed as R79 settles it, and the board cleared as R72 says. -/
theorem releaseAndInfeedFrames : Obligations.ReleaseAndInfeedFrames := by
  unfold Obligations.ReleaseAndInfeedFrames
  intro x T a cls s hrx hown hT hcls hpos hR d e k
  have ok := announcementOk_of hcls hpos
  have release := s.lineIdled.acceptRelease_eq x T a
  have infeed := s.lineIdled.acceptInfeed_tracker T a
  have predicted : predict s.conf T a s.clock =
      { tote := T, expected := e, cls := cls, cold := .known a.coldUsed.toNat s.clock,
        laps := k } := by
    rw [predict, dist_eq hpos, hcls, classOfCode_classCode]
    rfl
  have board : (s.lineIdled.acceptRelease x T a).board = boardRelease s.board x T := by
    rw [release]
    rfl
  refine ⟨_, _, exec_releaseFrame_accepted hrx hown hT ok, exec_infeedFrame_accepted hrx hown hT ok,
    (State.acceptRelease_frame _ _ _ _).mono (by decide),
    (State.acceptInfeed_frame _ _ _).mono (by decide), by rw [release], by rw [release],
    by rw [board]; rfl, by rw [board]; rfl, by rw [board]; rfl, fun i => ?_, fun own => ?_,
    fun other => ⟨(infeed.2 other).2, fun p hp => ?_, fun late twice => ?_⟩⟩
  · rw [board, boardRelease, mem_clearHolding, isEntry_eq_false_iff]
    simp only [isEntry_iff, and_assoc]
  · exact ⟨(infeed.1 own).1, RaisedOnce.raised (infeed.1 own).2⟩
  · have placed : PlacedAs s.conf s.count (predict s.conf T a s.clock) p := by
      rw [predicted]
      rcases hp with ⟨due, rfl⟩ | ⟨late, due, rfl⟩
      · exact .of_due ((isOverdue_eq_false_iff _ _ _).mpr due)
      · exact .of_overdue ((isOverdue_iff _ _ _).mpr late) ((isOverdue_eq_false_iff _ _ _).mpr due)
    have tote : p.tote = T := placed.tote_eq
    have tracker : (s.lineIdled.acceptInfeed T a).tracker =
        placeEntry s.conf s.count (predict s.conf T a s.clock) s.tracker := (infeed.2 other).1
    have space := placeEntry_of_space (tr := s.tracker) placed
    rw [tote] at space
    rw [tracker]
    refine ⟨placeEntry_kept placed, space, fun far near list full absent =>
      placeEntry_of_crowded placed list full ?_⟩
    rw [tote]
    exact absent
  · refine (infeed.2 other).1.trans (placeEntry_of_overdue ?_ ?_)
    all_goals show isOverdue s.conf s.count _ = true
    · show isOverdue s.conf s.count (predict s.conf T a s.clock) = true
      rw [predicted]
      exact (isOverdue_iff _ _ _).mpr late
    · show isOverdue s.conf s.count (nextLap s.conf (predict s.conf T a s.clock)) = true
      rw [predicted]
      exact (isOverdue_iff _ _ _).mpr twice

end Sys2Proof.Machine
end

section
/-! PROOFS. How a send attempt begins and how it ends (O41, O42). -/

namespace Sys2Proof.Machine

/-! ### A send attempt begins (R51, R53, R56) -/

theorem Bus.gapOver_eq (b : Bus) :
    b.gapOver = { b with line := if b.rxOn = true ∧ b.line = .gap then .idle else b.line } := by
  rw [← b.gapOver_line]
  rfl

/-- Where every frame is of class 1 or more, the head of the queue is the oldest of the lowest class. -/
theorem queueHead_eq_some {q : List Frame} {f : Frame} (hf : f ∈ q)
    (lowest : ∀ g ∈ q, f.body.lineClass ≤ g.body.lineClass)
    (oldest : (q.find? fun g => decide (g.body.lineClass = f.body.lineClass)) = some f)
    (classed : ∀ g ∈ q, 1 ≤ g.body.lineClass) : queueHead q = some f := by
  have top := lineClass_le f.body
  have bottom := classed f hf
  have none_below : ∀ n < f.body.lineClass, ∀ g ∈ q, ¬ g.body.lineClass ≤ n := fun n hn g hg =>
    not_le.mpr (hn.trans_le (lowest g hg))
  unfold queueHead
  obtain one | above : f.body.lineClass = 1 ∨ 1 < f.body.lineClass := by omega
  · have first : (q.find? fun g => decide (g.body.lineClass ≤ 1)) = some f := by
      rw [← oldest]
      refine List.find?_congr fun g hg => ?_
      rw [decide_eq_decide, one]
      have := classed g hg
      omega
    rw [first]
  · rw [List.find?_eq_none.mpr fun g hg => by simpa using none_below 1 above g hg]
    dsimp only
    obtain two | above : f.body.lineClass = 2 ∨ 2 < f.body.lineClass := by omega
    · have second : (q.find? fun g => g.body.lineClass == 2) = some f := by
        rw [← oldest]
        refine List.find?_congr fun g hg => ?_
        rw [two]
        rfl
      rw [second]
    · rw [List.find?_eq_none.mpr fun g hg => by
        have := none_below 2 above g hg
        simp only [beq_iff_eq]
        omega]
      cases q with
      | nil => cases hf
      | cons x rest =>
        have alike : x.body.lineClass = f.body.lineClass := by
          have := lowest x (.head _)
          have := lineClass_le x.body
          omega
        rw [List.find?_cons_of_pos (by simpa using alike)] at oldest
        exact oldest

theorem exec_sendAttempt (s : State) :
    exec .sendAttempt s = .next { s with bus := beginAttempt s.bus.gapOver } := rfl

theorem Bus.mayAttempt_iff (b : Bus) :
    b.mayAttempt = true ↔
      (b.tx = .on ∨ b.tx = .closing) ∧ b.attempting = false ∧ b.line = .idle := by
  simp [Bus.mayAttempt, and_assoc]

theorem beginAttempt_of_not {b : Bus}
    (h : ¬ ((b.tx = .on ∨ b.tx = .closing) ∧ b.attempting = false ∧ b.line = .idle)) :
    beginAttempt b = b := if_neg (mt b.mayAttempt_iff.mp h)

theorem beginAttempt_of_nothing {b : Bus} (slot : b.slot = none) (queue : b.queue = []) :
    beginAttempt b = b := by
  have fill : fillSlot b = b := by
    rw [fillSlot, slot, queue]
    rfl
  unfold beginAttempt
  split
  · rw [fill, slot]
  · rfl

theorem beginAttempt_of_slot {b : Bus} {x : TxSlot} (may : b.mayAttempt = true)
    (slot : b.slot = some x) :
    beginAttempt b =
      { b with attempting := true, line := .frame, meant := frameBits x.frame, driven := [] } := by
  have fill : fillSlot b = b := by rw [fillSlot, slot]
  rw [beginAttempt, if_pos may, fill]
  cases b
  cases slot
  rfl

theorem beginAttempt_of_head {b : Bus} {f : Frame} (may : b.mayAttempt = true)
    (slot : b.slot = none) (head : queueHead b.queue = some f) :
    beginAttempt b =
      { b with
        attempting := true
        line := .frame
        meant := frameBits f
        driven := []
        slot := some { frame := f, attempts := 0 }
        queue := b.queue.erase f } := by
  have fill : fillSlot b =
      { b with slot := some { frame := f, attempts := 0 }, queue := b.queue.erase f } := by
    rw [fillSlot, slot, head]
  rw [beginAttempt, if_pos may, fill]

/-- Settles O41, by whether the transmitter may begin and what it finds to send. -/
theorem sendAttempts : Obligations.SendAttempts := by
  unfold Obligations.SendAttempts
  refine fun s => ⟨fun frame => ?_, fun nothing => ?_, fun tx free line => ?_⟩
  · have same : s.bus.gapOver = s.bus := by rw [Bus.gapOver_eq, if_neg (by simp [frame])]
    rw [exec_sendAttempt, same, beginAttempt_of_not (by simp [frame])]
  · rw [exec_sendAttempt, ← s.bus.gapOver_eq]
    refine congrArg (fun b => Host.Outcome.next { s with bus := b }) ?_
    obtain off | listen | attempting | ⟨slot, queue⟩ := nothing
    · exact beginAttempt_of_not (by simp [off])
    · exact beginAttempt_of_not (by simp [listen])
    · exact beginAttempt_of_not (by simp [attempting])
    · exact beginAttempt_of_nothing slot queue
  · have idle : s.bus.gapOver.line = .idle := by
      rw [Bus.gapOver_line]
      obtain idle | ⟨gap, on⟩ := line
      · simp [idle]
      · simp [gap, on]
    have may : s.bus.gapOver.mayAttempt = true := (Bus.mayAttempt_iff _).mpr ⟨tx, free, idle⟩
    refine ⟨fun x slot => ?_, fun f slot hf lowest oldest classed => ?_⟩
    · rw [exec_sendAttempt, beginAttempt_of_slot may slot]
      rfl
    · rw [exec_sendAttempt,
        beginAttempt_of_head may slot (queueHead_eq_some hf lowest oldest classed)]
      rfl

/-! ### A send attempt ends (R51 to R53, R64) -/

section
variable {s : State} {x : TxSlot} {r : List Bool}

theorem exec_attemptEnd_of_free (free : s.bus.attempting = false) :
    exec (.attemptEnd r) s = .next s := by
  refine congrArg Host.Outcome.next ?_
  cases s.bus.slot with
  | none => rfl
  | some x => exact if_neg (by simp [free])

theorem exec_attemptEnd_of_slot (slot : s.bus.slot = some x) (busy : s.bus.attempting = true) :
    exec (.attemptEnd r) s = .next (s.endAttempt x r) := by
  refine congrArg Host.Outcome.next ?_
  rw [slot]
  exact if_pos busy

theorem State.endAttempt_of_outcome {outcome : AttemptOutcome}
    (h : attemptOutcome s.bus.meant r = some outcome) :
    s.endAttempt x r = ({ s with bus := s.bus.offLine r } : State).settleSlot x outcome := by
  rw [State.endAttempt, h]

theorem State.settleSlot_of_doomed (doomed : s.bus.slotDoomed = true) (outcome : AttemptOutcome) :
    s.settleSlot x outcome = { s with bus := emptySlot s.bus } := if_pos doomed

theorem State.settleSlot_sent : s.settleSlot x .sent = { s with bus := emptySlot s.bus } := by
  cases doomed : s.bus.slotDoomed with
  | true => exact State.settleSlot_of_doomed doomed _
  | false => exact if_neg (by simp [doomed])

theorem State.settleSlot_lost (doomed : s.bus.slotDoomed = false) :
    s.settleSlot x .lost =
      if 16 ≤ x.attempts + 1 then
        ({ s with bus := emptySlot s.bus } : State).raise .frameAbandoned x.frame.tote
      else if s.bus.queue.any fun f => frameKey f == frameKey x.frame then
        { s with bus := emptySlot s.bus }
      else { s with bus := { s.bus with slot := some { x with attempts := x.attempts + 1 } } } :=
  if_neg (by simp [doomed])

end

/-- The number that a run of bits writes, the most significant first. -/
def bitsNumber : List Bool → Nat
  | [] => 0
  | b :: bs => b.toNat * 2 ^ bs.length + bitsNumber bs

theorem bitsNumber_lt (bs : List Bool) : bitsNumber bs < 2 ^ bs.length := by
  induction bs with
  | nil => simp [bitsNumber]
  | cons b bs ih =>
    rw [bitsNumber, List.length_cons, Nat.pow_succ]
    cases b <;> simp <;> omega

theorem bitsNumber_byteBits : ∀ b : Byte, bitsNumber (byteBits b) = b.toNat := by decide +kernel

/-- Of two runs of one length the lower number has 0 at the first bit where they differ. -/
theorem first_difference {as bs : List Bool} (len : as.length = bs.length)
    (low : bitsNumber as < bitsNumber bs) :
    ∃ p q r, as = p ++ false :: q ∧ bs = p ++ true :: r := by
  induction as generalizing bs with
  | nil => cases bs with
    | nil => exact absurd low (by simp)
    | cons b bs => cases len
  | cons a as ih => cases bs with
    | nil => cases len
    | cons b bs =>
      have len : as.length = bs.length := Nat.succ.inj len
      have bound := bitsNumber_lt as
      have bound' := bitsNumber_lt bs
      rw [bitsNumber, bitsNumber, len] at low
      rw [len] at bound
      have same (h : bitsNumber as < bitsNumber bs) :
          ∃ p q r, a :: as = p ++ false :: q ∧ a :: bs = p ++ true :: r := by
        obtain ⟨p, q, r, rfl, rfl⟩ := ih len h
        exact ⟨a :: p, q, r, rfl, rfl⟩
      cases a <;> cases b
      · exact same (by simpa using low)
      · exact ⟨[], as, bs, rfl, rfl⟩
      · simp at low
        omega
      · exact same (by simpa using low)

theorem lineLevel_of_difference (p q r : List Bool) :
    lineLevel (p ++ false :: q) (p ++ true :: r) = p ++ false :: q := by
  induction p with
  | nil => rfl
  | cons a p ih => simp [lineLevel, ih]

theorem frameBits_eq (f : Frame) :
    ∃ rest, frameBits f = characterBits f.arbitrationByte ++ rest := ⟨_, rfl⟩

/-- Settles O42, by the outcome that the bits read back give, and for the arbitration by the first bit in
which the two bytes differ. -/
theorem attemptEnds : Obligations.AttemptEnds := by
  unfold Obligations.AttemptEnds
  refine ⟨fun s => ⟨fun free r => exec_attemptEnd_of_free free, fun r rest meant more => ?_,
    fun x r slot busy => ?_⟩, fun f g low => ?_⟩
  · cases busy : s.bus.attempting with
    | false => exact exec_attemptEnd_of_free busy
    | true => cases slot : s.bus.slot with
      | none =>
        refine congrArg Host.Outcome.next ?_
        rw [slot]
      | some x =>
        rw [exec_attemptEnd_of_slot slot busy, State.endAttempt, meant, attempt_goes_on _ _ more]
  · intro off emptied
    have lineOver {driven : List Bool} {lost : Bool} (hd : bitsDriven s.bus.meant r = driven)
        (ha : lostArbitration s.bus.meant r = lost) :
        emptySlot (s.bus.offLine r) = emptied (off driven (if lost then .frame else .gap)) := by
      subst hd ha
      rw [emptySlot_eq]
      rfl
    refine ⟨fun more hr => ?_, fun a after more m meant hr => ?_⟩
    · obtain ⟨outcome, kept, driven⟩ := attempt_sent s.bus.meant more
      rw [← hr] at outcome kept driven
      rw [exec_attemptEnd_of_slot slot busy, State.endAttempt_of_outcome outcome,
        State.settleSlot_sent]
      exact congrArg (fun b => Host.Outcome.next { s with bus := b }) (lineOver driven kept)
    · obtain ⟨outcome, arbitration, driven⟩ := attempt_lost a after more m
      rw [← meant, ← hr] at outcome arbitration driven
      have line : (if (decide (1 ≤ a.length ∧ a.length ≤ 8) && m) = true then Traffic.frame
          else .gap) = if 1 ≤ a.length ∧ a.length ≤ 8 ∧ m = true then .frame else .gap := by
        simp [and_assoc]
      have ended := lineOver driven arbitration
      rw [line] at ended
      have run : exec (.attemptEnd r) s =
          .next (({ s with bus := s.bus.offLine r } : State).settleSlot x .lost) := by
        rw [exec_attemptEnd_of_slot slot busy, State.endAttempt_of_outcome outcome]
      intro b
      refine ⟨fun doomed => ?_, fun clean last => ?_, fun clean early again => ?_,
        fun clean early alone => ?_⟩
      · rw [run, State.settleSlot_of_doomed (s := { s with bus := s.bus.offLine r }) doomed]
        exact congrArg (fun b => Host.Outcome.next { s with bus := b }) ended
      · rw [State.settleSlot_lost (s := { s with bus := s.bus.offLine r }) clean, if_pos last] at run
        exact ⟨_, run, by simp [SameExcept, State.raise, State.changeNotice], ended,
          RaisedOnce.raised rfl⟩
      · have queued : (s.bus.queue.any fun f => frameKey f == frameKey x.frame) = true := by
          simpa using again
        rw [run, State.settleSlot_lost (s := { s with bus := s.bus.offLine r }) clean, if_neg (by omega)]
        exact congrArg Host.Outcome.next ((if_pos queued).trans
          (congrArg (fun b => { s with bus := b }) ended))
      · have fresh : ¬ (s.bus.queue.any fun f => frameKey f == frameKey x.frame) = true := by
          simpa using alone
        rw [run, State.settleSlot_lost (s := { s with bus := s.bus.offLine r }) clean, if_neg (by omega)]
        refine congrArg Host.Outcome.next ((if_neg fresh).trans ?_)
        refine congrArg (fun b => { s with bus := b }) ?_
        have kept : s.bus.offLine r =
            off (a ++ [m]) (if 1 ≤ a.length ∧ a.length ≤ 8 ∧ m = true then .frame else .gap) := by
          rw [Bus.offLine, driven, arbitration, line]
          dsimp only [off]
          rw [← clean]
        rw [kept]
  · have difference := first_difference (as := byteBits f.arbitrationByte)
      (bs := byteBits g.arbitrationByte) rfl (by simpa only [bitsNumber_byteBits] using low)
    obtain ⟨p, q, r, hf, hg⟩ := difference
    have size : p.length ≤ 7 := by
      have := congrArg List.length hf
      simp [byteBits] at this
      omega
    have charF : characterBits f.arbitrationByte = (false :: p) ++ false :: (q ++ [true]) := by
      simp [characterBits, hf]
    have charG : characterBits g.arbitrationByte = (false :: p) ++ true :: (r ++ [true]) := by
      simp [characterBits, hg]
    intro level
    have level_eq : level = (false :: p) ++ false :: (q ++ [true]) := by
      show lineLevel _ _ = _
      rw [charF, charG, lineLevel_of_difference]
    refine ⟨?_, false :: p, ?_⟩
    · obtain ⟨rest, h⟩ := frameBits_eq f
      exact ⟨rest, by rw [h, level_eq, charF]⟩
    · obtain ⟨rest, h⟩ := frameBits_eq g
      refine ⟨r ++ [true] ++ rest, q ++ [true], ?_, level_eq, by simp, Nat.succ_le_succ size⟩
      rw [h, charG]
      simp

end Sys2Proof.Machine
end

section
/-! PROOFS. The reader event: the identity settled, the sighting, and the judgement (O43 to O46). -/

namespace Sys2Proof.Machine

/-! ### The sighting and the rival weight (R73, R76) -/

theorem mem_boardSighting {b : Board} {T : ToteNo} {i : InterestEntry} :
    i ∈ (boardSighting b T).entries ↔
      (i ∈ b.entries ∧ i.tote ≠ T) ∨
      ∃ o ∈ b.entries, o.tote = T ∧ o.weight.isSome = true ∧ i = { o with holding := false } := by
  rw [boardSighting, mem_clearHolding]
  simp

theorem foldl_max_le_iff {l : List Nat} {a X : Nat} :
    l.foldl max a ≤ X ↔ a ≤ X ∧ ∀ x ∈ l, x ≤ X := by
  induction l generalizing a with
  | nil => simp
  | cons x l ih =>
    rw [List.foldl_cons, ih, max_le_iff, List.forall_mem_cons, and_assoc]

theorem rivalWeight_le_iff {b : Board} {T : ToteNo} {X : Nat} :
    rivalWeight b T ≤ X ↔ ∀ i ∈ b.entries, i.tote = T → b.stations[i.station].heard = true →
      b.stations[i.station].able = true → ∀ v, i.weight = some v → v ≤ X := by
  rw [rivalWeight, foldl_max_le_iff, and_iff_right (Nat.zero_le X)]
  simp only [List.mem_filterMap, rivalOf]
  constructor
  · intro h i hi tote heard able v hv
    exact h v ⟨i, hi, (if_pos ⟨tote, heard, able⟩).trans hv⟩
  · rintro h v ⟨i, hi, hv⟩
    split at hv
    · rename_i counts
      obtain ⟨tote, heard, able⟩ := counts
      exact h i hi tote heard able v hv
    · cases hv

/-- Holding does not count in the rival weight, and an entry without a weight has none to give. -/
theorem rivalWeight_sighting (b : Board) (T : ToteNo) :
    rivalWeight (boardSighting b T) T = rivalWeight b T := by
  refine eq_of_forall_ge_iff fun X => ?_
  rw [rivalWeight_le_iff, rivalWeight_le_iff]
  constructor
  · intro h i hi tote heard able v hv
    exact h { i with holding := false }
      (mem_boardSighting.mpr (.inr ⟨i, hi, tote, by simp [hv], rfl⟩)) tote heard able v hv
  · intro h i hi tote heard able v hv
    rcases mem_boardSighting.mp hi with ⟨-, other⟩ | ⟨o, ho, named, -, rfl⟩
    · exact absurd tote other
    · exact h o ho named heard able v hv

/-! ### The judgement (R98 to R103) -/

section
variable {u : State} {T : ToteNo} {part : Option EntryPart}

theorem State.takes_iff :
    u.takes T part = true ↔ u.mode = .active ∧ u.modeCtl.able = true ∧
      ∃ W, u.weightOf T = some W ∧
        (rivalWeight u.board T ≤ W + u.conf.g ∨
          u.conf.lapLimit ≤ (part.map EntryPart.laps).getD 0 + 1) := by
  have limit : u.conf.lapLimit - 1 ≤ (part.map EntryPart.laps).getD 0 ↔
      u.conf.lapLimit ≤ (part.map EntryPart.laps).getD 0 + 1 := by omega
  simp only [State.takes, takeTest, Bool.and_eq_true, beq_iff_eq, Option.any_eq_true,
    Bool.or_eq_true, decide_eq_true_eq, limit, and_assoc]

theorem State.takes_sighting :
    ({ u with board := boardSighting u.board T } : State).takes T part = u.takes T part := by
  rw [Bool.eq_iff_iff, State.takes_iff, State.takes_iff]
  dsimp only
  rw [rivalWeight_sighting]
  rfl

/-- A tote passed: the sighting, and its next pass expected (R73, R84, R102). -/
theorem State.sighted_passed (out : OutputsLaw u) (able : u.modeCtl.able = u.ableNow)
    (other : u.inOwnLane T = false) (passes : u.takes T part = false) :
    u.sighted T part =
      { u with
        board := boardSighting u.board T
        tracker := placeEntry u.conf u.count (reAddEntry u.conf T u.count u.clock part)
          u.tracker } := by
  have tote := reAddEntry_tote u.conf T u.count u.clock part
  have placed := State.place_other (s := { u with board := boardSighting u.board T })
    (e := reAddEntry u.conf T u.count u.clock part) (by rw [tote]; exact other)
  have judged : ({ u with board := boardSighting u.board T } : State).judge T part =
      ({ u with board := boardSighting u.board T } : State).place
        (reAddEntry u.conf T u.count u.clock part) := by
    refine (if_neg ?_).trans (if_neg ?_)
    · exact fun own => absurd (other.symm.trans own) (by simp)
    · rw [State.takes_sighting, passes]
      simp
  rw [State.sighted, judged, placed]
  exact State.settleLane_of_law out able

/-- A tote taken: one command and the record of the read (R103). -/
theorem State.sighted_taken (other : u.inOwnLane T = false) (takes : u.takes T part = true) :
    u.sighted T part =
      (({ u with board := boardSighting u.board T } : State).take T part).settleLane := by
  refine congrArg State.settleLane ((if_neg ?_).trans (if_pos ?_))
  · exact fun own => absurd (other.symm.trans own) (by simp)
  · rw [State.takes_sighting, takes]

theorem State.sighted_own (out : OutputsLaw u) (able : u.modeCtl.able = u.ableNow)
    (own : u.inOwnLane T = true) :
    u.sighted T part =
      ({ u with board := boardSighting u.board T } : State).raise .duplicateTote T := by
  refine (congrArg State.settleLane (if_pos own)).trans ?_
  exact State.settleLane_of_law out able

end

/-- What follows a take: able worked out with one record more, STATE where it changes, and the lane as it
was (R147, R148). -/
theorem State.settle_taken {u v : State} (out : OutputsLaw u) (able : u.modeCtl.able = true)
    (now : u.modeCtl.able = u.ableNow) (frame : SameExcept [.board, .divert] u v)
    (grown : v.divert.records.length = u.divert.records.length + 1) :
    v.settleLane.lane = u.lane ∧
      v.settleLane.modeCtl.able =
        decide (u.divert.records.length + u.lane.queue.length + 1 < u.conf.c) ∧
      (u.divert.records.length + u.lane.queue.length + 1 < u.conf.c → v.settleLane = v) ∧
      (u.conf.c ≤ u.divert.records.length + u.lane.queue.length + 1 → u.bus.tx = .on →
        u.bus.queue.length < 16 → ∃ f ∈ v.settleLane.bus.queue, f.tote = 0 ∧ f.body = .state 0) := by
  have lane := frame.lane_eq (by simp)
  have ctl := frame.modeCtl_eq (by simp)
  have outV : OutputsLaw v := frame.outputsLaw (by simp) (by simp) out
  have conf : v.conf = u.conf := by rw [State.conf, frame.cfg_eq (by simp)]; rfl
  obtain ⟨active, free, -⟩ : u.mode = .active ∧ u.lane.jam = none ∧ _ := by
    have := (u.ableNow_iff).symm.trans (now.symm.trans able)
    simpa using this
  have ableV : v.ableNow =
      decide (u.divert.records.length + u.lane.queue.length + 1 < u.conf.c) := by
    rw [State.ableNow_iff, State.mode, ctl, lane, conf, grown, decide_eq_decide]
    simp only [free, show u.modeCtl.mode = .active from active, true_and]
    omega
  have kept : v.settleLane.lane = v.lane := by
    rw [State.settleLane_lane_eq]
    have sensors : v.timedSensors = v.lane.sensors :=
      sensors_ext fun x => by rw [sensorOf_timedSensors, State.timedSensor_of_law outV]
    rw [sensors, ← outV.1]
  refine ⟨kept.trans lane, ?_, fun room => ?_, fun full on few => ?_⟩
  · rw [State.settleLane_modeCtl, ableV]
  · refine State.settleLane_of_law outV ?_
    rw [ableV, ctl, able]
    exact (decide_eq_true room).symm
  · have unable : v.ableNow = false := by
      rw [ableV]
      exact decide_eq_false (not_lt.mpr full)
    obtain ⟨w, settled, bus, ableW⟩ := State.settleLane_of_able_changed (s := v) (by
      rw [unable, ctl, able]
      simp)
    have busW : w.bus = u.bus := bus.trans (frame.bus_eq (by simp))
    rw [settled]
    refine ⟨_, State.request_mem (by rw [busW]; exact on) (by rw [busW]; exact few) _ _, rfl, ?_⟩
    show FrameBody.state (boolCode w.modeCtl.able) = _
    rw [ableW, unable]
    rfl

/-! ### The reader's report (R86 to R88) -/

/-- A report of no product number and no service number (R86). -/
def FailedReport (s : State) (r : ReaderReport) : Prop :=
  r = .noRead ∨ ∃ n, r = .label n ∧
    (toteKind s.conf n = .unknown ∨ toteKind s.conf n = .nonCanonical)

section
variable {s : State} (configured : s.mode ≠ .unconfigured)
include configured

theorem exec_readerEvent_failed {r : ReaderReport} (failed : FailedReport s r) :
    exec (.readerEvent r) s = .next s.failedRead := by
  refine congrArg Host.Outcome.next ((if_pos (s.configured_iff.mpr configured)).trans ?_)
  obtain rfl | ⟨n, rfl, kind | kind⟩ := failed
  · rfl
  all_goals
    dsimp only
    rw [kind]

theorem exec_readerEvent_service {n : ToteNo} (kind : toteKind s.conf n = .service) :
    exec (.readerEvent (.label n)) s = .next s := by
  refine congrArg Host.Outcome.next ((if_pos (s.configured_iff.mpr configured)).trans ?_)
  dsimp only
  rw [kind]

theorem exec_readerEvent_product {T : ToteNo} (kind : toteKind s.conf T = .product) :
    exec (.readerEvent (.label T)) s = .next (s.goodRead T) := by
  refine congrArg Host.Outcome.next ((if_pos (s.configured_iff.mpr configured)).trans ?_)
  dsimp only
  rw [kind]

end

theorem State.goodRead_unexpected {s : State} {T : ToteNo} (absent : ∀ e ∈ s.tracker.eal, e.tote ≠ T) :
    s.goodRead T = s.sighted T none := by
  have none : ealEntryOf s.tracker T = none :=
    List.find?_eq_none.mpr fun e he => mt eq_of_beq (absent e he)
  rw [State.goodRead, none]

theorem State.goodRead_expected {s : State} {e : EalEntry} (he : e ∈ s.tracker.eal)
    (nodup : (s.tracker.eal.map EalEntry.tote).Nodup) :
    s.goodRead e.tote = (s.matchRead e).sighted e.tote (some e.part) := by
  have found : ealEntryOf s.tracker e.tote = some e := by
    cases search : ealEntryOf s.tracker e.tote with
    | none => exact absurd (beq_self_eq_true e.tote) (List.find?_eq_none.mp search e he)
    | some f =>
      have tote : f.tote = e.tote := by simpa using List.find?_some search
      rw [List.inj_on_of_nodup_map nodup (List.mem_of_find?_eq_some search) he tote]
  rw [State.goodRead, found]

theorem inWindow_iff {r : Record} {c : Count} {e : EalEntry} :
    inWindow r c e = true ↔ |signed16 (c - e.expected)| ≤ (r.wWin : Int) := by
  rw [inWindow, decide_eq_true_iff, absDeviation, deviation, Int.abs_eq_natAbs]
  omega

theorem inWindow_eq_false_iff {r : Record} {c : Count} {e : EalEntry} :
    inWindow r c e = false ↔ (r.wWin : Int) < |signed16 (c - e.expected)| := by
  rw [← Bool.not_eq_true, inWindow_iff, not_le]

/-- Of the entries the one within the window (R88). -/
theorem positionEntry_eq_some {r : Record} {c : Count} {tr : Tracker} {e : EalEntry}
    (locked : tr.lock = .locked) (he : e ∈ tr.eal) (nodup : (tr.eal.map EalEntry.tote).Nodup)
    (near : inWindow r c e = true) (alone : ∀ f ∈ tr.eal, f ≠ e → inWindow r c f = false) :
    positionEntry r c tr = some e := by
  have only : tr.eal.filter (inWindow r c) = [e] := by
    refine List.perm_singleton.mp ((List.perm_ext_iff_of_nodup
      ((nodup.of_map _).filter _) (List.nodup_singleton e)).mpr fun f => ?_)
    rw [List.mem_filter, List.mem_singleton]
    refine ⟨fun ⟨hf, within⟩ => ?_, fun same => same ▸ ⟨he, near⟩⟩
    by_contra differs
    exact absurd (alone f hf differs) (by simp [within])
  rw [positionEntry, locked, only]

theorem positionEntry_eq_none {r : Record} {c : Count} {tr : Tracker}
    (h : tr.lock ≠ .locked ∨ ∀ e, tr.eal.filter (inWindow r c) ≠ [e]) :
    positionEntry r c tr = none := by
  unfold positionEntry
  split
  · rename_i locked only
    exact absurd h (by simp [locked, only])
  · rfl

theorem State.failedRead_none {s : State} (h : positionEntry s.conf s.count s.tracker = none) :
    s.failedRead = s := by
  rw [State.failedRead, h]

theorem State.failedRead_some {s : State} {e : EalEntry}
    (h : positionEntry s.conf s.count s.tracker = some e) :
    s.failedRead = (s.unexpect e.tote).sighted e.tote (some e.part) := by
  rw [State.failedRead, h]

/-- Settles O43, by the kind of the number read. -/
theorem readerEventPassedAtOnce : Obligations.ReaderEventPassedAtOnce := by
  unfold Obligations.ReaderEventPassedAtOnce
  refine fun s configured out able => ⟨fun n kind => exec_readerEvent_service configured kind,
    fun r failed unnamed => ?_, fun T kind own absent => ?_⟩
  · rw [exec_readerEvent_failed configured failed, State.failedRead_none (positionEntry_eq_none ?_)]
    refine unnamed.imp_right ?_
    rintro (far | ⟨a, e, b, f, c, list, nearE, nearF⟩) x only
    · have mem : x ∈ s.tracker.eal.filter (inWindow s.conf s.count) := by simp [only]
      obtain ⟨hx, within⟩ := List.mem_filter.mp mem
      exact absurd (inWindow_iff.mp within) (not_le.mpr (far x hx))
    · have few := congrArg List.length only
      simp [list, inWindow_iff.mpr nearE, inWindow_iff.mpr nearF] at few
      omega
  · rw [exec_readerEvent_product configured kind, State.goodRead_unexpected absent,
      State.sighted_own out able.1 own]
    refine ⟨_, rfl, by simp [SameExcept, State.raise, State.changeNotice], RaisedOnce.raised rfl,
      fun i => ?_⟩
    exact mem_boardSighting

/-! ### An unmatched read (R97 to R103) -/

/-- The next pass of a tote at the reader, one lap on: due to be placed as it is. -/
theorem reAddEntry_placedAs {r : Record} {c : Count} (T : ToteNo) (t : Clock)
    (part : Option EntryPart)
    (lap : signed16 (c - (c + BitVec.ofNat 16 r.loopLen)) ≤ (r.wWin : Int)) :
    PlacedAs r c (reAddEntry r T c t part) (reAddEntry r T c t part) := by
  refine .of_due ((isOverdue_eq_false_iff _ _ _).mpr ?_)
  rw [reAddEntry_expected]
  exact lap

/-- Settles O44: the judgement passes or takes the tote, and the sighting comes first. -/
theorem takeTestOfUnmatchedRead : Obligations.TakeTest := by
  unfold Obligations.TakeTest
  intro s T configured out able kind other absent sighted passed
  have run : exec (.readerEvent (.label T)) s = .next (s.sighted T none) := by
    rw [exec_readerEvent_product configured kind, State.goodRead_unexpected absent]
  have pass (h : s.takes T none = false) : passed := by
    have result := State.sighted_passed out able.1 other h
    refine ⟨_, run, ?_, ?_, fun room lap => ?_⟩ <;> rw [result]
    · simp [SameExcept]
    · exact ⟨rfl, fun i => mem_boardSighting⟩
    · have placed := reAddEntry_placedAs T s.clock none lap
      have space := placeEntry_of_space (tr := s.tracker) placed (.inl room)
      have kept := placeEntry_kept (tr := s.tracker) placed
      rw [space.1] at kept
      refine ⟨kept, fun i => (space.2 i).trans (or_congr_left (and_iff_left_of_imp ?_))⟩
      exact absent i
  refine ⟨fun h => pass ?_, fun h => pass ?_, fun h => pass ?_, fun W active on weight =>
    ⟨fun wanted => ?_, fun rival early => pass ?_⟩⟩
  · exact Bool.eq_false_iff.mpr fun takes => h (State.takes_iff.mp takes).1
  · refine Bool.eq_false_iff.mpr fun takes => ?_
    obtain ⟨-, -, W, weight, -⟩ := State.takes_iff.mp takes
    exact absurd (h.symm.trans weight) (by simp)
  · refine Bool.eq_false_iff.mpr fun takes => ?_
    exact absurd (h.symm.trans (State.takes_iff.mp takes).2.1) (by simp)
  · have takes : s.takes T none = true :=
      State.takes_iff.mpr ⟨active, on, W, weight, wanted.imp rivalWeight_le_iff.mpr id⟩
    obtain ⟨lane, ableT, quiet, loud⟩ := State.settle_taken (u := s)
      (v := ({ s with board := boardSighting s.board T } : State).take T none) out on able.1
      (by simp [SameExcept, State.take]) (by simp [State.take])
    have frame := State.settleLane_frame
      (({ s with board := boardSighting s.board T } : State).take T none)
    refine ⟨_, run, ?_, ?_, ?_, ?_, ?_, ?_, fun room => ?_, ?_⟩ <;>
      rw [State.sighted_taken other takes]
    · exact SameExcept.step (as := [.board, .divert]) (by simp [SameExcept, State.take]) frame
        (by simp) (by simp [settleBlocks])
    · have board := frame.board_eq (by decide)
      refine ⟨by rw [board]; rfl, fun i => ?_⟩
      rw [board]
      exact mem_boardSighting
    · exact congrArg Divert.records (frame.divert_eq (by decide))
    · exact congrArg Divert.commands (frame.divert_eq (by decide))
    · exact lane
    · exact ableT
    · rw [quiet room]
      exact ⟨rfl, rfl⟩
    · exact loud
  · refine Bool.eq_false_iff.mpr fun takes => ?_
    obtain ⟨-, -, V, weightV, low | last⟩ := State.takes_iff.mp takes
    · cases weight.symm.trans weightV
      obtain ⟨i, hi, tote, heard, ableI, v, hv, more⟩ := rival
      exact absurd (rivalWeight_le_iff.mp low i hi tote heard ableI v hv) (not_le.mpr more)
    · exact absurd last (not_le.mpr early)

/-! ### A matched read (R87 to R91, R94) -/

/-- R87, R90, R91: the lock of `s` has taken the match or the failure of the expected entry `e`. -/
def LockJudged (e : EalEntry) (s t : State) : Prop :=
  (|signed16 (s.count - e.expected)| ≤ (s.conf.wWin : Int) →
    t.notices = s.notices ∧ t.tracker.attempts ≤ s.tracker.attempts ∧
    (s.tracker.lock = .seeking → t.tracker.lock = .confirming ∧ t.tracker.run = 1 ∧
      t.tracker.attempts = s.tracker.attempts) ∧
    (s.tracker.lock = .confirming → s.tracker.run + 1 < s.conf.lockRun →
      t.tracker.lock = .confirming ∧ t.tracker.run = s.tracker.run + 1) ∧
    (s.tracker.lock = .confirming → s.conf.lockRun ≤ s.tracker.run + 1 →
      t.tracker.lock = .locked ∧ t.tracker.run = s.conf.lockRun ∧ t.tracker.attempts = 0 ∧
      t.tracker.misses = 0) ∧
    (s.tracker.lock = .locked → t.tracker.lock = .locked ∧ t.tracker.misses = 0) ∧
    (s.tracker.lock = .faulted → t.tracker.lock = .faulted)) ∧
  ((s.conf.wWin : Int) < |signed16 (s.count - e.expected)| →
    (s.tracker.lock = .locked → s.tracker.misses + 1 < s.conf.missLimit →
      t.tracker.lock = .locked ∧ t.tracker.misses = s.tracker.misses + 1) ∧
    (s.tracker.lock = .locked → s.conf.missLimit ≤ s.tracker.misses + 1 →
      t.tracker.lock = .seeking ∧ t.tracker.misses = 0 ∧
      RaisedOnce .trackLost e.tote s t) ∧
    (s.tracker.lock = .seeking ∨ s.tracker.lock = .confirming →
      s.tracker.attempts + 1 < s.conf.attemptLimit →
      t.tracker.lock = .seeking ∧ t.tracker.run = 0 ∧
      t.tracker.attempts = s.tracker.attempts + 1 ∧ t.notices = s.notices) ∧
    (s.tracker.lock = .seeking ∨ s.tracker.lock = .confirming →
      s.conf.attemptLimit ≤ s.tracker.attempts + 1 →
      t.tracker.lock = .faulted ∧ t.tracker.run = 0 ∧
      t.tracker.attempts = s.conf.attemptLimit ∧ RaisedOnce .trackFault e.tote s t) ∧
    (s.tracker.lock = .faulted → t.tracker.lock = .faulted ∧ t.notices = s.notices))

section
variable {r : Record} {tr : Tracker}

theorem lockMatch_seeking (h : tr.lock = .seeking) :
    lockMatch r tr = { tr with lock := .confirming, run := 1 } := by
  rw [lockMatch, h]

theorem lockMatch_confirming (h : tr.lock = .confirming) (few : tr.run + 1 < r.lockRun) :
    lockMatch r tr = { tr with run := tr.run + 1 } := by
  rw [lockMatch, h]
  exact if_neg (not_le.mpr few)

theorem lockMatch_locks (h : tr.lock = .confirming) (many : r.lockRun ≤ tr.run + 1) :
    lockMatch r tr =
      { tr with lock := .locked, run := r.lockRun, attempts := 0, misses := 0 } := by
  rw [lockMatch, h]
  exact if_pos many

theorem lockMatch_locked (h : tr.lock = .locked) : lockMatch r tr = { tr with misses := 0 } := by
  rw [lockMatch, h]

theorem lockMatch_faulted (h : tr.lock = .faulted) : lockMatch r tr = tr := by
  rw [lockMatch, h]

end

/-- The tracker once the entry is consumed and its deviation offered (R87, R94). -/
def State.consumed (s : State) (e : EalEntry) : Tracker :=
  { s.tracker with
    eal := s.tracker.eal.filter fun x => x.tote != e.tote
    maxDev := max s.tracker.maxDev (absDeviation s.count e) }

section
variable {s : State} {e : EalEntry}

theorem State.matchRead_within (h : inWindow s.conf s.count e = true) :
    s.matchRead e = { s with tracker := lockMatch s.conf (s.consumed e) } := if_pos h

theorem State.matchRead_beyond (h : inWindow s.conf s.count e = false) :
    s.matchRead e = ({ s with tracker := s.consumed e } : State).lockFailure e.tote :=
  if_neg (by simp [h])

/-- The lock takes the read; nothing else of the tracker but the list and the greatest deviation moves. -/
theorem State.matchRead_judged (s : State) (e : EalEntry) : LockJudged e s (s.matchRead e) := by
  refine ⟨fun near => ?_, fun far => ?_⟩
  · rw [State.matchRead_within (inWindow_iff.mpr near)]
    refine ⟨rfl, ?_, fun lock => ?_, fun lock few => ?_, fun lock many => ?_, fun lock => ?_,
      fun lock => ?_⟩
    · unfold lockMatch
      split
      · exact le_rfl
      · split
        · exact Nat.zero_le _
        · exact le_rfl
      · exact le_rfl
      · exact le_rfl
    · rw [lockMatch_seeking (tr := s.consumed e) lock]
      exact ⟨rfl, rfl, rfl⟩
    · rw [lockMatch_confirming (tr := s.consumed e) lock few]
      exact ⟨lock, rfl⟩
    · rw [lockMatch_locks (tr := s.consumed e) lock many]
      exact ⟨rfl, rfl, rfl, rfl⟩
    · rw [lockMatch_locked (tr := s.consumed e) lock]
      exact ⟨lock, rfl⟩
    · rw [lockMatch_faulted (tr := s.consumed e) lock]
      exact lock
  · rw [State.matchRead_beyond (inWindow_eq_false_iff.mpr far)]
    have quiet {tr : Tracker} (h : lockFail s.conf (s.consumed e) = (tr, none)) :=
      State.lockFailure_quiet (s := { s with tracker := s.consumed e }) h e.tote
    have loud {tr : Tracker} {n : NoticeSource}
        (h : lockFail s.conf (s.consumed e) = (tr, some n)) :=
      State.lockFailure_raises (s := { s with tracker := s.consumed e }) h e.tote
    refine ⟨fun lock few => ?_, fun lock many => ?_, fun lock few => ?_, fun lock many => ?_,
      fun lock => ?_⟩
    · rw [quiet (lockFail_missed lock few)]
      exact ⟨lock, rfl⟩
    · rw [loud (lockFail_lost lock many)]
      exact ⟨rfl, rfl, RaisedOnce.raised rfl⟩
    · rw [quiet (lockFail_attempt lock few)]
      exact ⟨rfl, rfl, rfl, rfl⟩
    · rw [loud (lockFail_fault lock many)]
      exact ⟨rfl, rfl, rfl, RaisedOnce.raised rfl⟩
    · rw [quiet (lockFail_faulted lock)]
      exact ⟨lock, rfl⟩

/-- What a read leaves of the tracker's measurements: the greatest deviation takes its own (R94). -/
theorem State.matchRead_measures (s : State) (e : EalEntry) :
    (s.matchRead e).tracker.maxDev =
        max s.tracker.maxDev (signed16 (s.count - e.expected)).natAbs ∧
      (s.matchRead e).tracker.windowCount = s.tracker.windowCount ∧
      (s.matchRead e).tracker.speed = s.tracker.speed := by
  cases near : inWindow s.conf s.count e with
  | true =>
    rw [State.matchRead_within near]
    show (lockMatch _ _).maxDev = _ ∧ (lockMatch _ _).windowCount = _ ∧ (lockMatch _ _).speed = _
    unfold lockMatch
    split
    · exact ⟨rfl, rfl, rfl⟩
    · split <;> exact ⟨rfl, rfl, rfl⟩
    · exact ⟨rfl, rfl, rfl⟩
    · exact ⟨rfl, rfl, rfl⟩
  | false =>
    have fails (r : Record) (tr : Tracker) : (lockFail r tr).1.maxDev = tr.maxDev ∧
        (lockFail r tr).1.windowCount = tr.windowCount ∧ (lockFail r tr).1.speed = tr.speed := by
      unfold lockFail lockAttemptFails
      split
      · split <;> exact ⟨rfl, rfl, rfl⟩
      · split <;> exact ⟨rfl, rfl, rfl⟩
      · split <;> exact ⟨rfl, rfl, rfl⟩
      · exact ⟨rfl, rfl, rfl⟩
    have tracker : (s.matchRead e).tracker = (lockFail s.conf (s.consumed e)).1 := by
      rw [State.matchRead_beyond near]
      unfold State.lockFailure
      dsimp only
      split <;> rfl
    rw [tracker]
    exact fails _ _

end

/-- The settled identity of an expected entry `e`, in `u`: its entry consumed, and nothing of the state
touched but the tracker and its notices (R87, R88). -/
structure Consumed (e : EalEntry) (s u : State) : Prop where
  frame : SameExcept [.tracker, .notices] s u
  eal : u.tracker.eal = s.tracker.eal.filter fun i => decide (i.tote ≠ e.tote)

theorem filter_bne_tote (es : List EalEntry) (T : ToteNo) :
    (es.filter fun x => x.tote != T) = es.filter fun i => decide (i.tote ≠ T) := by
  refine congrArg (es.filter ·) ?_
  funext i
  by_cases h : i.tote = T <;> simp [h]

theorem State.matchRead_consumed (s : State) (e : EalEntry) : Consumed e s (s.matchRead e) where
  frame := s.matchRead_frame e
  eal := (s.matchRead_eal e).trans (filter_bne_tote _ _)

theorem State.unexpect_consumed (s : State) (e : EalEntry) : Consumed e s (s.unexpect e.tote) where
  frame := (s.unexpect_frame _).mono (by simp)
  eal := filter_bne_tote _ _

namespace Consumed
variable {e : EalEntry} {s u : State} (h : Consumed e s u)
include h

theorem conf_eq : u.conf = s.conf := by
  rw [State.conf, h.frame.cfg_eq (by simp)]
  rfl

theorem inOwnLane_eq (T : ToteNo) : u.inOwnLane T = s.inOwnLane T := by
  rw [State.inOwnLane, h.frame.divert_eq (by simp), h.frame.lane_eq (by simp)]
  rfl

theorem weightOf_eq (T : ToteNo) : u.weightOf T = s.weightOf T := by
  rw [State.weightOf, h.frame.demand_eq (by simp), h.frame.puts_eq (by simp),
    h.frame.clock_eq (by simp)]
  rfl

theorem able (law : AbleLaw s) : u.modeCtl.able = u.ableNow := by
  rw [h.frame.ableNow_eq (by simp) (by simp) (by simp) (by simp), h.frame.modeCtl_eq (by simp)]
  exact law.1

theorem outputs (law : OutputsLaw s) : OutputsLaw u :=
  h.frame.outputsLaw (by simp) (by simp) law

/-- Passed: the entry comes back one lap on, with its class, reference and laps + 1 (R84, R102). -/
theorem passed (out : OutputsLaw s) (ableLaw : AbleLaw s) (other : s.inOwnLane e.tote = false)
    (he : e ∈ s.tracker.eal) (few : s.tracker.eal.length ≤ 32)
    (lap : signed16 (s.count - (s.count + BitVec.ofNat 16 s.conf.loopLen)) ≤ (s.conf.wWin : Int))
    (passes : u.takes e.tote (some e.part) = false) :
    let t := u.sighted e.tote (some e.part)
    SameExcept [.board, .tracker] u t ∧ t.board = boardSighting s.board e.tote ∧
      t.tracker = { u.tracker with eal := t.tracker.eal } ∧
      ∀ i, i ∈ t.tracker.eal ↔ (i ∈ s.tracker.eal ∧ i.tote ≠ e.tote) ∨
        i = { tote := e.tote, expected := s.count + BitVec.ofNat 16 s.conf.loopLen, cls := e.cls,
              cold := e.cold, laps := min 255 (e.laps + 1) } := by
  have own : u.inOwnLane e.tote = false := (h.inOwnLane_eq _).trans other
  have count : u.count = s.count := h.frame.count_eq (by simp)
  have result := State.sighted_passed (h.outputs out) (h.able ableLaw) own passes
  have placed := reAddEntry_placedAs (r := u.conf) (c := u.count) e.tote u.clock (some e.part)
    (by rw [h.conf_eq, count]; exact lap)
  have room : u.tracker.eal.length < 32 := by
    have fewer : (s.tracker.eal.filter fun i => decide (i.tote ≠ e.tote)).length <
        s.tracker.eal.length :=
      List.length_filter_lt_length_iff_exists.mpr ⟨e, he, by simp⟩
    rw [h.eal]
    omega
  have space := placeEntry_of_space (tr := u.tracker) placed (.inl room)
  have kept := placeEntry_kept (tr := u.tracker) placed
  rw [space.1] at kept
  intro t
  have t_eq : t = _ := result
  rw [t_eq]
  refine ⟨by simp [SameExcept], ?_, kept, fun i => (space.2 i).trans (or_congr ?_ ?_)⟩
  · show boardSighting u.board e.tote = _
    rw [h.frame.board_eq (by simp)]
  · rw [h.eal, List.mem_filter, decide_eq_true_iff, reAddEntry_tote, and_assoc, and_self]
  · rw [h.conf_eq, count]
    rfl

end Consumed

/-- Settles O45: whichever way the identity was settled, the tote is passed. -/
theorem matchedReadIsPassed : Obligations.MatchedReadIsPassed := by
  unfold Obligations.MatchedReadIsPassed
  intro s e configured unwanted out able other he nodup few lap passed
  have passes {u : State} (h : Consumed e s u) : u.takes e.tote (some e.part) = false := by
    refine Bool.eq_false_iff.mpr fun takes => ?_
    obtain ⟨active, on, W, weight, -⟩ := State.takes_iff.mp takes
    rw [State.mode, h.frame.modeCtl_eq (by simp)] at active
    rw [h.frame.modeCtl_eq (by simp)] at on
    rw [h.weightOf_eq] at weight
    rcases unwanted with mode | none | off
    · exact mode active
    · exact absurd (none.symm.trans weight) (by simp)
    · exact absurd (off.symm.trans on) (by simp)
  refine ⟨fun r failed locked near alone => ?_, fun kind => ?_⟩
  · have named := positionEntry_eq_some (r := s.conf) locked he nodup (inWindow_iff.mpr near)
      fun f hf differs => inWindow_eq_false_iff.mpr (alone f hf differs)
    have consumed := s.unexpect_consumed e
    obtain ⟨frame, board, tracker, mem⟩ :=
      consumed.passed out able other he few lap (passes consumed)
    refine ⟨_, (exec_readerEvent_failed configured failed).trans
      (congrArg _ (State.failedRead_some named)), ?_, mem, ?_, fun i => ?_⟩
    · exact (s.unexpect_frame e.tote).step frame (by simp) (by simp)
    · exact tracker.trans rfl
    · rw [board]
      exact mem_boardSighting
  · have consumed := s.matchRead_consumed e
    obtain ⟨frame, board, tracker, mem⟩ :=
      consumed.passed out able other he few lap (passes consumed)
    have measures := s.matchRead_measures e
    have judged : LockJudged e s ((s.matchRead e).sighted e.tote (some e.part)) := by
      have read := s.matchRead_judged e
      unfold LockJudged RaisedOnce at read ⊢
      rw [tracker, frame.notices_eq (by simp)]
      exact read
    refine ⟨_, (exec_readerEvent_product configured kind).trans
      (congrArg _ (State.goodRead_expected he nodup)), ?_, mem, ?_, ?_, ?_, judged.1, judged.2⟩
    · exact consumed.frame.step frame (by simp) (by simp)
    all_goals rw [tracker]
    · exact measures.1
    · exact measures.2.1
    · exact measures.2.2

/-- Settles O46: the identity is settled by the match or by position, and then taken or passed. -/
theorem expectedToteInActive : Obligations.ExpectedToteInActive := by
  unfold Obligations.ExpectedToteInActive
  intro s e W r active out able on other he nodup few weight kind named settled
  have configured : s.mode ≠ .unconfigured := by
    rw [active]
    decide
  obtain ⟨u, consumed, run, byLabel, byPosition⟩ : ∃ u, Consumed e s u ∧
      exec (.readerEvent r) s = .next (u.sighted e.tote (some e.part)) ∧
      (r = .label e.tote → u = s.matchRead e) ∧ (r ≠ .label e.tote → u = s.unexpect e.tote) := by
    rcases named with rfl | ⟨failed, locked, near, alone⟩
    · exact ⟨_, s.matchRead_consumed e, (exec_readerEvent_product configured kind).trans
        (congrArg _ (State.goodRead_expected he nodup)), fun _ => rfl, fun h => absurd rfl h⟩
    · have found := positionEntry_eq_some (r := s.conf) locked he nodup (inWindow_iff.mpr near)
        fun f hf differs => inWindow_eq_false_iff.mpr (alone f hf differs)
      refine ⟨_, s.unexpect_consumed e, (exec_readerEvent_failed configured failed).trans
        (congrArg _ (State.failedRead_some found)), fun same => ?_, fun _ => rfl⟩
      rcases same ▸ failed with h | ⟨n, h, unnamed⟩
      · cases h
      · cases h
        simp [kind] at unnamed
  have settles {t : State} (h : t.tracker = { u.tracker with eal := t.tracker.eal }) :
      settled t := by
    refine ⟨fun failed => ?_, fun label => ?_⟩
    · rw [byPosition failed] at h
      exact h
    · rw [byLabel label] at h
      obtain ⟨near, far⟩ := s.matchRead_judged e
      rw [h]
      refine ⟨(s.matchRead_measures e).1, fun lock within => ?_,
        fun lock beyond => (far beyond).1 lock, fun lock within => ?_⟩
      · obtain ⟨-, -, -, -, -, locked, -⟩ := near within
        exact locked lock
      · obtain ⟨-, -, seeking, -⟩ := near within
        obtain ⟨confirming, one, -⟩ := seeking lock
        exact ⟨confirming, one⟩
  have quiet : r ≠ .label e.tote → u.notices = s.notices := fun failed => by
    rw [byPosition failed]
    rfl
  have takes_iff : u.takes e.tote (some e.part) = true ↔
      (rivalWeight s.board e.tote ≤ W + s.conf.g ∨ s.conf.lapLimit ≤ e.laps + 1) := by
    rw [State.takes_iff, State.mode, consumed.frame.modeCtl_eq (by simp), consumed.weightOf_eq,
      consumed.conf_eq, consumed.frame.board_eq (by simp), weight]
    simp [show s.modeCtl.mode = .active from active, on, EalEntry.part]
  refine ⟨fun wanted => ?_, fun rival early lap => ?_⟩
  · have takes := takes_iff.mpr (wanted.imp_left rivalWeight_le_iff.mpr)
    let v := ({ u with board := boardSighting u.board e.tote } : State).take e.tote (some e.part)
    have frame := State.settleLane_frame v
    have own : u.inOwnLane e.tote = false := (consumed.inOwnLane_eq _).trans other
    have onU : u.modeCtl.able = true := by
      rw [consumed.frame.modeCtl_eq (by simp)]
      exact on
    obtain ⟨lane, ableT, still, -⟩ := State.settle_taken (u := u) (v := v) (consumed.outputs out)
      onU (consumed.able able) (by simp [v, SameExcept, State.take]) (by simp [v, State.take])
    have records : u.divert = s.divert := consumed.frame.divert_eq (by simp)
    have laneU : u.lane = s.lane := consumed.frame.lane_eq (by simp)
    have tracker : v.settleLane.tracker = u.tracker := frame.tracker_eq (by simp)
    have divert : v.settleLane.divert = v.divert := frame.divert_eq (by simp)
    rw [records, laneU, consumed.conf_eq] at ableT still
    rw [laneU] at lane
    refine ⟨_, run.trans (congrArg _ (State.sighted_taken own takes)), ?_, settles ?_, ?_, ?_, ?_,
      lane, ableT, fun room => ?_⟩
    · rw [← State.sighted_taken own takes]
      exact consumed.frame.step (State.sighted_frame _ _ _) (by simp [settleBlocks])
        (List.Subset.refl _)
    · exact tracker.trans (by rw [tracker])
    · exact (congrArg Tracker.eal tracker).trans consumed.eal
    · refine (congrArg Divert.records divert).trans ?_
      show u.divert.records ++ [_] = _
      rw [records, consumed.frame.count_eq (by simp), consumed.frame.clock_eq (by simp)]
      cases cold : e.cold <;> simp [restamp, EalEntry.part, cold, ColdRef.isKnown]
    · refine (congrArg Divert.commands divert).trans ?_
      show u.divert.commands + 1 = _
      rw [records]
    · rw [still room]
      exact ⟨consumed.frame.bus_eq (by simp), quiet⟩
  · have passes : u.takes e.tote (some e.part) = false := by
      refine Bool.eq_false_iff.mpr fun takes => ?_
      rcases takes_iff.mp takes with low | last
      · obtain ⟨i, hi, tote, heard, ableI, v, hv, more⟩ := rival
        exact absurd (rivalWeight_le_iff.mp low i hi tote heard ableI v hv) (not_le.mpr more)
      · exact absurd last (not_le.mpr early)
    obtain ⟨frame, -, tracker, mem⟩ := consumed.passed out able other he few lap passes
    exact ⟨_, run, consumed.frame.step frame (by simp) (by simp), settles tracker,
      fun failed => (frame.notices_eq (by simp)).trans (quiet failed), mem⟩

end Sys2Proof.Machine
end

section
/-! PROOFS. One millisecond of the timers (O3), and the commands that let the time of a timer pass (O34,
O35). -/

namespace Sys2Proof.Machine

/-! ### Free orders -/

theorem State.mem_freeOrder {α : Type} {s : State} {l : List α} {x : α} :
    x ∈ s.freeOrder l ↔ x ∈ l := by
  unfold State.freeOrder
  split
  · exact Iff.rfl
  · exact Iff.rfl
  · rw [rotateBy, List.mem_append, or_comm, ← List.mem_append, List.take_append_drop]

/-! ### The picking timers (R138, R142, R143) -/

theorem getElem_mapVec_fin {α : Type} {n : Nat} (f : α → α) (v : Vector α n) (k : Fin n) :
    (mapVec f v)[k] = f v[k] := getElem_mapVec f v k.val k.isLt

theorem State.raises_frame {α : Type} (n : NoticeSource) (d : α → BitVec 32) (l : List α)
    (s : State) : SameExcept [.notices] s (l.foldl (fun s a => s.raise n (d a)) s) :=
  SameExcept.foldl (fun s _ => s.raise_frame n _) l s

theorem State.raises_pending {α : Type} {n : NoticeSource} {d : α → BitVec 32} {l : List α} {a : α}
    (ha : a ∈ l) (s : State) :
    (l.foldl (fun s a => s.raise n (d a)) s).notices.sources[n.index].pending = true := by
  induction l generalizing s with
  | nil => cases ha
  | cons b l ih =>
    rcases List.mem_cons.mp ha with rfl | ha
    · exact (RaisesOnly.foldl (fun s b => s.raise_raisesOnly n (d b)) l _ n).2
        (s.raise_pending n (d a))
    · exact ih ha _

theorem State.pickingMs_picker (s : State) :
    s.pickingMs.picker =
      { s.picker with
        beams := mapVec beamMs s.picker.beams, settles := mapVec settleMs s.picker.settles } :=
  (State.raises_frame _ _ _ _).picker_eq (by simp)

theorem State.pickingMs_stuck {s : State} {k : PutIdx} (h : turnsStuck s.picker.beams[k] = true) :
    s.pickingMs.notices.sources[NoticeSource.beamStuck.index].pending = true :=
  State.raises_pending
    (State.mem_freeOrder.mpr (List.mem_filter.mpr ⟨mem_allPuts k, h⟩)) _

theorem State.pickingMs_raisesOnly (s : State) : RaisesOnly [.beamStuck] s s.pickingMs :=
  RaisesOnly.trans (.of_notices_eq rfl)
    (RaisesOnly.foldl (fun s _ => s.raise_raisesOnly .beamStuck _) _ _)

/-! ### The lane's times (R124 to R126) -/

/-- The lane with its waits and sensor times one millisecond on. -/
def State.laneRun (s : State) : Lane :=
  { s.lane with waits := waitsMs s.lane.waits, sensors := sensorsMs s.lane.sensors }

theorem waitOf_waitsMs (w : Waits) (x : Wait) : waitOf (waitsMs w) x = (waitOf w x).map (· + 1) := by
  cases x <;> rfl

theorem sensorOf_sensorsMs (ss : Sensors) (x : Sensor) :
    sensorOf (sensorsMs ss) x = sensorMs (sensorOf ss x) := by
  cases x <;> rfl

theorem reached_iff {m : Nat} {t : Option Nat} : reached m t = true ↔ ∃ n, t = some n ∧ m ≤ n := by
  simp [reached, Option.any_eq_true]

theorem mem_allWaits (w : Wait) : w ∈ allWaits := by cases w <;> decide
theorem mem_allSensors (x : Sensor) : x ∈ allSensors := by cases x <;> decide

theorem mem_jamCauses {m : Nat} {l : Lane} {x : Sensor} :
    x ∈ jamCauses m l ↔ (∃ w, (∃ n, waitOf l.waits w = some n ∧ m ≤ n) ∧ waitSensor w = x) ∨
      ∃ n, (sensorOf l.sensors x).time = some n ∧ m ≤ n := by
  simp only [jamCauses, List.mem_append, List.mem_map, List.mem_filter, mem_allWaits,
    mem_allSensors, true_and, reached_iff]

/-- A cause of a jam, in the times before the millisecond. -/
theorem mem_jamCauses_laneRun {s : State} {m : Nat} {x : Sensor} :
    x ∈ jamCauses m s.laneRun ↔
      (∃ w, (∃ n, waitOf s.lane.waits w = some n ∧ m ≤ n + 1) ∧ waitSensor w = x) ∨
      ∃ n, (sensorOf s.lane.sensors x).time = some n ∧ m ≤ n + 1 := by
  have moved {t : Option Nat} : (∃ n, t.map (· + 1) = some n ∧ m ≤ n) ↔
      ∃ n, t = some n ∧ m ≤ n + 1 := by
    cases t <;> simp
  have time : (sensorOf s.laneRun.sensors x).time =
      (sensorOf s.lane.sensors x).time.map (· + 1) := by
    show (sensorOf (sensorsMs s.lane.sensors) x).time = _
    rw [sensorOf_sensorsMs]
    rfl
  have wait (w : Wait) : waitOf s.laneRun.waits w = (waitOf s.lane.waits w).map (· + 1) :=
    waitOf_waitsMs _ w
  rw [mem_jamCauses, time]
  simp only [wait, moved]

section
variable {s : State}

theorem State.laneMs_of_jam (jammed : s.lane.jam.isSome = true) : s.laneMs = s := if_pos jammed

theorem State.laneMs_of_quiet (free : s.lane.jam = none)
    (quiet : jamCauses s.conf.moveTime s.laneRun = []) : s.laneMs = s.withLane s.laneRun := by
  have order : (s.withLane s.laneRun).freeOrder (jamCauses s.conf.moveTime s.laneRun) = [] := by
    rw [quiet]
    rfl
  refine (if_neg (by simp [free])).trans ?_
  show (match (s.withLane s.laneRun).freeOrder (jamCauses s.conf.moveTime s.laneRun) with
    | [] => s.withLane s.laneRun
    | x :: _ => _) = _
  rw [order]

theorem State.laneMs_of_cause (free : s.lane.jam = none)
    (causes : jamCauses s.conf.moveTime s.laneRun ≠ []) :
    ∃ x ∈ jamCauses s.conf.moveTime s.laneRun,
      s.laneMs.lane = { s.laneRun with jam := some x } ∧
      s.laneMs.notices.sources[NoticeSource.laneJam.index].pending = true := by
  cases order : (s.withLane s.laneRun).freeOrder (jamCauses s.conf.moveTime s.laneRun) with
  | nil =>
    obtain ⟨x, hx⟩ := List.exists_mem_of_ne_nil _ causes
    have := State.mem_freeOrder (s := s.withLane s.laneRun).mpr hx
    rw [order] at this
    cases this
  | cons x rest =>
    have hx : x ∈ jamCauses s.conf.moveTime s.laneRun := by
      rw [← State.mem_freeOrder (s := s.withLane s.laneRun), order]
      exact .head _
    have ms : s.laneMs = ((s.withLane s.laneRun).drawn
        (jamCauses s.conf.moveTime s.laneRun)).jamLane x := by
      refine (if_neg (by simp [free])).trans ?_
      show (match (s.withLane s.laneRun).freeOrder (jamCauses s.conf.moveTime s.laneRun) with
        | [] => s.withLane s.laneRun
        | x :: _ => _) = _
      rw [order]
      rfl
    have jam : ((s.withLane s.laneRun).drawn (jamCauses s.conf.moveTime s.laneRun)).jamLane x =
        (((s.withLane s.laneRun).drawn (jamCauses s.conf.moveTime s.laneRun)).withLane
          { s.laneRun with jam := some x }).raise .laneJam (BitVec.ofNat 32 (sensorCode x)) :=
      if_neg (by simp [State.drawn, State.withLane, State.laneRun, free])
    rw [ms, jam]
    exact ⟨x, hx, rfl, State.raise_pending _ _ _⟩

theorem State.laneMs_raisesOnly (s : State) : RaisesOnly [.laneJam] s s.laneMs := by
  unfold State.laneMs
  dsimp only
  split
  · exact .refl _ _
  · split
    · exact .of_notices_eq rfl
    · unfold State.jamLane
      split
      · exact .of_notices_eq rfl
      · exact RaisesOnly.trans (.of_notices_eq rfl) (State.raise_raisesOnly _ _ _)

end

/-! ### One millisecond (R51, R124 to R126, R138, R142, R143) -/

theorem State.request_line (s : State) (T : ToteNo) (b : FrameBody) :
    (s.request T b).bus.line = s.bus.line := by
  by_cases on : s.bus.tx = .on
  · rw [State.request_queue on]
  · rw [State.request_bus_off on]

theorem State.settleLane_line (s : State) : s.settleLane.bus.line = s.bus.line := by
  unfold State.settleLane
  dsimp only
  split
  · rfl
  · exact State.request_line _ _ _

theorem State.timedSensors_congr {s u : State} (lane : u.lane = s.lane) (mode : u.mode = s.mode) :
    u.timedSensors = s.timedSensors := by
  have timed (x : Sensor) : u.timedSensor x = s.timedSensor x := by
    unfold State.timedSensor State.accounted
    rw [lane, mode]
  simp only [State.timedSensors, timed]

/-- Where the law of the outputs holds, the end of an event keeps the sensor times. -/
theorem State.timedSensors_of_law {s : State} (h : OutputsLaw s) :
    s.timedSensors = s.lane.sensors :=
  sensors_ext fun x => by rw [sensorOf_timedSensors, State.timedSensor_of_law h]

/-- What the lane's millisecond sees is what the picking timers left of it. -/
theorem State.lineMs_pickingMs_frame (s : State) :
    SameExcept [.bus, .picker, .notices, .freeDraws] s s.lineMs.pickingMs :=
  s.lineMs_frame.trans (State.pickingMs_frame _)

section
variable {s : State} (configured : s.mode ≠ .unconfigured)
include configured

theorem State.passMs_eq : s.passMs = s.lineMs.pickingMs.laneMs.settleLane :=
  if_pos (s.configured_iff.mpr configured)

theorem State.passMs_picker :
    s.passMs.picker =
      { s.picker with
        beams := mapVec beamMs s.picker.beams, settles := mapVec settleMs s.picker.settles } := by
  rw [State.passMs_eq configured, (State.settleLane_frame _).picker_eq (by simp),
    (State.laneMs_frame _).picker_eq (by simp), State.pickingMs_picker]
  rfl

theorem State.passMs_stuck {k : PutIdx} (h : turnsStuck s.picker.beams[k] = true) :
    s.passMs.notices.sources[NoticeSource.beamStuck.index].pending = true := by
  rw [State.passMs_eq configured]
  have raised : s.lineMs.pickingMs.notices.sources[NoticeSource.beamStuck.index].pending = true :=
    State.pickingMs_stuck (s := s.lineMs) h
  exact (State.settleLane_raisesOnly _ _).2 ((State.laneMs_raisesOnly _ _).2 raised)

theorem State.passMs_line :
    s.passMs.bus.line = if s.bus.rxOn = true ∧ s.bus.line = .gap then .idle else s.bus.line := by
  rw [State.passMs_eq configured, State.settleLane_line, (State.laneMs_frame _).bus_eq (by simp),
    (State.pickingMs_frame _).bus_eq (by simp)]
  exact s.bus.gapOver_line

theorem State.passMs_lane_of_jam (jammed : s.lane.jam.isSome = true) :
    s.passMs.lane = { s.lane with drives := drivesOf s.lane, sensors := s.timedSensors } := by
  have frame := s.lineMs_pickingMs_frame
  have lane : s.lineMs.pickingMs.lane = s.lane := frame.lane_eq (by simp)
  rw [State.passMs_eq configured, State.laneMs_of_jam (by rw [lane]; exact jammed),
    State.settleLane_lane_eq, State.timedSensors_congr lane (frame.mode_eq (by simp)), lane]

theorem State.passMs_lane_of_quiet (free : s.lane.jam = none)
    (quiet : jamCauses s.conf.moveTime s.laneRun = []) :
    s.passMs.lane = { s.laneRun with
      drives := drivesOf s.laneRun, sensors := (s.withLane s.laneRun).timedSensors } := by
  have frame := s.lineMs_pickingMs_frame
  have lane : s.lineMs.pickingMs.lane = s.lane := frame.lane_eq (by simp)
  have run : s.lineMs.pickingMs.laneRun = s.laneRun := by rw [State.laneRun, State.laneRun, lane]
  have conf : s.lineMs.pickingMs.conf = s.conf := by
    rw [State.conf, frame.cfg_eq (by simp)]
    rfl
  have ms := State.laneMs_of_quiet (s := s.lineMs.pickingMs) (by rw [lane]; exact free)
    (by rw [conf, run]; exact quiet)
  rw [run] at ms
  rw [State.passMs_eq configured, ms, State.settleLane_lane_eq,
    State.timedSensors_congr (s := s.withLane s.laneRun)
      (u := s.lineMs.pickingMs.withLane s.laneRun) rfl (frame.mode_eq (by simp))]
  rfl

theorem State.passMs_lane_of_cause (free : s.lane.jam = none)
    (causes : jamCauses s.conf.moveTime s.laneRun ≠ []) :
    ∃ x ∈ jamCauses s.conf.moveTime s.laneRun, ∃ sensors,
      s.passMs.lane = { s.laneRun with jam := some x, drives := .off, sensors := sensors } ∧
      s.passMs.notices.sources[NoticeSource.laneJam.index].pending = true := by
  have frame := s.lineMs_pickingMs_frame
  have lane : s.lineMs.pickingMs.lane = s.lane := frame.lane_eq (by simp)
  have run : s.lineMs.pickingMs.laneRun = s.laneRun := by rw [State.laneRun, State.laneRun, lane]
  have conf : s.lineMs.pickingMs.conf = s.conf := by
    rw [State.conf, frame.cfg_eq (by simp)]
    rfl
  obtain ⟨x, hx, jam, raised⟩ := State.laneMs_of_cause (s := s.lineMs.pickingMs)
    (by rw [lane]; exact free) (by rw [conf, run]; exact causes)
  rw [conf, run] at hx
  rw [run] at jam
  refine ⟨x, hx, s.lineMs.pickingMs.laneMs.timedSensors, ?_, ?_⟩ <;>
    rw [State.passMs_eq configured]
  · rw [State.settleLane_lane_eq, jam]
    rfl
  · exact (State.settleLane_raisesOnly _ _).2 raised

theorem State.passMs_able_of_jam (jammed : s.passMs.lane.jam.isSome = true) :
    s.passMs.modeCtl.able = false := by
  rw [State.passMs_eq configured] at jammed ⊢
  rw [State.settleLane_modeCtl]
  rw [State.settleLane_jam] at jammed
  cases jam : s.lineMs.pickingMs.laneMs.lane.jam with
  | none => simp [jam] at jammed
  | some x => simp [State.ableNow, jam]

theorem State.passMs_raisesOnly :
    RaisesOnly [.beamStuck, .laneJam, .frameAbandoned] s s.passMs := by
  rw [State.passMs_eq configured]
  exact ((RaisesOnly.trans (.of_notices_eq rfl)
    ((State.pickingMs_raisesOnly s.lineMs).mono (by simp))).trans
    ((State.laneMs_raisesOnly _).mono (by simp))).trans
    ((State.settleLane_raisesOnly _).mono (by simp))

end

theorem State.passMs_unconfigured {s : State} (h : s.mode = .unconfigured) : s.passMs = s :=
  if_neg (by simp [s.configured_iff, h])

/-- A millisecond leaves the law of the outputs true. -/
theorem State.passMs_outputs {s : State} (h : OutputsLaw s) : OutputsLaw s.passMs := by
  by_cases configured : s.mode = .unconfigured
  · rw [State.passMs_unconfigured configured]
    exact h
  · rw [State.passMs_eq configured]
    exact (State.settleLane_settled _).2

/-- Sensor times that were running run on, and no other begins. -/
theorem State.passMs_times {s : State} (configured : s.mode ≠ .unconfigured) (law : OutputsLaw s)
    (free : s.lane.jam = none) (quiet : jamCauses s.conf.moveTime s.laneRun = []) (x : Sensor) :
    (sensorOf s.passMs.lane.sensors x).time = (sensorOf s.lane.sensors x).time.map (· + 1) := by
  rw [State.passMs_lane_of_quiet configured free quiet]
  show (sensorOf (s.withLane s.laneRun).timedSensors x).time = _
  have level : sensorOf s.laneRun.sensors x = sensorMs (sensorOf s.lane.sensors x) :=
    sensorOf_sensorsMs _ x
  have running : (sensorOf s.lane.sensors x).time.isSome =
      ((sensorOf s.lane.sensors x).blocked && !s.accounted x) := law.2 x
  have timed : ((s.withLane s.laneRun).timedSensor x).time =
      if (sensorOf s.laneRun.sensors x).blocked && !s.accounted x then
        some ((sensorOf s.laneRun.sensors x).time.getD 0) else none := rfl
  rw [sensorOf_timedSensors, timed, level]
  show (if (sensorOf s.lane.sensors x).blocked && !s.accounted x then
    some (((sensorOf s.lane.sensors x).time.map (· + 1)).getD 0) else none) = _
  rw [← running]
  cases (sensorOf s.lane.sensors x).time <;> rfl

theorem jamCauses_laneRun_eq_nil {s : State}
    (waits : ∀ w n, waitOf s.lane.waits w = some n → n + 1 < s.conf.moveTime)
    (times : ∀ x n, (sensorOf s.lane.sensors x).time = some n → n + 1 < s.conf.moveTime) :
    jamCauses s.conf.moveTime s.laneRun = [] := by
  refine List.eq_nil_iff_forall_not_mem.mpr fun x hx => ?_
  rcases mem_jamCauses_laneRun.mp hx with ⟨w, ⟨n, hn, full⟩, -⟩ | ⟨n, hn, full⟩
  · exact absurd full (not_le.mpr (waits w n hn))
  · exact absurd full (not_le.mpr (times x n hn))

theorem settleMs_some (n : Nat) : settleMs (some n) = if n ≤ 1 then none else some (n - 1) := rfl

section
variable {b : Beam}

theorem beamMs_of_still (h : b.blocked = b.stuck) : beamMs b = b := by
  unfold beamMs
  rw [h]
  cases b.stuck <;> rfl

theorem beamMs_of_blocked (blocked : b.blocked = true) (stuck : b.stuck = false) :
    beamMs b = if b.blockedMs + 1 < 3000 then { b with blockedMs := b.blockedMs + 1 }
      else { b with stuck := true, blockedMs := 3000, clearMs := 0 } := by
  unfold beamMs
  rw [if_pos (by simp [blocked, stuck])]
  by_cases few : b.blockedMs + 1 < 3000
  · rw [if_neg (not_le.mpr few), if_pos few]
  · rw [if_pos (not_lt.mp few), if_neg few]

theorem beamMs_of_clear (clear : b.blocked = false) (stuck : b.stuck = true) :
    beamMs b = if b.clearMs + 1 < 3000 then { b with clearMs := b.clearMs + 1 }
      else { b with stuck := false, clearMs := 3000 } := by
  unfold beamMs
  rw [if_neg (by simp [clear]), if_pos (by simp [clear, stuck])]
  by_cases few : b.clearMs + 1 < 3000
  · rw [if_neg (not_le.mpr few), if_pos few]
  · rw [if_pos (not_lt.mp few), if_neg few]

end

/-- Settles O3, timer by timer. -/
theorem idleStepIsOneMillisecond : Obligations.IdleStepIsOneMillisecond := by
  unfold Obligations.IdleStepIsOneMillisecond
  intro s idle
  have run : step s = .next s.passMs := by rw [step, idle]
  refine ⟨fun unconfigured => ?_, fun configured => ?_⟩
  · rw [run, State.passMs_unconfigured unconfigured]
  have picker := State.passMs_picker configured
  refine ⟨_, run, s.passMs_frame.mono (by decide), fun k => ?_, fun k => ?_, ?_, ?_, ?_, ?_,
    fun jammed => ?_, fun free waits times => ?_, fun free due => ?_,
    State.passMs_line configured⟩
  · rw [picker]
    dsimp only
    rw [getElem_mapVec_fin]
    refine ⟨fun none => ?_, fun n some => ?_⟩
    · exact (congrArg settleMs none).trans rfl
    · exact (congrArg settleMs some).trans (settleMs_some n)
  · rw [picker]
    dsimp only
    rw [getElem_mapVec_fin]
    exact ⟨beamMs_of_still, beamMs_of_blocked, beamMs_of_clear⟩
  · rw [picker]
  · rw [picker]
  · rw [picker]
  · rw [picker]
  · rw [State.passMs_lane_of_jam configured jammed]
    exact ⟨rfl, rfl⟩
  · have quiet := jamCauses_laneRun_eq_nil waits times
    have lane := State.passMs_lane_of_quiet configured free quiet
    refine ⟨?_, fun w => ?_, fun law x => State.passMs_times configured law free quiet x⟩
    · rw [lane]
      exact free
    · rw [lane]
      exact waitOf_waitsMs _ w
  · have causes : jamCauses s.conf.moveTime s.laneRun ≠ [] := by
      rcases due with ⟨w, hw⟩ | ⟨x, hx⟩
      · exact List.ne_nil_of_mem
          (mem_jamCauses_laneRun.mpr (.inl ⟨w, ⟨_, hw, by omega⟩, rfl⟩))
      · exact List.ne_nil_of_mem (mem_jamCauses_laneRun.mpr (.inr ⟨_, hx, by omega⟩))
    obtain ⟨x, -, sensors, lane, raised⟩ := State.passMs_lane_of_cause configured free causes
    rw [lane]
    exact ⟨rfl, raised⟩

/-! ### The time that a timer still needs (R124 to R126) -/

theorem State.passAll_succ (n : Nat) (s : State) :
    State.passAll (n + 1) s = (State.passAll n s).passMs := by
  induction n generalizing s with
  | zero => rfl
  | succ n ih => exact ih s.passMs

theorem State.passMs_mode (s : State) : s.passMs.mode = s.mode := by
  by_cases configured : s.mode = .unconfigured
  · rw [State.passMs_unconfigured configured]
  · rw [State.passMs_eq configured, State.settleLane_mode, (State.laneMs_frame _).mode_eq (by simp),
      s.lineMs_pickingMs_frame.mode_eq (by simp)]

theorem State.passAll_mode (n : Nat) (s : State) : (State.passAll n s).mode = s.mode := by
  induction n with
  | zero => rfl
  | succ n ih => rw [State.passAll_succ, State.passMs_mode, ih]

/-- The lane of `s` after `i` milliseconds without a jam: every time has run on, none has reached MOVE_TIME,
and no record has moved. -/
structure RunningOn (i : Nat) (s t : State) : Prop where
  free : t.lane.jam = none
  outputs : OutputsLaw t
  waits : ∀ w, waitOf t.lane.waits w = (waitOf s.lane.waits w).map (· + i)
  times : ∀ x, (sensorOf t.lane.sensors x).time = (sensorOf s.lane.sensors x).time.map (· + i)
  waitsBelow : 0 < i → ∀ w n, waitOf s.lane.waits w = some n → n + i < s.conf.moveTime
  timesBelow : 0 < i → ∀ x n, (sensorOf s.lane.sensors x).time = some n → n + i < s.conf.moveTime

/-- The lane of `s` was jammed on the way, by a time that ran in `s`. -/
structure JammedBy (s t : State) : Prop where
  cause : ∃ x, t.lane.jam = some x ∧
    ((∃ w, waitSensor w = x ∧ waitOf s.lane.waits w ≠ none) ∨
      (sensorOf s.lane.sensors x).time ≠ none)
  drives : t.lane.drives = .off
  able : t.modeCtl.able = false
  raised : t.notices.sources[NoticeSource.laneJam.index].pending = true

section
variable {s t : State} {i : Nat}

theorem JammedBy.passMs (configured : t.mode ≠ .unconfigured) (h : JammedBy s t) :
    JammedBy s t.passMs := by
  obtain ⟨x, jam, cause⟩ := h.cause
  have lane := State.passMs_lane_of_jam configured (s := t) (by rw [jam]; rfl)
  have jam' : t.passMs.lane.jam = some x := by
    rw [lane]
    exact jam
  refine ⟨⟨x, jam', cause⟩, ?_, State.passMs_able_of_jam configured (by rw [jam']; rfl),
    (State.passMs_raisesOnly configured _).2 h.raised⟩
  rw [lane]
  simp [drivesOf, jam]

theorem RunningOn.passMs (configured : t.mode ≠ .unconfigured) (conf : t.conf = s.conf)
    (h : RunningOn i s t) : RunningOn (i + 1) s t.passMs ∨ JammedBy s t.passMs := by
  have plus {o : Option Nat} : (o.map (· + i)).map (· + 1) = o.map (· + (i + 1)) := by
    cases o <;> rfl
  by_cases quiet : jamCauses t.conf.moveTime t.laneRun = []
  · have lane := State.passMs_lane_of_quiet configured h.free quiet
    have below := fun x => mt mem_jamCauses_laneRun.mpr
      (List.eq_nil_iff_forall_not_mem.mp quiet x)
    refine .inl ⟨?_, State.passMs_outputs h.outputs, fun w => ?_, fun x => ?_, fun _ w n hn => ?_,
      fun _ x n hn => ?_⟩
    · rw [lane]
      exact h.free
    · rw [lane, ← plus, ← h.waits]
      exact waitOf_waitsMs _ w
    · rw [State.passMs_times configured h.outputs h.free quiet, h.times, plus]
    · by_contra full
      refine below (waitSensor w) (.inl ⟨w, ⟨n + i, ?_, ?_⟩, rfl⟩)
      · rw [h.waits, hn]
        rfl
      · rw [conf]
        omega
    · by_contra full
      refine below x (.inr ⟨n + i, ?_, ?_⟩)
      · rw [h.times, hn]
        rfl
      · rw [conf]
        omega
  · obtain ⟨x, hx, sensors, lane, raised⟩ := State.passMs_lane_of_cause configured h.free quiet
    refine .inr ⟨⟨x, by rw [lane], ?_⟩, by rw [lane],
      State.passMs_able_of_jam configured (by rw [lane]; rfl), raised⟩
    rcases mem_jamCauses_laneRun.mp hx with ⟨w, ⟨n, hn, -⟩, rfl⟩ | ⟨n, hn, -⟩
    · refine .inl ⟨w, rfl, fun none => ?_⟩
      rw [h.waits, none] at hn
      cases hn
    · refine .inr fun none => ?_
      rw [h.times, none] at hn
      cases hn

end

/-- However many milliseconds pass, the lane runs on or has been jammed. -/
theorem State.passAll_runs {s : State} (configured : s.mode ≠ .unconfigured)
    (free : s.lane.jam = none) (law : OutputsLaw s) (n : Nat) :
    RunningOn n s (State.passAll n s) ∨ JammedBy s (State.passAll n s) := by
  induction n with
  | zero =>
    have same {o : Option Nat} : o = o.map (· + 0) := by cases o <;> rfl
    exact .inl ⟨free, law, fun w => same, fun x => same, fun h => absurd h (by simp),
      fun h => absurd h (by simp)⟩
  | succ n ih =>
    have frame := State.passAll_frame n s
    have mode : (State.passAll n s).mode ≠ .unconfigured := by
      rw [State.passAll_mode]
      exact configured
    have conf : (State.passAll n s).conf = s.conf := by
      rw [State.conf, frame.cfg_eq (by simp)]
      rfl
    rw [State.passAll_succ]
    exact ih.elim (fun h => h.passMs mode conf) fun h => .inr (h.passMs mode)

/-- Once a time that runs has had the milliseconds it needs, the lane is jammed. -/
theorem State.passAll_jams {s : State} (configured : s.mode ≠ .unconfigured)
    (free : s.lane.jam = none) (law : OutputsLaw s) {t : Option Nat} {m : Nat} (running : t = some m)
    (timed : (∃ w, waitOf s.lane.waits w = t) ∨ ∃ x, (sensorOf s.lane.sensors x).time = t) :
    JammedBy s (State.passAll (s.moveMsLeft t) s) := by
  have left : s.moveMsLeft t = max 1 (s.conf.moveTime - m) := by
    rw [State.moveMsLeft, s.configured_iff.mpr configured, free, running]
    rfl
  refine (State.passAll_runs configured free law _).resolve_left fun h => ?_
  have positive : 0 < s.moveMsLeft t := by omega
  rcases timed with ⟨w, hw⟩ | ⟨x, hx⟩
  · have := h.waitsBelow positive w m (hw.trans running)
    omega
  · have := h.timesBelow positive x m (hx.trans running)
    omega

theorem State.passAll_queue_face (n : Nat) (s : State) :
    (State.passAll n s).lane.face = s.lane.face ∧ (State.passAll n s).lane.queue = s.lane.queue := by
  induction n with
  | zero => exact ⟨rfl, rfl⟩
  | succ n ih =>
    rw [State.passAll_succ, ← ih.1, ← ih.2]
    generalize State.passAll n s = t
    by_cases configured : t.mode = .unconfigured
    · rw [State.passMs_unconfigured configured]
      exact ⟨rfl, rfl⟩
    · cases free : t.lane.jam with
      | some x =>
        rw [State.passMs_lane_of_jam configured (by rw [free]; rfl)]
        exact ⟨rfl, rfl⟩
      | none =>
        by_cases quiet : jamCauses t.conf.moveTime t.laneRun = []
        · rw [State.passMs_lane_of_quiet configured free quiet]
          exact ⟨rfl, rfl⟩
        · obtain ⟨x, -, sensors, lane, -⟩ := State.passMs_lane_of_cause configured free quiet
          rw [lane]
          exact ⟨rfl, rfl⟩

/-- Settles O34: the lane runs on until a time reaches MOVE_TIME, and that of the command does. -/
theorem laneJams : Obligations.LaneJams := by
  unfold Obligations.LaneJams
  refine fun s configured free law => ⟨fun w n hn => ?_, fun x n hn => ?_⟩
  · have jams := State.passAll_jams configured free law hn (.inl ⟨w, rfl⟩)
    obtain ⟨t, run, frame⟩ := exec_frame (.laneJam w) s
    cases run
    obtain ⟨face, queue⟩ := State.passAll_queue_face (s.moveMsLeft (waitOf s.lane.waits w)) s
    obtain ⟨x, jam, cause⟩ := jams.cause
    refine ⟨_, rfl, frame, by rw [jam]; simp, jams.drives, jams.able, State.passAll_mode _ _, face,
      queue, jams.raised, fun alone still => ?_⟩
    rw [jam]
    rcases cause with ⟨v, rfl, hv⟩ | hx
    · by_cases same : v = w
      · subst same
        cases v <;> rfl
      · exact absurd (alone v same) hv
    · exact absurd (still x) hx
  · have jams := State.passAll_jams configured free law hn (.inr ⟨x, rfl⟩)
    obtain ⟨t, run, frame⟩ := exec_frame (.unaccountedSensor x) s
    cases run
    obtain ⟨face, queue⟩ :=
      State.passAll_queue_face (s.moveMsLeft (sensorOf s.lane.sensors x).time) s
    obtain ⟨y, jam, cause⟩ := jams.cause
    refine ⟨_, rfl, frame, by rw [jam]; simp, jams.drives, jams.able, State.passAll_mode _ _, face,
      queue, jams.raised, fun still alone => ?_⟩
    rw [jam]
    rcases cause with ⟨v, -, hv⟩ | hy
    · exact absurd (still v) hv
    · by_cases same : y = x
      · rw [same]
      · exact absurd (alone y same) hy

/-! ### The time that a picking timer still needs (R138, R142, R143) -/

theorem State.passAll_picker {s : State} (configured : s.mode ≠ .unconfigured) (n : Nat) :
    (∀ k : PutIdx, (State.passAll n s).picker.settles[k] = settleMs^[n] s.picker.settles[k]) ∧
    (∀ k : PutIdx, (State.passAll n s).picker.beams[k] = beamMs^[n] s.picker.beams[k]) ∧
    (State.passAll n s).picker.active = s.picker.active ∧
    (State.passAll n s).picker.display = s.picker.display := by
  induction n with
  | zero => exact ⟨fun _ => rfl, fun _ => rfl, rfl, rfl⟩
  | succ n ih =>
    obtain ⟨settles, beams, active, display⟩ := ih
    have picker := State.passMs_picker (s := State.passAll n s)
      (by rw [State.passAll_mode]; exact configured)
    rw [State.passAll_succ, picker]
    refine ⟨fun k => ?_, fun k => ?_, active, display⟩
    · rw [Function.iterate_succ_apply', ← settles]
      exact getElem_mapVec_fin _ _ _
    · rw [Function.iterate_succ_apply', ← beams]
      exact getElem_mapVec_fin _ _ _

theorem settleMs_iterate {m n : Nat} (h : n < m) : settleMs^[n] (some m) = some (m - n) := by
  induction n with
  | zero => rfl
  | succ n ih =>
    rw [Function.iterate_succ_apply', ih (by omega), settleMs_some, if_neg (by omega)]
    rfl

theorem settleMs_iterate_ended {m n : Nat} (h : m ≤ n + 1) :
    settleMs^[n + 1] (some m) = none := by
  induction n generalizing m with
  | zero =>
    rw [Function.iterate_succ_apply, settleMs_some, if_pos h]
    rfl
  | succ n ih =>
    rw [Function.iterate_succ_apply, settleMs_some]
    split
    · exact Function.iterate_fixed rfl _
    · exact ih (by omega)

section
variable {b : Beam} {i : Nat}

theorem beamMs_iterate_blocked (blocked : b.blocked = true) (stuck : b.stuck = false)
    (h : i < msLeft 3000 b.blockedMs) :
    beamMs^[i] b = { b with blockedMs := b.blockedMs + i } := by
  unfold msLeft at h
  induction i with
  | zero => rfl
  | succ i ih =>
    rw [Function.iterate_succ_apply', ih (by omega),
      beamMs_of_blocked (b := { b with blockedMs := b.blockedMs + i }) blocked stuck]
    exact if_pos (show b.blockedMs + i + 1 < 3000 by omega)

theorem beamMs_iterate_clear (clear : b.blocked = false) (stuck : b.stuck = true)
    (h : i < msLeft 3000 b.clearMs) :
    beamMs^[i] b = { b with clearMs := b.clearMs + i } := by
  unfold msLeft at h
  induction i with
  | zero => rfl
  | succ i ih =>
    rw [Function.iterate_succ_apply', ih (by omega),
      beamMs_of_clear (b := { b with clearMs := b.clearMs + i }) clear stuck]
    exact if_pos (show b.clearMs + i + 1 < 3000 by omega)

end

theorem msLeft_pos (limit t : Nat) : ∃ i, msLeft limit t = i + 1 ∧ limit ≤ t + i + 1 := by
  unfold msLeft
  exact ⟨max 1 (limit - t) - 1, by omega, by omega⟩

/-- Settles O35: each timer iterates its own millisecond as often as the command lets pass. -/
theorem pickTimers : Obligations.PickTimers := by
  unfold Obligations.PickTimers
  refine fun s k configured => ⟨fun n hn => ?_, fun idle => ?_, fun blocked free => ?_, fun h => ?_,
    fun clear stuck => ?_, fun h => ?_⟩
  · obtain ⟨t, run, frame⟩ := exec_frame (.settleEnd k) s
    cases run
    have left : s.picker.settles[k].elim 0 (max 1) = max 1 n := by rw [hn]; rfl
    obtain ⟨settles, -, active, display⟩ := State.passAll_picker configured (max 1 n)
    refine ⟨_, rfl, frame, ?_⟩
    rw [left]
    refine ⟨?_, active, display, fun j m hm more => ?_⟩
    · obtain ⟨i, hi⟩ : ∃ i, max 1 n = i + 1 := ⟨max 1 n - 1, by omega⟩
      rw [settles, hn, hi, settleMs_iterate_ended (by omega)]
    · rw [settles, hm, settleMs_iterate more]
  · show Host.Outcome.next (State.passAll (s.picker.settles[k].elim 0 (max 1)) s) = _
    rw [idle]
    rfl
  · obtain ⟨t, run, frame⟩ := exec_frame (.beamStuck k) s
    cases run
    obtain ⟨i, left, full⟩ := msLeft_pos 3000 s.picker.beams[k].blockedMs
    have ms : (if s.picker.beams[k].blocked && !s.picker.beams[k].stuck then
        msLeft 3000 s.picker.beams[k].blockedMs else 0) = i + 1 :=
      (if_pos (by simp only [blocked, free]; rfl)).trans left
    obtain ⟨-, before, -, -⟩ := State.passAll_picker configured i
    obtain ⟨-, beams, active, display⟩ := State.passAll_picker configured (i + 1)
    have running := beamMs_iterate_blocked blocked free (i := i) (by omega)
    refine ⟨_, rfl, frame, ?_⟩
    rw [ms]
    refine ⟨?_, ?_, active, display⟩
    · rw [beams, Function.iterate_succ_apply', running, beamMs_of_blocked
        (b := { s.picker.beams[k] with blockedMs := s.picker.beams[k].blockedMs + i }) blocked free]
      refine (if_neg (show ¬ s.picker.beams[k].blockedMs + i + 1 < 3000 by omega)).trans ?_
      rw [← blocked]
    · rw [State.passAll_succ]
      refine State.passMs_stuck (by rw [State.passAll_mode]; exact configured) (k := k) ?_
      rw [before, running]
      simp only [turnsStuck, blocked, free, Bool.not_false, Bool.and_self, Bool.true_and,
        decide_eq_true_eq]
      exact full
  · have none : (s.picker.beams[k].blocked && !s.picker.beams[k].stuck) = false := by
      rcases h with h | h <;> rw [h] <;> simp
    show Host.Outcome.next (State.passAll (if _ then _ else 0) s) = _
    rw [none]
    rfl
  · obtain ⟨t, run, frame⟩ := exec_frame (.beamRecovered k) s
    cases run
    obtain ⟨i, left, full⟩ := msLeft_pos 3000 s.picker.beams[k].clearMs
    have ms : (if !s.picker.beams[k].blocked && s.picker.beams[k].stuck then
        msLeft 3000 s.picker.beams[k].clearMs else 0) = i + 1 :=
      (if_pos (by simp only [clear, stuck]; rfl)).trans left
    obtain ⟨-, beams, active, display⟩ := State.passAll_picker configured (i + 1)
    have ended : beamMs^[i + 1] s.picker.beams[k] =
        { s.picker.beams[k] with stuck := false, clearMs := 3000 } := by
      rw [Function.iterate_succ_apply', beamMs_iterate_clear clear stuck (i := i) (by omega),
        beamMs_of_clear
          (b := { s.picker.beams[k] with clearMs := s.picker.beams[k].clearMs + i }) clear stuck]
      exact if_neg (show ¬ s.picker.beams[k].clearMs + i + 1 < 3000 by omega)
    refine ⟨_, rfl, frame, ?_⟩
    rw [ms]
    refine ⟨?_, ?_, active, display⟩
    · rw [beams, ended]
      exact clear
    · rw [beams, ended]
  · have none : (!s.picker.beams[k].blocked && s.picker.beams[k].stuck) = false := by
      rcases h with h | h <;> rw [h] <;> simp
    show Host.Outcome.next (State.passAll (if _ then _ else 0) s) = _
    rw [none]
    rfl

end Sys2Proof.Machine
end

section
/-! PROOFS. The fill of the EMPTY face (R112, R128), and the events of the lane sensors and the jam that lead
to it (O28, O48, O49, O53). -/

namespace Sys2Proof.Machine

/-! ### The fill, case by case (R112, R128) -/

section
variable {v : State}

theorem State.fill_of_busy (h : v.lane.face ≠ .empty ∨ v.lane.jam ≠ none) : v.fill = v := by
  refine if_pos ?_
  rcases h with h | h
  · simp [h]
  · simp [Option.isSome_iff_ne_none.mpr h]

theorem State.fill_of_swept (face : v.lane.face = .empty) (free : v.lane.jam = none)
    (sweeping : v.mode = .sweeping) (h : v.isBlocked .face = true ∨ v.isBlocked .exit = true) :
    v.fill =
      (v.withLane { v.lane with
        faceRec := some { strayRec v.clock with stage := .face }, preempted := false }).beginRelease :=
  (if_neg (by simp [face, free])).trans (if_pos (by simp [sweeping, h]))

/-- No face-or-exit case of a sweep (R128). -/
def State.FaceFree (v : State) : Prop :=
  v.mode ≠ .sweeping ∨ v.isBlocked .face = false ∧ v.isBlocked .exit = false

theorem State.fill_of_faceFree (face : v.lane.face = .empty) (free : v.lane.jam = none)
    (h : v.FaceFree) :
    v.fill =
      if v.lane.preempted then v.fillHead
      else
        match v.lane.parkRec with
        | some q => (v.withLane { v.lane with parkRec := none }).beginArriving q .park
        | none =>
          if v.mode == .sweeping && v.isBlocked .park then
            v.beginArriving { strayRec v.clock with stage := .park } .park
          else v.fillHead := by
  refine (if_neg (by simp [face, free])).trans (if_neg ?_)
  rcases h with h | ⟨h, k⟩
  · simp [h]
  · simp [h, k]

theorem State.fill_of_parked (face : v.lane.face = .empty) (free : v.lane.jam = none)
    (h : v.FaceFree) (np : v.lane.preempted = false) {q : LaneRec} (park : v.lane.parkRec = some q) :
    v.fill = (v.withLane { v.lane with parkRec := none }).beginArriving q .park := by
  rw [State.fill_of_faceFree face free h, np, park]
  rfl

theorem State.fill_of_parkStray (face : v.lane.face = .empty) (free : v.lane.jam = none)
    (h : v.FaceFree) (np : v.lane.preempted = false) (park : v.lane.parkRec = none)
    (sweeping : v.mode = .sweeping) (blocked : v.isBlocked .park = true) :
    v.fill = v.beginArriving { strayRec v.clock with stage := .park } .park := by
  rw [State.fill_of_faceFree face free h, np, park]
  exact (if_neg (by simp)).trans (if_pos (by simp [sweeping, blocked]))

theorem State.fill_of_head (face : v.lane.face = .empty) (free : v.lane.jam = none)
    (h : v.FaceFree)
    (next : v.lane.preempted = true ∨
      v.lane.parkRec = none ∧ (v.mode ≠ .sweeping ∨ v.isBlocked .park = false)) :
    v.fill = v.fillHead := by
  rw [State.fill_of_faceFree face free h]
  rcases next with preempted | ⟨park, clear⟩
  · exact if_pos preempted
  · split
    · rfl
    · rw [park]
      refine if_neg ?_
      rcases clear with clear | clear <;> simp [clear]

theorem State.fillHead_of_blocked {q : LaneRec} {rest : List LaneRec} (queue : v.lane.queue = q :: rest)
    (blocked : v.isBlocked .head = true) :
    v.fillHead =
      (v.withLane { v.lane with
        queue := rest, waits := { v.lane.waits with head := none } }).beginArriving q .queue := by
  rw [State.fillHead, queue]
  exact if_pos blocked

theorem State.fillHead_of_clear (queue : v.lane.queue ≠ []) (clear : v.isBlocked .head = false) :
    v.fillHead =
      v.withLane { v.lane with
        waits := { v.lane.waits with head := some (v.lane.waits.head.getD 0) } } := by
  cases list : v.lane.queue with
  | nil => exact absurd list queue
  | cons q rest =>
    rw [State.fillHead, list]
    exact if_neg (by simp [clear])

theorem State.fillHead_of_stray (queue : v.lane.queue = []) (sweeping : v.mode = .sweeping)
    (blocked : v.isBlocked .head = true) :
    v.fillHead = v.beginArriving (strayRec v.clock) .queue := by
  rw [State.fillHead, queue]
  exact if_pos (by simp [sweeping, blocked])

theorem State.fillHead_of_none (queue : v.lane.queue = [])
    (h : v.mode ≠ .sweeping ∨ v.isBlocked .head = false) : v.fillHead = v := by
  rw [State.fillHead, queue]
  refine if_neg ?_
  rcases h with h | h <;> simp [h]

end

/-- Outside SWEEPING the fill releases nothing. -/
theorem State.fill_not_releasing {v : State} (calm : v.mode ≠ .sweeping)
    (face : v.lane.face = .empty) : v.fill.lane.face ≠ .releasing := by
  have head : v.fillHead.lane.face ≠ .releasing := by
    unfold State.fillHead
    split
    · split
      · exact FaceState.noConfusion
      · exact fun h => by cases face.symm.trans h
    · split
      · exact FaceState.noConfusion
      · exact fun h => by cases face.symm.trans h
  cases jam : v.lane.jam with
  | some x =>
    rw [State.fill_of_busy (.inr (by simp [jam])), face]
    exact FaceState.noConfusion
  | none =>
    rw [State.fill_of_faceFree face jam (.inl calm)]
    split
    · exact head
    · split
      · exact FaceState.noConfusion
      · split
        · exact FaceState.noConfusion
        · exact head

/-! ### What the statements say of a filled face (R112, R128) -/

/-- The lane of `t` is that of `w` with the drives and sensor times of the end of an event. -/
def EndedAs (w t : State) : Prop :=
  t.lane = { w.lane with drives := drivesOf w.lane, sensors := t.lane.sensors }

theorem State.settleLane_endedAs (w : State) : EndedAs w w.settleLane := by
  unfold EndedAs
  rw [w.settleLane_lane_eq]

theorem EndedAs.of_lane {w x t : State} (h : EndedAs x t) (same : x.lane = w.lane) : EndedAs w t := by
  unfold EndedAs at h ⊢
  rw [← same]
  exact h

/-- Before the fill, `v` has an EMPTY face and what `u` holds of the lane, its records `queue`. -/
structure FillsAs (queue : List LaneRec) (u v : State) : Prop where
  face : v.lane.face = .empty
  free : v.lane.jam = none
  queued : v.lane.queue = queue
  park : v.lane.parkRec = u.lane.parkRec
  preempted : v.lane.preempted = u.lane.preempted
  gap : v.lane.gap = u.lane.gap
  blocked : ∀ x, x ≠ .entry → v.isBlocked x = u.isBlocked x
  headWait : u.isBlocked .head = false → v.lane.waits.head = u.lane.waits.head

section
variable {queue : List LaneRec} {u v t : State}

theorem FillsAs.filled (h : FillsAs queue u v) (faceFree : v.FaceFree)
    (parkFree : v.mode ≠ .sweeping ∨ v.lane.parkRec ≠ none ∨ v.isBlocked .park = false)
    (ended : EndedAs v.fill t) : Filled queue u t := by
  refine ⟨fun p park np => ?_, fun q rest list next => ?_⟩
  · have fill := State.fill_of_parked h.face h.free faceFree (h.preempted.trans np)
      (h.park.trans park)
    rw [fill] at ended
    rw [ended]
    refine ⟨rfl, rfl, rfl, h.queued, rfl, ?_⟩
    simp [State.beginArriving, State.withLane, drivesOf, h.free]
  · have next : v.lane.preempted = true ∨
        v.lane.parkRec = none ∧ (v.mode ≠ .sweeping ∨ v.isBlocked .park = false) := by
      rcases next with preempted | park
      · exact .inl (h.preempted.trans preempted)
      · have park := h.park.trans park
        exact .inr ⟨park, parkFree.imp_right fun k => k.resolve_left (not_not.mpr park)⟩
    rw [State.fill_of_head h.face h.free faceFree next] at ended
    have queued := h.queued.trans list
    have head := h.blocked .head (by decide)
    cases blocked : u.isBlocked .head with
    | true =>
      rw [State.fillHead_of_blocked queued (head.trans blocked)] at ended
      rw [ended]
      refine ⟨h.park, fun _ => ⟨rfl, rfl, rfl, rfl, rfl, ?_⟩, fun clear => (by cases clear)⟩
      simp [State.beginArriving, State.withLane, drivesOf, h.free]
    | false =>
      rw [State.fillHead_of_clear (by simp [queued]) (head.trans blocked)] at ended
      rw [ended]
      refine ⟨h.park, fun clear => (by cases clear), fun _ => ⟨h.face, h.queued, ?_, ?_⟩⟩
      · show some (v.lane.waits.head.getD 0) = _
        rw [h.headWait blocked]
      · simp [State.withLane, drivesOf, h.free, h.face]

/-- The fill of a sweep (R128). -/
theorem FillsAs.sweepFilled (h : FillsAs u.lane.queue u v) (sweeping : v.mode = .sweeping)
    (np : u.lane.preempted = false) (ended : EndedAs v.fill t) : SweepFilled u t := by
  have np := h.preempted.trans np
  have face := h.blocked .face (by decide)
  have exit := h.blocked .exit (by decide)
  have parkSensor := h.blocked .park (by decide)
  have head := h.blocked .head (by decide)
  refine ⟨fun blocked => ?_, fun faceClear exitClear => ?_⟩
  · have fill := State.fill_of_swept h.face h.free sweeping (by rwa [face, exit])
    rw [fill, EndedAs, State.beginRelease_lane] at ended
    rw [ended]
    cases gap : u.lane.gap <;>
      simp [Lane.released, State.withLane, drivesOf, h.free, h.gap, gap, h.queued, h.park, strayRec,
        newLaneRec, Drives.off]
  · have faceFree : v.FaceFree := .inr ⟨face.trans faceClear, exit.trans exitClear⟩
    refine ⟨fun park blocked => ?_, fun other => ?_, fun park clear none => ?_⟩
    · rw [State.fill_of_parkStray h.face h.free faceFree np (h.park.trans park) sweeping
        (parkSensor.trans blocked)] at ended
      rw [ended]
      refine ⟨rfl, ⟨_, rfl, rfl, rfl⟩, ⟨h.queued, h.park⟩, rfl, ?_⟩
      simp [State.beginArriving, State.withLane, drivesOf, h.free]
    · refine h.filled faceFree (.inr ?_) ended
      rwa [h.park, parkSensor]
    · rw [State.fill_of_head h.face h.free faceFree
        (.inr ⟨h.park.trans park, .inr (parkSensor.trans clear)⟩)] at ended
      have queued := h.queued.trans none
      cases blocked : u.isBlocked .head with
      | true =>
        rw [State.fillHead_of_stray queued sweeping (head.trans blocked)] at ended
        rw [ended]
        refine ⟨⟨h.queued, h.park⟩, fun _ => ⟨rfl, ⟨_, rfl, rfl, rfl⟩, rfl, ?_⟩,
          fun clear => (by cases clear)⟩
        simp [State.beginArriving, State.withLane, drivesOf, h.free]
      | false =>
        rw [State.fillHead_of_none queued (.inr (head.trans blocked))] at ended
        rw [ended]
        refine ⟨⟨h.queued, h.park⟩, fun clear => (by cases clear), fun _ => ⟨h.face, ?_⟩⟩
        simp [drivesOf, h.free, h.face]

/-- With nothing to fill it from, the face stays EMPTY. -/
theorem State.fill_of_nothing (faceFree : v.FaceFree)
    (parkFree : v.mode ≠ .sweeping ∨ v.isBlocked .park = false)
    (headFree : v.mode ≠ .sweeping ∨ v.isBlocked .head = false)
    (queue : v.lane.queue = []) (next : v.lane.preempted = true ∨ v.lane.parkRec = none) :
    v.fill = v := by
  by_cases busy : v.lane.face ≠ .empty ∨ v.lane.jam ≠ none
  · exact State.fill_of_busy busy
  · obtain ⟨face, free⟩ : v.lane.face = .empty ∧ v.lane.jam = none := by simpa using busy
    rw [State.fill_of_head face free faceFree (next.imp_right fun park => ⟨park, parkFree⟩),
      State.fillHead_of_none queue headFree]

end

/-! ### The sensors, the gap and the jam in the lane's own events -/

/-- What the lane's own work leaves alone: the sensor records, the gap and the jam. -/
structure InputsKept (s t : State) : Prop where
  sensors : t.lane.sensors = s.lane.sensors
  gap : t.lane.gap = s.lane.gap
  jam : t.lane.jam = s.lane.jam

theorem InputsKept.refl (s : State) : InputsKept s s := ⟨rfl, rfl, rfl⟩

theorem InputsKept.after {s t u : State} (k : InputsKept t u) (h : InputsKept s t) :
    InputsKept s u := ⟨k.sensors.trans h.sensors, k.gap.trans h.gap, k.jam.trans h.jam⟩

theorem SameExcept.inputsKept {bs : List Block} {s t : State} (h : SameExcept bs s t)
    (lane : Block.lane ∉ bs) : InputsKept s t := by
  have same := h.lane_eq lane
  exact ⟨congrArg Lane.sensors same, congrArg Lane.gap same, congrArg Lane.jam same⟩

theorem InputsKept.isBlocked {s t : State} (h : InputsKept s t) (x : Sensor) :
    t.isBlocked x = s.isBlocked x := by
  rw [State.isBlocked, State.isBlocked, h.sensors]

theorem State.parkFace_inputs (s : State) : InputsKept s s.parkFace := by
  unfold State.parkFace
  split
  · exact .refl _
  · dsimp only
    split <;> exact ⟨rfl, rfl, rfl⟩

theorem State.preemptCheck_inputs (s : State) : InputsKept s s.preemptCheck := by
  unfold State.preemptCheck
  split
  · split
    · exact s.parkFace_inputs
    · split
      · exact .refl _
      · exact ((State.raise_frame _ _ _).inputsKept (by simp)).after ⟨rfl, rfl, rfl⟩
    · exact .refl _
  · exact .refl _

theorem State.headTurnedUrgent_inputs (s : State) : InputsKept s s.headTurnedUrgent := by
  unfold State.headTurnedUrgent
  split
  · exact s.preemptCheck_inputs
  · exact .refl _

theorem State.reurgent_inputs (s : State) (p : ToteNo → Bool) : InputsKept s (s.reurgent p) := by
  unfold State.reurgent
  dsimp only
  split
  · exact (State.headTurnedUrgent_inputs _).after ⟨rfl, rfl, rfl⟩
  · exact ⟨rfl, rfl, rfl⟩

theorem State.tryLeave_inputs (s : State) : InputsKept s s.tryLeave := by
  unfold State.tryLeave
  split <;> exact ⟨rfl, rfl, rfl⟩

theorem State.beginRelease_inputs (s : State) : InputsKept s s.beginRelease :=
  (State.tryLeave_inputs _).after ⟨rfl, rfl, rfl⟩

theorem State.requestLine_inputs (s : State) : InputsKept s s.requestLine := by
  unfold State.requestLine
  split
  · exact .refl _
  · split
    · exact s.beginRelease_inputs
    · exact (State.reurgent_inputs _ _).after
        (((State.deriveWant_frame _ _).inputsKept (by simp)).after ⟨rfl, rfl, rfl⟩)

theorem State.fillHead_inputs (s : State) : InputsKept s s.fillHead := by
  unfold State.fillHead
  split
  · split <;> exact ⟨rfl, rfl, rfl⟩
  · split <;> exact ⟨rfl, rfl, rfl⟩

theorem State.fill_inputs (s : State) : InputsKept s s.fill := by
  unfold State.fill
  split
  · exact .refl _
  · split
    · exact (State.beginRelease_inputs _).after ⟨rfl, rfl, rfl⟩
    · split
      · exact s.fillHead_inputs
      · split
        · exact ⟨rfl, rfl, rfl⟩
        · split
          · exact ⟨rfl, rfl, rfl⟩
          · exact s.fillHead_inputs

theorem State.sweepTest_inputs (s : State) : InputsKept s s.sweepTest :=
  s.sweepTest_frame.inputsKept (by simp)

theorem State.drainTest_inputs (s : State) : InputsKept s s.drainTest :=
  s.drainTest_frame.inputsKept (by simp)

theorem State.arrive_inputs (s : State) (q : LaneRec) : InputsKept s (s.arrive q) := by
  unfold State.arrive
  dsimp only
  split
  · exact (State.beginRelease_inputs _).after ⟨rfl, rfl, rfl⟩
  · split
    · split
      · exact (State.preemptCheck_inputs _).after ⟨rfl, rfl, rfl⟩
      · exact (State.requestLine_inputs _).after ((State.preemptCheck_inputs _).after ⟨rfl, rfl, rfl⟩)
    · exact (State.requestLine_inputs _).after ⟨rfl, rfl, rfl⟩

theorem State.parked_inputs (s : State) : InputsKept s s.parked :=
  (State.fill_inputs _).after ⟨rfl, rfl, rfl⟩

theorem State.mergeOut_inputs (s : State) (q : LaneRec) : InputsKept s (s.mergeOut q) := by
  unfold State.mergeOut
  split
  · exact .refl _
  · exact ((State.place_frame _ _).inputsKept (by simp)).after
      ((State.request_frame _ _ _).inputsKept (by simp))

theorem State.leaves_inputs (s : State) (q : LaneRec) : InputsKept s (s.leaves q) :=
  (State.sweepTest_inputs _).after ((State.drainTest_inputs _).after ((State.fill_inputs _).after
    ((State.mergeOut_inputs _ _).after ⟨rfl, rfl, rfl⟩)))

/-! ### A change of a sensor's level (R110, R125) -/

theorem State.sensorLevel_isBlocked (s : State) (x y : Sensor) (b : Bool) :
    (s.sensorLevel x b).isBlocked y = if x = y then b else s.isBlocked y := by
  show (sensorOf (setLevel s.lane.sensors x b) y).blocked = _
  rw [sensorOf_setLevel]
  split <;> rfl

/-- At the end of an event that left the inputs alone every sensor has its level, and one that is clear no
time. -/
theorem InputsKept.settled {s t : State} (h : InputsKept s t) (x : Sensor) :
    t.settleLane.isBlocked x = s.isBlocked x ∧
      (s.isBlocked x = false → (sensorOf t.settleLane.lane.sensors x).time = none) := by
  refine ⟨(State.settleLane_isBlocked t x).trans (h.isBlocked x), fun clear => ?_⟩
  have clear : (sensorOf t.lane.sensors x).blocked = false := (h.isBlocked x).trans clear
  rw [State.settleLane_lane_eq]
  show (sensorOf t.timedSensors x).time = none
  rw [sensorOf_timedSensors, State.timedSensor, clear]
  rfl

/-- The event of a sensor's change, outside UNCONFIGURED. -/
theorem State.sensorLevel_fieldEvent {s : State} (configured : s.mode ≠ .unconfigured) (x : Sensor)
    (b : Bool) (effect : State → State) :
    (s.sensorLevel x b).fieldEvent effect = (effect (s.sensorLevel x b)).settleLane :=
  State.fieldEvent_configured (s := s.sensorLevel x b) configured effect

theorem State.fieldEvent_next {s : State} (configured : s.mode ≠ .unconfigured) (x : Sensor)
    (b : Bool) (effect : State → State) :
    (.next ((s.sensorLevel x b).fieldEvent effect) : Host.Outcome State Fault Refusal) =
      .next (effect (s.sensorLevel x b)).settleLane :=
  congrArg Host.Outcome.next (State.sensorLevel_fieldEvent configured x b effect)

/-- The lane as HEAD_BLOCKED finds it: the sensor's level, and no head wait (R124). -/
def State.headSeen (s : State) : State :=
  (s.sensorLevel .head true).withLane
    { (s.sensorLevel .head true).lane with waits := { s.lane.waits with head := none } }

/-- The lane once the park is made (R117). -/
def State.parkSeen (s : State) : State :=
  (s.sensorLevel .park true).withLane
    { (s.sensorLevel .park true).lane with
      face := .empty, preempted := true, waits := { s.lane.waits with park := none } }

theorem exec_headBlocked {s : State} (configured : s.mode ≠ .unconfigured) :
    exec .headBlocked s = .next s.headSeen.fill.settleLane :=
  congrArg Host.Outcome.next (State.sensorLevel_fieldEvent configured .head true _)

theorem exec_parkArrived {s : State} (configured : s.mode ≠ .unconfigured)
    (parking : s.lane.face = .parking) :
    exec .parkArrived s = .next s.parkSeen.fill.settleLane :=
  congrArg Host.Outcome.next ((State.sensorLevel_fieldEvent configured .park true _).trans
    (congrArg State.settleLane (if_pos parking)))

theorem State.headSeen_isBlocked (s : State) (y : Sensor) :
    s.headSeen.isBlocked y = if .head = y then true else s.isBlocked y :=
  s.sensorLevel_isBlocked .head y true

theorem State.parkSeen_isBlocked (s : State) (y : Sensor) :
    s.parkSeen.isBlocked y = if .park = y then true else s.isBlocked y :=
  s.sensorLevel_isBlocked .park y true

/-- What the end of the event gives where the fill takes the queue head to the face (R111, R112). -/
theorem State.settled_fillHead {v : State} {q : LaneRec} {rest : List LaneRec}
    (free : v.lane.jam = none) (queue : v.lane.queue = q :: rest)
    (blocked : v.isBlocked .head = true) :
    ∃ sensors, v.fillHead.settleLane.lane = { v.lane with
      queue := rest, face := .arriving, faceRec := some { q with source := .queue },
      preempted := false, waits := { v.lane.waits with head := none, arrival := some 0 },
      drives := { advance := true, transfer := .off, exit := false }, sensors := sensors } := by
  refine ⟨v.fillHead.timedSensors, ?_⟩
  rw [State.settleLane_lane_eq, State.fillHead_of_blocked queue blocked]
  simp [State.beginArriving, State.withLane, drivesOf, free]

/-- What the end of the event gives where the EMPTY face waits for the head sensor (R112, R124). -/
theorem State.settled_waiting {v : State} (face : v.lane.face = .empty) (queue : v.lane.queue ≠ [])
    (clear : v.isBlocked .head = false) :
    ∃ sensors, v.fillHead.settleLane.lane = { v.lane with
      waits := { v.lane.waits with head := some (v.lane.waits.head.getD 0) }, drives := .off,
      sensors := sensors } := by
  refine ⟨v.fillHead.timedSensors, ?_⟩
  rw [State.settleLane_lane_eq, State.fillHead_of_clear queue clear]
  cases jam : v.lane.jam <;> simp [State.withLane, drivesOf, face, jam]

/-- Settles O49, by the face and what there is to fill it from. -/
theorem faceIsFilled : Obligations.FaceIsFilled := by
  unfold Obligations.FaceIsFilled
  intro s mode free
  have configured : s.mode ≠ .unconfigured := by rcases mode with h | h <;> rw [h] <;> decide
  have calm : s.mode ≠ .sweeping := by rcases mode with h | h <;> rw [h] <;> decide
  have head := exec_headBlocked configured
  refine ⟨fun q rest face queue next => ?_, fun q face park np => ?_,
    fun q rest parking queue blocked => ?_, fun parking queue clear => ?_,
    fun parking queue => ?_, fun q rest face queue => ?_⟩
  · rw [State.fill_of_head (v := s.headSeen) face free (.inl calm)
      (next.imp_right fun park => ⟨park, .inl calm⟩)] at head
    obtain ⟨sensors, lane⟩ := State.settled_fillHead (v := s.headSeen) free queue
      (s.headSeen_isBlocked .head)
    have frame := exec_next_frame head
    refine ⟨_, head, frame, ?_⟩
    have kept := State.fillHead_frame s.headSeen
    have settled := congrArg Lane.queue lane
    rw [State.settleLane_queue] at settled
    rw [lane, State.settleLane_modeCtl, State.ableNow_iff]
    refine ⟨rfl, rfl, rfl, rfl, rfl, rfl, rfl, rfl, ?_⟩
    have jam := (State.fillHead_inputs s.headSeen).jam.trans free
    rw [settled, State.mode, kept.modeCtl_eq (by simp), kept.divert_eq (by simp), State.conf,
      kept.cfg_eq (by simp), decide_eq_decide]
    exact and_congr_right fun _ => and_iff_right jam
  · rw [State.fill_of_parked (v := s.headSeen) face free (.inl calm) np park] at head
    have frame := exec_next_frame head
    refine ⟨_, head, frame, ?_⟩
    rw [State.settleLane_lane_eq]
    refine ⟨rfl, rfl, rfl, rfl, rfl, ?_⟩
    simp [State.beginArriving, State.withLane, State.headSeen, State.sensorLevel, drivesOf, free]
  · have run := exec_parkArrived configured parking
    rw [State.fill_of_head (v := s.parkSeen) rfl free (.inl calm) (.inl rfl)] at run
    obtain ⟨sensors, lane⟩ := State.settled_fillHead (v := s.parkSeen) free queue
      ((s.parkSeen_isBlocked .head).trans blocked)
    refine ⟨_, run, exec_next_frame run, ?_⟩
    rw [lane]
    exact ⟨rfl, rfl, rfl, rfl, rfl, rfl⟩
  · have run := exec_parkArrived configured parking
    rw [State.fill_of_head (v := s.parkSeen) rfl free (.inl calm) (.inl rfl)] at run
    obtain ⟨sensors, lane⟩ := State.settled_waiting (v := s.parkSeen) rfl queue
      ((s.parkSeen_isBlocked .head).trans clear)
    refine ⟨_, s.lane.waits.head.getD 0, run, exec_next_frame run, ?_⟩
    rw [lane]
    exact ⟨rfl, rfl, rfl, rfl, rfl, rfl, rfl⟩
  · have run := exec_parkArrived configured parking
    rw [State.fill_of_head (v := s.parkSeen) rfl free (.inl calm) (.inl rfl),
      State.fillHead_of_none (v := s.parkSeen) queue (.inl calm)] at run
    refine ⟨_, run, exec_next_frame run, ?_⟩
    rw [State.settleLane_lane_eq]
    refine ⟨rfl, rfl, rfl, rfl, ?_⟩
    show drivesOf s.parkSeen.lane = _
    have jam : s.parkSeen.lane.jam = none := free
    have face : s.parkSeen.lane.face = .empty := rfl
    rw [drivesOf, jam, face]
    rfl
  · rw [State.fill_of_busy (v := s.headSeen) (.inl face)] at head
    refine ⟨_, head, exec_next_frame head, ?_⟩
    rw [State.settleLane_isBlocked, State.settleLane_lane_eq]
    exact ⟨rfl, rfl, rfl, rfl, s.headSeen_isBlocked .head⟩

/-! ### The end of a sweep (R123, R152) -/

theorem State.laneClear_iff {v : State} :
    v.laneClear = true ↔ v.laneEmpty = true ∧ AllClear v ∧ v.lane.jam = none := by
  simp [State.laneClear, AllClear, mem_allSensors, and_assoc]

theorem State.sweepTest_of_clear {v : State} (sweeping : v.mode = .sweeping)
    (clear : v.laneClear = true) : v.sweepTest = v.enterMode v.modeCtl.sweepReturn.toMode :=
  if_pos (by simp [sweeping, clear])

theorem State.sweepTest_of_not {v : State} (h : v.mode ≠ .sweeping ∨ v.laneClear = false) :
    v.sweepTest = v := by
  refine if_neg ?_
  rcases h with h | h <;> simp [h]

theorem SweepReturn.toMode_eq (r : SweepReturn) :
    r.toMode = match r with | .active => .active | .rest => .rest := by
  cases r <;> rfl

theorem State.enterMode_raisesOnly (s : State) (m : BenchMode) :
    RaisesOnly [.modeChanged, .frameAbandoned] s (s.enterMode m) := by
  have entered : RaisesOnly [.modeChanged, .frameAbandoned] s (s.modeEntered m) := fun n => by
    rw [SourceKept, State.modeEntered_notices]
    exact ((s.raise_raisesOnly .modeChanged _).mono (by simp)) n
  rw [State.enterMode_eq]
  split
  · exact entered
  · exact entered.trans ((State.requestState_raisesOnly _).mono (by simp))

/-- A change of mode leaves MODE_CHANGED pending (R148). -/
theorem State.enterMode_pending (s : State) (m : BenchMode) :
    (s.enterMode m).notices.sources[NoticeSource.modeChanged.index].pending = true := by
  have entered : (s.modeEntered m).notices.sources[NoticeSource.modeChanged.index].pending = true := by
    rw [State.modeEntered_notices]
    exact s.raise_pending _ _
  rw [State.enterMode_eq]
  split
  · exact entered
  · exact (State.requestState_raisesOnly _ _).2 entered

/-! ### The lane sensors (R110, R125, R128) -/

/-- A sensor other than the entry that becomes blocked: in SWEEPING with an EMPTY face, a fill. -/
theorem exec_sensorBlocked {s : State} (configured : s.mode ≠ .unconfigured) {x : Sensor}
    (hx : x ≠ .entry) :
    ∃ w, exec (.sensorBlocked x) s = .next w.settleLane ∧ InputsKept (s.sensorLevel x true) w ∧
      (s.mode = .sweeping → s.lane.face = .empty → ∃ v : State, w = v.fill ∧
        InputsKept (s.sensorLevel x true) v ∧ v.mode = .sweeping ∧ v.lane.face = .empty ∧
        v.lane.queue = s.lane.queue ∧ v.lane.parkRec = s.lane.parkRec ∧
        v.lane.preempted = s.lane.preempted ∧
        (x ≠ .head → v.lane.waits.head = s.lane.waits.head)) := by
  have event := State.fieldEvent_next configured x true
  cases x with
  | entry => exact absurd rfl hx
  | head =>
    exact ⟨_, event _, (State.fill_inputs _).after ⟨rfl, rfl, rfl⟩, fun sweeping face =>
      ⟨s.headSeen, rfl, ⟨rfl, rfl, rfl⟩, sweeping, face, rfl, rfl, rfl, fun h => absurd rfl h⟩⟩
  | face =>
    refine ⟨_, event _, ?_, fun sweeping face => ⟨s.sensorLevel .face true, ?_, .refl _, sweeping,
      face, rfl, rfl, rfl, fun _ => rfl⟩⟩
    · split
      · exact State.arrive_inputs _ _
      · split
        · exact State.fill_inputs _
        · exact .refl _
    · have empty : (s.sensorLevel .face true).lane.face = .empty := face
      rw [empty]
      exact if_pos sweeping
  | park =>
    refine ⟨_, event _, ?_, fun sweeping face => ⟨s.sensorLevel .park true, ?_, .refl _, sweeping,
      face, rfl, rfl, rfl, fun _ => rfl⟩⟩
    · split
      · exact State.parked_inputs _
      · split
        · exact State.fill_inputs _
        · exact .refl _
    · have empty : (s.sensorLevel .park true).lane.face ≠ .parking := fun h => by
        cases face.symm.trans h
      exact (if_neg empty).trans (if_pos sweeping)
  | exit =>
    refine ⟨_, event _, ?_, fun sweeping face => ⟨s.sensorLevel .exit true, if_pos sweeping, .refl _,
      sweeping, face, rfl, rfl, rfl, fun _ => rfl⟩⟩
    split
    · exact State.fill_inputs _
    · exact .refl _

/-- A sensor that becomes clear: with the lane empty, the lane-clear test. -/
theorem exec_sensorClear {s : State} (configured : s.mode ≠ .unconfigured) (x : Sensor) :
    ∃ w, exec (.sensorClear x) s = .next w.settleLane ∧ InputsKept (s.sensorLevel x false) w ∧
      (s.lane.face = .empty → w = (s.sensorLevel x false).sweepTest) := by
  have event := State.fieldEvent_next configured x false
  cases x with
  | exit =>
    refine ⟨_, event _, ?_, fun face => ?_⟩
    · split
      · exact State.leaves_inputs _ _
      · exact State.sweepTest_inputs _
    · have empty : (s.sensorLevel .exit false).lane.face = .empty := face
      rw [empty]
  | _ => exact ⟨_, event _, State.sweepTest_inputs _, fun _ => rfl⟩

/-- Settles O53: the level is held, and in SWEEPING the fill or the lane-clear test follows. -/
theorem sensorsAndSweep : Obligations.SensorsAndSweep := by
  unfold Obligations.SensorsAndSweep
  refine fun s configured => ⟨fun x hx => ?_, fun x => ?_⟩
  · obtain ⟨w, run, inputs, swept⟩ := exec_sensorBlocked configured hx
    have level (y : Sensor) : w.settleLane.isBlocked y = if x = y then true else s.isBlocked y :=
      (inputs.settled y).1.trans (s.sensorLevel_isBlocked x y true)
    refine ⟨_, run, exec_next_frame run, (level x).trans (if_pos rfl), fun y hy =>
      (level y).trans (if_neg hy.symm), fun sweeping face free np => ?_⟩
    obtain ⟨v, rfl, kept, mode, empty, queue, park, preempted, wait⟩ := swept sweeping face
    refine ⟨?_, FillsAs.sweepFilled (v := v) ⟨empty, kept.jam.trans free, queue, park, preempted,
      kept.gap, fun y _ => ?_, fun clear => ?_⟩ mode np v.fill.settleLane_endedAs⟩
    · rw [State.settleLane_mode, v.fill_frame.mode_eq (by simp)]
      exact mode
    · exact (kept.isBlocked y).trans
        ((s.sensorLevel_isBlocked x y true).trans (level y).symm)
    · refine wait fun head => ?_
      subst head
      exact absurd ((level .head).symm.trans clear) (by simp)
  · obtain ⟨w, run, inputs, cleared⟩ := exec_sensorClear configured x
    have level (y : Sensor) : w.settleLane.isBlocked y = if x = y then false else s.isBlocked y :=
      (inputs.settled y).1.trans (s.sensorLevel_isBlocked x y false)
    have off : (s.sensorLevel x false).isBlocked x = false :=
      (s.sensorLevel_isBlocked x x false).trans (if_pos rfl)
    refine ⟨_, run, exec_next_frame run, (level x).trans (if_pos rfl), fun y hy =>
      (level y).trans (if_neg hy.symm), (inputs.settled x).2 off, fun sweeping empty free clear => ?_⟩
    have face : s.lane.face = .empty := (s.laneEmpty_iff.mp empty).2.2.2
    have all : (s.sensorLevel x false).laneClear = true := by
      refine State.laneClear_iff.mpr ⟨empty, fun y => ?_, free⟩
      rw [State.sensorLevel_isBlocked]
      split
      · rfl
      · rename_i differs
        exact clear y (Ne.symm differs)
    have entered := (cleared face).trans (State.sweepTest_of_clear (by exact sweeping) all)
    rw [entered]
    refine ⟨?_, (State.settleLane_raisesOnly _ _).2 (State.enterMode_pending _ _)⟩
    exact (State.settleLane_mode _).trans
      ((State.enterMode_mode _ _).trans (SweepReturn.toMode_eq _))

/-! ### CLEAR_JAM (R127) -/

/-- The lane with its jam ended and its times restarted, before the fill (R127). -/
def State.unjammed (s : State) : State :=
  s.withLane { s.lane with
    jam := none, waits := restartWaits s.lane.waits, sensors := restartSensors s.lane.sensors }

theorem State.endJam_eq (s : State) : s.endJam = s.unjammed.fill.tryLeave.sweepTest.settleLane := rfl

theorem sensorOf_restartSensors (ss : Sensors) (x : Sensor) :
    sensorOf (restartSensors ss) x = restartSensor (sensorOf ss x) := by
  cases x <;> rfl

theorem State.unjammed_isBlocked (s : State) (x : Sensor) :
    s.unjammed.isBlocked x = s.isBlocked x := by
  show (sensorOf (restartSensors s.lane.sensors) x).blocked = _
  rw [sensorOf_restartSensors]
  rfl

theorem restartWait_getD (w : Option Nat) : (restartWait w).getD 0 = 0 := by
  cases w <;> rfl

theorem waitOf_restartWaits (w : Waits) (x : Wait) :
    waitOf (restartWaits w) x = (waitOf w x).map fun _ => 0 := by
  cases x <;> rfl

theorem exec_clearJam {s : State} (configured : s.mode ≠ .unconfigured) :
    exec .clearJam s = .next ((if s.lane.jam.isSome then s.endJam else s).reply 11 .accepted) :=
  congrArg _ (State.whenConfigured_configured configured 11 _)

theorem State.unjammed_inputs (s : State) :
    InputsKept s.unjammed s.unjammed.fill.tryLeave.sweepTest :=
  (State.sweepTest_inputs _).after ((State.tryLeave_inputs _).after (State.fill_inputs _))

theorem State.endJam_lane (s : State) : EndedAs s.unjammed.fill.tryLeave s.endJam :=
  EndedAs.of_lane (State.settleLane_endedAs _)
    ((State.sweepTest_frame _).lane_eq (by simp))

/-- A restarted time is 0 where it runs (R127). -/
theorem State.endJam_time (s : State) (x : Sensor) :
    (sensorOf s.endJam.lane.sensors x).time = none ∨
      (sensorOf s.endJam.lane.sensors x).time = some 0 := by
  rw [State.endJam_eq, State.settleLane_lane_eq]
  show (sensorOf (State.timedSensors _) x).time = _ ∨ (sensorOf (State.timedSensors _) x).time = _
  rw [sensorOf_timedSensors]
  unfold State.timedSensor
  dsimp only
  rw [s.unjammed_inputs.sensors]
  show (if _ then some ((sensorOf (restartSensors s.lane.sensors) x).time.getD 0) else none) = _ ∨
    (if _ then some ((sensorOf (restartSensors s.lane.sensors) x).time.getD 0) else none) = _
  rw [sensorOf_restartSensors]
  split
  · exact .inr (congrArg some (restartWait_getD _))
  · exact .inl rfl

/-- Before any fill the lane holds what it holds. -/
theorem FillsAs.self {v : State} (face : v.lane.face = .empty) (free : v.lane.jam = none) :
    FillsAs v.lane.queue v v :=
  ⟨face, free, rfl, rfl, rfl, rfl, fun _ _ => rfl, fun _ => rfl⟩

/-- Settles O28, by the face. -/
theorem clearJam : Obligations.ClearJam := by
  unfold Obligations.ClearJam
  refine fun s configured => ⟨fun free => ?_, fun jammed => ?_⟩
  · rw [exec_clearJam configured, free, State.reply_eq_answered]
    rfl
  have run := exec_clearJam configured
  rw [if_pos (Option.isSome_iff_ne_none.mpr jammed)] at run
  have link : (s.endJam.reply 11 .accepted).link = { s.link with reply := [11, 0, 245] } :=
    s.endJam_frame.replied (by decide) 11 .accepted
  have ended := s.endJam_lane
  have still (h : s.lane.face ≠ .empty) : s.unjammed.fill = s.unjammed :=
    State.fill_of_busy (.inl h)
  refine ⟨_, run, exec_next_frame run, link, ?_, ?_, fun x => ⟨?_, s.endJam_time x⟩,
    fun empty releasing => ?_, fun releasing gap => ?_, fun releasing gap => ?_,
    fun empty mode => ?_, fun sweeping laneEmpty np clear => ?_⟩
  all_goals
    dsimp only [State.reply]
  · exact (State.settleLane_jam _).trans s.unjammed_inputs.jam
  · rw [ended]
    rfl
  · exact (s.unjammed_inputs.settled x).1.trans (s.unjammed_isBlocked x)
  · rw [still empty, State.tryLeave_of_not (s := s.unjammed) (.inr (.inl releasing))] at ended
    rw [ended]
    exact ⟨rfl, rfl, waitOf_restartWaits _⟩
  · rw [still (by simp [releasing]), State.tryLeave_of_gap (s := s.unjammed) releasing gap rfl]
      at ended
    rw [ended]
    exact ⟨rfl, rfl⟩
  · rw [still (by simp [releasing]), State.tryLeave_of_not (s := s.unjammed) (.inl gap)] at ended
    rw [ended]
    exact releasing
  · have calm : s.unjammed.mode ≠ .sweeping := by
      rcases mode with h | h <;> exact fun k => by cases h.symm.trans k
    have fills := FillsAs.self (v := s.unjammed) empty rfl
    have stays : EndedAs s.unjammed.fill s.endJam := by
      have kept := State.fill_not_releasing (v := s.unjammed) calm empty
      rw [State.tryLeave_of_not (.inr (.inl kept))] at ended
      exact ended
    have filled : Filled s.lane.queue s.unjammed s.endJam :=
      fills.filled (.inl calm) (.inl calm) stays
    refine ⟨fun q park np => ?_, fun q rest queue next => ?_, fun queue park => ?_⟩
    · obtain ⟨face, record, parkRec, kept, arrival, -⟩ := filled.1 q park np
      exact ⟨face, parkRec, kept, by rw [record]; rfl, arrival⟩
    · obtain ⟨parkRec, atHead, waits⟩ := filled.2 q rest queue next
      refine ⟨fun blocked => ?_, fun clear => ?_⟩
      · obtain ⟨face, record, kept, arrival, wait, -⟩ :=
          atHead ((s.unjammed_isBlocked .head).trans blocked)
        exact ⟨face, parkRec, kept, by rw [record]; rfl, arrival, wait⟩
      · obtain ⟨face, kept, wait, -⟩ := waits ((s.unjammed_isBlocked .head).trans clear)
        exact ⟨face, parkRec, kept, wait.trans (congrArg some (restartWait_getD _))⟩
    · rw [State.fill_of_nothing (v := s.unjammed) (.inl calm) (.inl calm) (.inl calm) queue
        (.inr park)] at stays
      rw [stays]
      exact ⟨empty, queue, park⟩
  · obtain ⟨records, queue, park, face⟩ := s.laneEmpty_iff.mp laneEmpty
    have clear (x : Sensor) : s.unjammed.isBlocked x = false :=
      (s.unjammed_isBlocked x).trans (clear x)
    have none : s.unjammed.fill.tryLeave = s.unjammed := by
      rw [State.fill_of_nothing (v := s.unjammed) (.inr ⟨clear _, clear _⟩) (.inr (clear _))
        (.inr (clear _)) queue (.inr park)]
      exact State.tryLeave_of_not (.inr (.inl fun h => by
        cases (show s.lane.face = .releasing from h).symm.trans face))
    have test : s.unjammed.sweepTest = s.unjammed.enterMode s.modeCtl.sweepReturn.toMode :=
      State.sweepTest_of_clear (v := s.unjammed) sweeping
        (State.laneClear_iff.mpr ⟨laneEmpty, clear, rfl⟩)
    rw [none] at ended
    refine ⟨by rw [ended]; exact face, ?_⟩
    show s.endJam.mode = _
    rw [State.endJam_eq, none, test]
    exact (State.settleLane_mode _).trans
      ((State.enterMode_mode _ _).trans (SweepReturn.toMode_eq _))

end Sys2Proof.Machine
end

section
/-! PROOFS. The sweeps that begin with a stray entry (O48), with CONFIGURE (O11) and with RESTART (O12). -/

namespace Sys2Proof.Machine

/-! ### A sweep's fill at the end of an event -/

section
variable {v : State} (sweeping : v.mode = .sweeping)
include sweeping

theorem State.ableNow_of_sweeping : v.ableNow = false := by
  rw [State.ableNow_iff, sweeping]
  simp

theorem State.sweptFill_mode : v.fill.mode = .sweeping :=
  (v.fill_frame.mode_eq (by simp)).trans sweeping

/-- Where able is already off, the end of a sweep's fill touches the lane alone. -/
theorem State.sweptFill_frame (able : v.modeCtl.able = false) :
    SameExcept [.lane] v v.fill.settleLane :=
  v.fill_frame.step (State.settleLane_frame_of_able (by
    rw [State.ableNow_of_sweeping (State.sweptFill_mode sweeping),
      v.fill_frame.modeCtl_eq (by simp), able])) (by simp) (by simp)

end

/-! ### The beginning of a sweep (R63, R148, R152) -/

/-- SWEEPING entered with this sweep return, before its fill. -/
def State.sweepBegun (v : State) (ret : SweepReturn) : State :=
  (v.withModeCtl { v.modeCtl with sweepReturn := ret }).enterMode .sweeping

/-- The STATE that a change of mode requests (R148). -/
def State.stateFrame (v : State) (able : Bool) : Frame :=
  { sender := v.bus.ownStation.getD 0, tote := 0, body := .state (boolCode able) }

/-- The bus after a change into a mode that keeps the transmitter ON (R63, R148). -/
theorem State.enterMode_bus {v : State} {m : BenchMode} (rest : m ≠ .rest) (off : m ≠ .unconfigured) :
    (v.enterMode m).bus =
      { v.bus with
        tx := .on
        queue := (enqueue v.bus.queue (v.stateFrame (v.enterMode m).modeCtl.able)).1 } := by
  have bus : (v.modeEntered m).bus = { v.bus with tx := .on } := by
    rw [State.modeEntered_bus]
    cases m with
    | rest => exact absurd rfl rest
    | unconfigured => exact absurd rfl off
    | _ => rfl
  have queued := State.request_queue (s := v.modeEntered m) (by rw [bus]) 0
    (.state (boolCode (v.modeEntered m).modeCtl.able))
  rw [v.enterMode_modeCtl, ← v.modeEntered_modeCtl, State.enterMode_eq, if_neg rest]
  refine queued.trans ?_
  rw [bus]
  rfl

section
variable (v : State) (ret : SweepReturn)

theorem State.sweepBegun_frame : SameExcept [.modeCtl, .bus, .notices] v (v.sweepBegun ret) :=
  (State.withModeCtl_frame _ _).step (State.enterMode_frame _ _) (by simp) (by simp)

theorem State.sweepBegun_modeCtl :
    (v.sweepBegun ret).modeCtl = { mode := .sweeping, sweepReturn := ret, able := false } :=
  State.enterMode_modeCtl _ _

theorem State.sweepBegun_mode : (v.sweepBegun ret).mode = .sweeping :=
  congrArg ModeCtl.mode (v.sweepBegun_modeCtl ret)

theorem State.sweepBegun_bus :
    (v.sweepBegun ret).bus =
      { v.bus with tx := .on, queue := (enqueue v.bus.queue (v.stateFrame false)).1 } := by
  have bus := State.enterMode_bus (v := v.withModeCtl { v.modeCtl with sweepReturn := ret })
    (m := .sweeping) (by decide) (by decide)
  rw [State.enterMode_modeCtl] at bus
  exact bus

variable {v ret}

theorem State.sweepBegun_notices (room : v.bus.queue.length < 16) :
    (v.sweepBegun ret).notices = (v.raise .modeChanged 1).notices :=
  State.enterMode_notices (s := v.withModeCtl { v.modeCtl with sweepReturn := ret })
    (m := .sweeping) (by decide) room

theorem State.sweepBegun_state (room : v.bus.queue.length < 16) :
    v.stateFrame false ∈ (v.sweepBegun ret).bus.queue := by
  have queued := State.enterMode_state
    (s := v.withModeCtl { v.modeCtl with sweepReturn := ret }) (m := .sweeping) (by decide)
    (by decide) room
  rw [State.enterMode_modeCtl] at queued
  exact queued

/-- A blocked sensor keeps the sweep from ending at once. -/
theorem State.enterSweeping_of_blocked (blocked : ¬ AllClear v) :
    v.enterSweeping ret = (v.sweepBegun ret).fill := by
  refine State.sweepTest_of_not (.inr (Bool.eq_false_iff.mpr fun h => blocked fun x => ?_))
  have kept := (State.fill_inputs _).after ((v.sweepBegun_frame ret).inputsKept (by simp))
  exact (kept.isBlocked x).symm.trans ((State.laneClear_iff.mp h).2.1 x)

/-- An empty lane with every sensor clear ends the sweep at once (R152). -/
theorem State.enterSweeping_of_clear (empty : v.laneEmpty = true) (free : v.lane.jam = none)
    (clear : AllClear v) :
    v.enterSweeping ret = (v.sweepBegun ret).enterMode ret.toMode := by
  have frame := v.sweepBegun_frame ret
  have lane : (v.sweepBegun ret).lane = v.lane := frame.lane_eq (by simp)
  obtain ⟨records, queue, park, face⟩ := v.laneEmpty_iff.mp empty
  have clear (x : Sensor) : (v.sweepBegun ret).isBlocked x = false :=
    ((frame.inputsKept (by simp)).isBlocked x).trans (clear x)
  have emptyB : (v.sweepBegun ret).laneEmpty = true := by
    rw [State.laneEmpty_iff, lane, frame.divert_eq (by simp)]
    exact ⟨records, queue, park, face⟩
  have fill : (v.sweepBegun ret).fill = v.sweepBegun ret := by
    refine State.fill_of_nothing (.inr ⟨clear _, clear _⟩) (.inr (clear _)) (.inr (clear _)) ?_ ?_
    · rw [lane, queue]
    · rw [lane, park]
      exact .inr rfl
  have test := State.sweepTest_of_clear (v := v.sweepBegun ret) (v.sweepBegun_mode ret)
    (State.laneClear_iff.mpr ⟨emptyB, clear, by rw [lane]; exact free⟩)
  rw [v.sweepBegun_modeCtl ret] at test
  exact (congrArg State.sweepTest fill).trans test

end

/-! ### A stray entry (R105, R153) -/

/-- The stray's record, before the sweep's fill: the entry sensor blocked and the record queued (R105). -/
def State.strayQueued (s : State) : State :=
  (s.sensorLevel .entry true).pushRecord (strayRec s.clock)

theorem exec_entrySeen_stray {s : State} (configured : s.mode ≠ .unconfigured)
    (records : s.divert.records = []) (room : s.queueRecords < s.conf.c) :
    exec .entrySeen s =
      .next (if s.mode = .rest then s.strayQueued.enterSweeping .rest
        else s.strayQueued.fill).settleLane := by
  refine (State.fieldEvent_next configured .entry true _).trans ?_
  have records : (s.sensorLevel .entry true).divert.records = [] := records
  rw [records]
  exact congrArg (fun w => Host.Outcome.next (State.settleLane w)) (if_pos room)

theorem State.strayQueued_inputs (s : State) :
    InputsKept (s.sensorLevel .entry true) s.strayQueued := ⟨rfl, rfl, rfl⟩

/-- What the sweep finds: the stray's record in the queue, and the levels that `t` holds. -/
def State.strayFound (s t : State) : State :=
  { s with lane := { s.lane with queue := [strayRec s.clock], sensors := t.lane.sensors } }

/-- What the sweep's fill makes of a lane with a stray's record alone in its queue. -/
theorem strayEntry_swept {s v : State} (lane : v.lane = s.strayQueued.lane)
    (sweeping : v.mode = .sweeping) (queue : s.lane.queue = []) (park : s.lane.parkRec = none)
    (face : s.lane.face = .empty) (free : s.lane.jam = none) (np : s.lane.preempted = false) :
    let t := v.fill.settleLane
    t.isBlocked .entry = true ∧ SweepFilled (s.strayFound t) t ∧
      ((∀ x, x ≠ .entry → x ≠ .head → s.isBlocked x = false) →
        (s.isBlocked .head = false →
          t.lane.queue = [strayRec s.clock] ∧ t.lane.face = .empty ∧ t.lane.waits.head ≠ none ∧
          t.lane.drives = .off) ∧
        (s.isBlocked .head = true →
          t.lane.queue = [] ∧ t.lane.face = .arriving ∧
          t.lane.faceRec.map LaneRec.tote = some 0 ∧ t.lane.waits.arrival = some 0 ∧
          t.lane.drives = { advance := true, transfer := .off, exit := false })) := by
  intro t
  have inputs : InputsKept (s.sensorLevel .entry true) v := by
    constructor <;> rw [lane] <;> rfl
  have level (y : Sensor) : t.isBlocked y = if .entry = y then true else s.isBlocked y :=
    (((State.fill_inputs v).after inputs).settled y).1.trans
      (s.sensorLevel_isBlocked .entry y true)
  have records : v.lane.queue = [strayRec s.clock] := by
    rw [lane]
    exact congrArg (· ++ [strayRec s.clock]) queue
  have fills : FillsAs (s.strayFound t).lane.queue (s.strayFound t) v :=
    ⟨by rw [lane]; exact face, by rw [lane]; exact free, records, by rw [lane]; rfl,
      by rw [lane]; rfl, by rw [lane]; rfl, fun y _ => (inputs.isBlocked y).trans
        ((s.sensorLevel_isBlocked .entry y true).trans (level y).symm), fun _ => by rw [lane]; rfl⟩
  have swept := fills.sweepFilled sweeping np v.fill.settleLane_endedAs
  refine ⟨(level .entry).trans (if_pos rfl), swept, fun clear => ?_⟩
  have clearT (x : Sensor) (hx : x ≠ .entry) (hy : x ≠ .head) : t.isBlocked x = false :=
    (level x).trans ((if_neg hx.symm).trans (clear x hx hy))
  obtain ⟨-, filled, -⟩ := swept.2 (clearT .face (by decide) (by decide))
    (clearT .exit (by decide) (by decide))
  obtain ⟨-, head⟩ := filled (.inr (clearT .park (by decide) (by decide)))
  obtain ⟨-, blocked, waits⟩ := head (strayRec s.clock) [] rfl (.inr park)
  refine ⟨fun off => ?_, fun on => ?_⟩
  · obtain ⟨faceT, queueT, wait, drives⟩ := waits ((level .head).trans off)
    exact ⟨queueT, faceT, by rw [wait]; simp, drives⟩
  · obtain ⟨faceT, record, queueT, arrival, -, drives⟩ := blocked ((level .head).trans on)
    exact ⟨queueT, faceT, by rw [record]; rfl, arrival, drives⟩

/-- Settles O48: REST enters the sweep and SWEEPING is in it; the fill is the same. -/
theorem strayEntryIsSwept : Obligations.StrayEntryIsSwept := by
  unfold Obligations.StrayEntryIsSwept
  intro s mode records queue park face _ free np few room _ ableLaw
  have configured : s.mode ≠ .unconfigured := by rcases mode with h | h <;> rw [h] <;> decide
  have fits : s.queueRecords < s.conf.c := by simpa [State.queueRecords, records, queue] using few
  have run := exec_entrySeen_stray configured records fits
  rcases mode with rest | sweeping
  · rw [if_pos rest] at run
    let v := s.strayQueued.sweepBegun .rest
    have entered := s.strayQueued.sweepBegun_frame .rest
    have ctl := s.strayQueued.sweepBegun_modeCtl .rest
    have lane : v.lane = s.strayQueued.lane := entered.lane_eq (by simp)
    have modeV : v.mode = .sweeping := s.strayQueued.sweepBegun_mode .rest
    have ableV : v.modeCtl.able = false := congrArg ModeCtl.able ctl
    obtain ⟨entry, swept, clear⟩ := strayEntry_swept lane modeV queue park face free np
    have frame := State.sweptFill_frame modeV ableV
    have blocked : ¬ AllClear s.strayQueued := fun h => by
      cases (h .entry).symm.trans ((s.strayQueued_inputs.isBlocked .entry).trans
        ((s.sensorLevel_isBlocked .entry .entry true).trans (if_pos rfl)))
    rw [State.enterSweeping_of_blocked blocked] at run
    have ctlT : v.fill.settleLane.modeCtl = v.modeCtl := frame.modeCtl_eq (by simp)
    refine ⟨_, strayRec s.clock, run, exec_next_frame run, rfl, rfl, rfl, rfl,
      (frame.mode_eq (by simp)).trans modeV, (congrArg ModeCtl.able ctlT).trans ableV, entry,
      (frame.demand_eq (by simp)).trans (entered.demand_eq (by simp)),
      (frame.divert_eq (by simp)).trans (entered.divert_eq (by simp)), swept, clear,
      fun _ _ => ⟨(congrArg ModeCtl.sweepReturn ctlT).trans (congrArg ModeCtl.sweepReturn ctl), ?_,
        ?_, ?_⟩, fun h => by cases rest.symm.trans h⟩
    · rw [frame.bus_eq (by simp)]
      exact congrArg Bus.tx (s.strayQueued.sweepBegun_bus .rest)
    · exact RaisedOnce.raised ((frame.notices_eq (by simp)).trans
        (State.sweepBegun_notices (v := s.strayQueued) room))
    · rw [frame.bus_eq (by simp)]
      exact ⟨_, State.sweepBegun_state (v := s.strayQueued) room, rfl, rfl⟩
  · have awake : s.mode ≠ .rest := by rw [sweeping]; decide
    rw [if_neg awake] at run
    have ableS : s.modeCtl.able = false := ableLaw.1.trans (State.ableNow_of_sweeping sweeping)
    obtain ⟨entry, swept, clear⟩ := strayEntry_swept (v := s.strayQueued) rfl sweeping queue park
      face free np
    have frame := State.sweptFill_frame (v := s.strayQueued) sweeping ableS
    refine ⟨_, strayRec s.clock, run, exec_next_frame run, rfl, rfl, rfl, rfl,
      (frame.mode_eq (by simp)).trans sweeping,
      (congrArg ModeCtl.able (frame.modeCtl_eq (by simp))).trans ableS, entry,
      frame.demand_eq (by simp), frame.divert_eq (by simp), swept, clear,
      fun h => absurd h awake, fun _ => ⟨frame.modeCtl_eq (by simp), frame.bus_eq (by simp),
        frame.notices_eq (by simp)⟩⟩

/-! ### A sweep begun with an empty transmit queue (R12, R154) -/

section
variable {v : State}

theorem enqueue_nil (f : Frame) : (enqueue [] f).1 = [f] := rfl

theorem enqueue_state (f g : Frame) (hf : frameKey f = .state) (hg : frameKey g = .state) :
    (enqueue [f] g).1 = [g] := by
  simp [enqueue, hf, hg]

/-- An empty, clear lane: the sweep ends at once in ACTIVE, able, with one STATE queued. -/
theorem State.sweep_ends (queue : v.bus.queue = []) (empty : v.laneEmpty = true)
    (free : v.lane.jam = none) (clear : AllClear v) (roomy : 0 < v.conf.c) :
    let t := (v.enterSweeping .active).settleLane
    t.modeCtl = { mode := .active, sweepReturn := .active, able := true } ∧
      t.bus = { v.bus with tx := .on, queue := [v.stateFrame true] } ∧
      (∃ u : State, u.notices = (v.raise .modeChanged 1).notices ∧
        t.notices = (u.raise .modeChanged 2).notices) ∧
      t.lane.face = v.lane.face ∧ t.lane.faceRec = v.lane.faceRec ∧ t.lane.queue = v.lane.queue ∧
      t.lane.parkRec = v.lane.parkRec := by
  intro t
  have frameB := v.sweepBegun_frame .active
  have entered : v.enterSweeping .active = (v.sweepBegun .active).enterMode .active :=
    State.enterSweeping_of_clear empty free clear
  have settled := State.enterMode_settle_frame (v.sweepBegun .active) .active
  rw [← entered] at settled
  have frame : SameExcept [.modeCtl, .bus, .notices] v (v.enterSweeping .active) := by
    rw [entered]
    exact frameB.step (State.enterMode_frame _ _) (by simp) (by simp)
  have lane : (v.enterSweeping .active).lane = v.lane := frame.lane_eq (by simp)
  obtain ⟨records, queueL, -, -⟩ := v.laneEmpty_iff.mp empty
  have bus : (v.sweepBegun .active).bus = { v.bus with tx := .on, queue := [v.stateFrame false] } := by
    rw [v.sweepBegun_bus, queue]
    rfl
  have able : (v.enterSweeping .active).modeCtl =
      { mode := .active, sweepReturn := .active, able := true } := by
    have fits : (v.sweepBegun .active).queueRecords < (v.sweepBegun .active).conf.c := by
      have none : (v.sweepBegun .active).queueRecords = 0 := by
        rw [State.queueRecords, frameB.divert_eq (by simp), frameB.lane_eq (by simp), records, queueL]
        rfl
      rw [none, State.conf, frameB.cfg_eq (by simp)]
      exact roomy
    rw [entered, State.enterMode_modeCtl, v.sweepBegun_modeCtl, frameB.lane_eq (by simp), free]
    simp [fits]
  refine ⟨(settled.modeCtl_eq (by simp)).trans able, (settled.bus_eq (by simp)).trans ?_,
    ⟨v.sweepBegun .active, State.sweepBegun_notices (by simp [queue]), ?_⟩, ?_, ?_, ?_, ?_⟩
  · have on : ((v.sweepBegun .active).enterMode .active).modeCtl.able = true := by
      rw [← entered, able]
    have same : (v.sweepBegun .active).stateFrame true = v.stateFrame true := by
      rw [State.stateFrame, bus]
      rfl
    rw [entered, State.enterMode_bus (by decide) (by decide), on, same, bus]
    exact congrArg (fun q => { v.bus with tx := .on, queue := q }) (enqueue_state (v.stateFrame false)
      (v.stateFrame true) rfl rfl)
  · refine (settled.notices_eq (by simp)).trans ?_
    rw [entered]
    exact State.enterMode_notices (by decide) (by simp [bus])
  · exact (State.settleLane_face _).trans (congrArg Lane.face lane)
  · exact (State.settleLane_faceRec _).trans (congrArg Lane.faceRec lane)
  · exact (State.settleLane_queue _).trans (congrArg Lane.queue lane)
  · exact (State.settleLane_parkRec _).trans (congrArg Lane.parkRec lane)

/-- A blocked sensor: the sweep goes on, not able, with one STATE queued and its face filled. -/
theorem State.sweep_goes_on (queue : v.bus.queue = []) (face : v.lane.face = .empty)
    (free : v.lane.jam = none) (blocked : ¬ AllClear v) :
    let t := (v.enterSweeping .active).settleLane
    t.modeCtl = { mode := .sweeping, sweepReturn := .active, able := false } ∧
      t.bus = { v.bus with tx := .on, queue := [v.stateFrame false] } ∧
      t.notices = (v.raise .modeChanged 1).notices ∧
      (v.lane.preempted = false → SweepFilled v t) := by
  intro t
  have frameB := v.sweepBegun_frame .active
  have lane : (v.sweepBegun .active).lane = v.lane := frameB.lane_eq (by simp)
  have settled := State.sweptFill_frame (v.sweepBegun_mode .active)
    (congrArg ModeCtl.able (v.sweepBegun_modeCtl .active))
  have entered : v.enterSweeping .active = (v.sweepBegun .active).fill :=
    State.enterSweeping_of_blocked blocked
  rw [← entered] at settled
  refine ⟨(settled.modeCtl_eq (by simp)).trans (v.sweepBegun_modeCtl _),
    (settled.bus_eq (by simp)).trans ?_,
    (settled.notices_eq (by simp)).trans (State.sweepBegun_notices (by simp [queue])), fun np => ?_⟩
  · rw [v.sweepBegun_bus, queue]
    rfl
  · have fills : FillsAs v.lane.queue v (v.sweepBegun .active) :=
      ⟨by rw [lane]; exact face, by rw [lane]; exact free, by rw [lane], by rw [lane], by rw [lane],
        by rw [lane], fun x _ => (frameB.inputsKept (by simp)).isBlocked x, fun _ => by rw [lane]⟩
    refine fills.sweepFilled (v.sweepBegun_mode _) np ?_
    rw [← entered]
    exact State.settleLane_endedAs _

end

/-! ### CONFIGURE (R12) -/

theorem structuralOk_iff (f : ConfigFields) : structuralOk f = true ↔ StructuralValid f := by
  simp only [structuralOk, StructuralValid, Bool.and_eq_true, decide_eq_true_eq, and_assoc, ne_eq,
    BitVec.toNat_inj]

theorem recordOf_c_pos (f : ConfigFields) : 0 < (recordOf f).c := by
  show 0 < (tune 2 6 4 false f.c).2
  unfold tune
  split
  · decide
  · simp

/-- Settles O11, by the mode, the structural fields and whether the lane is clear. -/
theorem configure : Obligations.Configure := by
  unfold Obligations.Configure
  refine ⟨fun f s configured => ?_, fun f s off invalid => ?_,
    fun f s off valid queue slot free empty calm => ?_⟩
  · refine congrArg Host.Outcome.next ((if_pos (s.configured_iff.mpr configured)).trans ?_)
    rw [State.reply_eq_answered]
    rfl
  · refine congrArg Host.Outcome.next ((if_neg (by simp [State.configured_eq_false off])).trans
      ((if_neg (mt (structuralOk_iff f).mp invalid)).trans ?_))
    rw [State.reply_eq_answered]
    rfl
  · let v := s.storeConfig f
    have run : exec (.configure f) s = .next ((v.enterSweeping .active).settleLane.reply 1
        (if isClamped f then .acceptedClamped else .accepted)) :=
      congrArg Host.Outcome.next ((if_neg (by simp [State.configured_eq_false off])).trans
        (if_pos ((structuralOk_iff f).mpr valid)))
    have frame : SameExcept [.lane, .modeCtl, .bus, .notices] v
        (v.enterSweeping .active).settleLane :=
      (State.enterSweeping_frame _ _).step (State.settleLane_frame _) (by simp) (by simp)
    have face : v.lane.face = .empty := (s.laneEmpty_iff.mp empty).2.2.2
    have reply (t : State) : (t.reply 1 (if isClamped f then .acceptedClamped else .accepted)).link.reply
        = (if isClamped f = true then [1, 1, 254] else [1, 0, 255]) := by
      cases isClamped f <;> rfl
    have beams (k : PutIdx) : (v.enterSweeping .active).settleLane.picker.beams[k] =
        { s.picker.beams[k] with blockedMs := 0 } := by
      rw [frame.picker_eq (by simp)]
      exact getElem_mapVec_fin _ _ k
    by_cases clear : AllClear s
    · obtain ⟨ctl, bus, ⟨u, first, second⟩, -⟩ :=
        State.sweep_ends (v := v) queue empty free clear (recordOf_c_pos f)
      have twice := State.raise_twice (s := v) (e := 2) first calm
      rw [← second] at twice
      generalize (v.enterSweeping .active).settleLane = w at *
      exact ⟨_, run, exec_next_frame run, frame.cfg_eq (by simp), congrArg Bus.ownStation bus,
        congrArg Bus.rxOn bus, congrArg Bus.tx bus, (congrArg Bus.slot bus).trans slot,
        congrArg Bus.line bus, frame.board_eq (by simp), congrArg ModeCtl.sweepReturn ctl,
        reply _, beams, fun _ => ⟨congrArg ModeCtl.mode ctl, congrArg ModeCtl.able ctl,
          congrArg Bus.queue bus, twice⟩, fun no => absurd clear no⟩
    · obtain ⟨ctl, bus, notices, filled⟩ := State.sweep_goes_on (v := v) queue face free clear
      obtain ⟨-, -, -, fresh, -⟩ := RaisedOnce.raised (s := v) notices
      generalize (v.enterSweeping .active).settleLane = w at *
      exact ⟨_, run, exec_next_frame run, frame.cfg_eq (by simp), congrArg Bus.ownStation bus,
        congrArg Bus.rxOn bus, congrArg Bus.tx bus, (congrArg Bus.slot bus).trans slot,
        congrArg Bus.line bus, frame.board_eq (by simp), congrArg ModeCtl.sweepReturn ctl,
        reply _, beams, fun yes => absurd yes clear, fun _ => ⟨filled,
          congrArg ModeCtl.mode ctl, congrArg ModeCtl.able ctl, congrArg Bus.queue bus,
          fresh calm⟩⟩

/-! ### RESTART (R154, R155) -/

/-- An empty queue and no park record leave nothing but strays to the sweep. -/
theorem SweepFilled.records {u t : State} (h : SweepFilled u t) (queue : u.lane.queue = [])
    (park : u.lane.parkRec = none) : t.lane.queue = [] ∧ t.lane.parkRec = none := by
  obtain ⟨released, others⟩ := h
  by_cases near : u.isBlocked .face = true ∨ u.isBlocked .exit = true
  · obtain ⟨-, -, ⟨queueT, parkT⟩, -⟩ := released near
    exact ⟨queueT.trans queue, parkT.trans park⟩
  · obtain ⟨face, exit⟩ : u.isBlocked .face = false ∧ u.isBlocked .exit = false := by
      simpa using near
    obtain ⟨parkStray, -, rest⟩ := others face exit
    cases sensor : u.isBlocked .park with
    | true =>
      obtain ⟨-, -, ⟨queueT, parkT⟩, -⟩ := parkStray park sensor
      exact ⟨queueT.trans queue, parkT.trans park⟩
    | false =>
      obtain ⟨⟨queueT, parkT⟩, -⟩ := rest park sensor queue
      exact ⟨queueT.trans queue, parkT.trans park⟩

theorem State.clearNotices_source (s : State) (j : Fin 19) :
    s.clearNotices.notices.sources[j] =
      { s.notices.sources[j] with pending := false, count := 0, detail := 0 } :=
  getElem_mapVec_fin clearNoticeRec s.notices.sources j

theorem State.clearNotices_attn (s : State) : s.clearNotices.notices.attn = false := by
  show attnOf (mapVec clearNoticeRec s.notices.sources) s.notices.floor = false
  rw [attnOf, List.any_eq_false]
  intro n hn
  obtain ⟨i, hi, rfl⟩ := Vector.mem_iff_getElem.mp (Vector.mem_toList_iff.mp hn)
  rw [getElem_mapVec]
  simp [NoticeRec.eligible, clearNoticeRec]

/-- What RESTART leaves before the sweep (R154). -/
def State.restarted (s : State) : State := s.clearWork.clearNotices

theorem sensorOf_levelsOnly (ss : Sensors) (x : Sensor) :
    sensorOf (levelsOnly ss) x = levelOnly (sensorOf ss x) := by
  cases x <;> rfl

theorem State.restarted_isBlocked (s : State) (x : Sensor) :
    s.restarted.isBlocked x = s.isBlocked x := by
  show (sensorOf (levelsOnly s.lane.sensors) x).blocked = _
  rw [sensorOf_levelsOnly]
  rfl

/-- The sweep after RESTART finds the levels that the part held. -/
theorem SweepFilled.of_restarted {s t : State} (h : SweepFilled s.restarted t) :
    SweepFilled
      { s with lane := { State.reset.lane with sensors := s.lane.sensors, gap := s.lane.gap } } t := by
  have blocked (x : Sensor) : State.isBlocked
      { s with lane := { State.reset.lane with sensors := s.lane.sensors, gap := s.lane.gap } } x =
        s.restarted.isBlocked x := (s.restarted_isBlocked x).symm
  unfold SweepFilled Filled at h ⊢
  simp only [blocked]
  exact h

/-- The notices after a sweep's changes of mode, one where it goes on and two where it ends (R148, R162). -/
def ModeNotices (ends : Bool) (v t : State) : Prop :=
  t.notices.floor = v.notices.floor ∧
    (∀ j : Fin 19, j ≠ NoticeSource.modeChanged.index →
      t.notices.sources[j] = v.notices.sources[j]) ∧
    t.notices.sources[NoticeSource.modeChanged.index] =
      { v.notices.sources[NoticeSource.modeChanged.index] with
        pending := true, count := if ends then 2 else 1, detail := 1 }

theorem ModeNotices.once {v t : State}
    (calm : v.notices.sources[NoticeSource.modeChanged.index].pending = false)
    (h : t.notices = (v.raise .modeChanged 1).notices) : ModeNotices false v t := by
  obtain ⟨others, floor, -, fresh, -⟩ := RaisedOnce.raised (s := v) h
  exact ⟨floor, others, fresh calm⟩

theorem ModeNotices.twice {u v t : State}
    (calm : v.notices.sources[NoticeSource.modeChanged.index].pending = false)
    (first : u.notices = (v.raise .modeChanged 1).notices)
    (second : t.notices = (u.raise .modeChanged 2).notices) : ModeNotices true v t := by
  obtain ⟨others, floor, -, -, -⟩ := RaisedOnce.raised (s := v) first
  obtain ⟨others', floor', -, -, -⟩ := RaisedOnce.raised (s := u) second
  have sources := State.raise_twice (e := 2) first calm
  rw [← second] at sources
  exact ⟨floor'.trans floor, fun j hj => (others' j hj).trans (others j hj), sources⟩

/-- What the sweep after RESTART comes to, by whether every sensor is clear (R152, R154). -/
theorem State.restarted_sweep (s : State) (roomy : 0 < s.conf.c) :
    let t := (s.restarted.enterSweeping .active).settleLane
    ∃ ends : Bool,
      t.modeCtl = { mode := if ends then .active else .sweeping, sweepReturn := .active,
                    able := ends } ∧
      t.bus = { s.restarted.bus with tx := .on, queue := [s.restarted.stateFrame ends] } ∧
      ModeNotices ends s.restarted t ∧ t.lane.queue = [] ∧ t.lane.parkRec = none ∧
      (AllClear s → ends = true ∧ t.lane.face = .empty ∧ t.lane.faceRec = none) ∧
      (¬ AllClear s → ends = false ∧ SweepFilled s.restarted t) := by
  have allClear : AllClear s.restarted ↔ AllClear s := forall_congr' fun x => by
    rw [s.restarted_isBlocked x]
  have calm : s.restarted.notices.sources[NoticeSource.modeChanged.index].pending = false := by
    rw [State.restarted, s.clearWork.clearNotices_source]
  by_cases clear : AllClear s
  · obtain ⟨ctl, bus, ⟨u, first, second⟩, face, faceRec, queue, park⟩ :=
      State.sweep_ends (v := s.restarted) rfl rfl rfl (allClear.mpr clear) roomy
    exact ⟨true, ctl, bus, .twice calm first second, queue, park, fun _ => ⟨rfl, face, faceRec⟩,
      fun no => absurd clear no⟩
  · obtain ⟨ctl, bus, notices, filled⟩ :=
      State.sweep_goes_on (v := s.restarted) rfl rfl rfl (mt allClear.mp clear)
    obtain ⟨queue, park⟩ := (filled rfl).records rfl rfl
    exact ⟨false, ctl, bus, .once calm notices, queue, park, fun yes => absurd yes clear,
      fun _ => ⟨rfl, filled rfl⟩⟩

/-- Settles O12: the working state is cleared, and the sweep begins from it. -/
theorem restart : Obligations.Restart := by
  unfold Obligations.Restart
  refine ⟨fun s off => ?_, fun s configured roomy => ?_⟩
  · have run : exec .restart s =
        .next (({ s with clock := 0 } : State).clearNotices.reply 3 .accepted) :=
      congrArg Host.Outcome.next (if_neg (by simp [State.configured_eq_false off]))
    refine ⟨_, run, ?_, rfl, rfl, State.clearNotices_attn _, rfl, fun j => ?_⟩
    · simp [SameExcept, State.reply, State.clearNotices]
    · exact State.clearNotices_source { s with clock := 0 } j
  let v := s.restarted
  have run : exec .restart s = .next ((v.enterSweeping .active).settleLane.reply 3 .accepted) :=
    congrArg Host.Outcome.next (if_pos (s.configured_iff.mpr configured))
  have frame : SameExcept [.lane, .modeCtl, .bus, .notices] v
      (v.enterSweeping .active).settleLane :=
    (State.enterSweeping_frame _ _).step (State.settleLane_frame _) (by simp) (by simp)
  have cleared (j : Fin 19) : v.notices.sources[j] =
      { s.notices.sources[j] with pending := false, count := 0, detail := 0 } :=
    s.clearWork.clearNotices_source j
  have jam : (v.enterSweeping .active).settleLane.lane.jam = none :=
    (State.settleLane_jam _).trans (((State.sweepTest_inputs _).after ((State.fill_inputs _).after
      ((v.sweepBegun_frame .active).inputsKept (by simp)))).jam)
  have link : ((v.enterSweeping .active).settleLane.reply 3 .accepted).link =
      { s.link with reply := [3, 0, 253] } := frame.replied (by decide) 3 .accepted
  have beams (k : PutIdx) : v.picker.settles[k] = none ∧ v.picker.beams[k] =
      { blocked := s.picker.beams[k].blocked, stuck := false, blockedMs := 0, clearMs := 0 } :=
    ⟨Vector.getElem_replicate _, getElem_mapVec_fin _ _ k⟩
  have stations (i : StationNo) :
      v.board.stations[i] = { heard := false, able := false, age := 0 } :=
    Vector.getElem_replicate _
  have slot : (s.bus.attempting = false → v.bus.slot = none ∧ v.bus.slotDoomed = false) ∧
      (s.bus.attempting = true → v.bus.slot = s.bus.slot ∧ v.bus.slotDoomed = true) :=
    ⟨fun h => ⟨if_neg (by simp [h]), h⟩, fun h => ⟨if_pos h, h⟩⟩
  refine ⟨_, run, exec_next_frame run, ?_⟩
  obtain ⟨clock, demand, puts, board, tracker, divert, picker⟩ :
      (v.enterSweeping .active).settleLane.clock = v.clock ∧
      (v.enterSweeping .active).settleLane.demand = v.demand ∧
      (v.enterSweeping .active).settleLane.puts = v.puts ∧
      (v.enterSweeping .active).settleLane.board = v.board ∧
      (v.enterSweeping .active).settleLane.tracker = v.tracker ∧
      (v.enterSweeping .active).settleLane.divert = v.divert ∧
      (v.enterSweeping .active).settleLane.picker = v.picker :=
    ⟨frame.clock_eq (by simp), frame.demand_eq (by simp), frame.puts_eq (by simp),
      frame.board_eq (by simp), frame.tracker_eq (by simp), frame.divert_eq (by simp),
      frame.picker_eq (by simp)⟩
  obtain ⟨ends, ctl, bus, ⟨floor, others, changed⟩, queue, park, ended, goesOn⟩ :=
    s.restarted_sweep roomy
  generalize hw : (v.enterSweeping .active).settleLane = w at *
  have mode : w.mode = if ends then .active else .sweeping := congrArg ModeCtl.mode ctl
  have modeActive : (w.mode = .active) ↔ ends = true := by
    rw [mode]
    cases ends <;> simp
  refine ⟨clock, congrArg Demand.lines demand, congrArg Demand.wants demand,
    fun k => (congrArg (·[k]) puts).trans (puts_reset k),
    fun i => (congrArg (fun b : Board => b.stations[i]) board).trans (stations i),
    congrArg Board.entries board, congrArg Board.crowded board, congrArg Board.refreshCount board,
    congrArg Tracker.eal tracker, congrArg Tracker.crowded tracker, congrArg Tracker.lock tracker,
    congrArg Tracker.run tracker, congrArg Tracker.attempts tracker,
    congrArg Tracker.misses tracker, congrArg Tracker.speed tracker,
    congrArg Tracker.windowCount tracker, congrArg Tracker.loopStopped tracker,
    congrArg Tracker.maxDev tracker, congrArg Divert.records divert, queue, park, jam,
    congrArg Picker.active picker, congrArg Picker.toteLight picker,
    congrArg Picker.display picker, congrArg Picker.putLight picker,
    fun k => ⟨(congrArg (fun p : Picker => p.settles[k]) picker).trans (beams k).1,
      (congrArg (fun p : Picker => p.beams[k]) picker).trans (beams k).2⟩,
    (congrArg Bus.ownStation bus :), (congrArg Bus.rxOn bus :), congrArg Bus.tx bus, (congrArg Bus.line bus :),
    (congrArg Bus.attempting bus :), (congrArg Bus.meant bus :),
    fun idle => ⟨(congrArg Bus.slot bus).trans (slot.1 idle).1,
      (congrArg Bus.slotDoomed bus).trans (slot.1 idle).2⟩,
    fun busy => ⟨(congrArg Bus.slot bus).trans (slot.2 busy).1,
      (congrArg Bus.slotDoomed bus).trans (slot.2 busy).2⟩,
    congrArg ModeCtl.sweepReturn ctl, link, floor, fun j hj => (others j hj).trans (cleared j),
    ?_, ?_, fun clear => ?_, fun blocked => ?_⟩
  · refine changed.trans ?_
    rw [cleared, show (w.reply 3 .accepted).mode = w.mode from rfl]
    simp only [modeActive]
  · refine (congrArg Bus.queue bus).trans ?_
    rw [show (w.reply 3 .accepted).mode = w.mode from rfl]
    simp only [modeActive]
    cases ends <;> rfl
  · obtain ⟨rfl, face, faceRec⟩ := ended clear
    exact ⟨mode, face, faceRec⟩
  · obtain ⟨rfl, filled⟩ := goesOn blocked
    exact ⟨mode, filled.of_restarted⟩

end Sys2Proof.Machine
end

section
/-! PROOFS. MERGED (R85, R119): the face tote leaves with its RELEASE and its expected arrival, and what stands
behind it follows (O52). -/

namespace Sys2Proof.Machine

/-! ### The STATE that the end of an event may request (R147, R148) -/

/-- Between `s` and `t` the transmit queue took at most a STATE. -/
def AtMostState (s t : State) : Prop :=
  t.bus.queue = s.bus.queue ∨
    ∃ g, frameKey g = .state ∧ t.bus.queue = (enqueue s.bus.queue g).1

theorem State.requestState_atMostState (s : State) : AtMostState s s.requestState := by
  by_cases on : s.bus.tx = .on
  · exact .inr ⟨_, rfl, congrArg Bus.queue (State.request_queue on _ _)⟩
  · exact .inl (congrArg (fun u : State => u.bus.queue) (State.request_bus_off on _ _))

theorem State.settleLane_atMostState (s : State) : AtMostState s s.settleLane := by
  by_cases same : s.ableNow = s.modeCtl.able
  · exact .inl (congrArg Bus.queue ((State.settleLane_frame_of_able same).bus_eq (by simp)))
  · obtain ⟨u, settled, bus, -⟩ := State.settleLane_of_able_changed same
    have h := u.requestState_atMostState
    unfold AtMostState at h ⊢
    rwa [settled, ← bus]

theorem State.enterMode_atMostState (s : State) {m : BenchMode} (off : m ≠ .unconfigured) :
    AtMostState s (s.enterMode m).settleLane := by
  have settled := congrArg Bus.queue ((s.enterMode_settle_frame m).bus_eq (by simp))
  unfold AtMostState
  rw [settled]
  by_cases rest : m = .rest
  · subst rest
    exact .inl (busOnMode_queue _ _)
  · exact .inr ⟨_, rfl, congrArg Bus.queue (State.enterMode_bus rest off)⟩

theorem RaisedOnce.of_start {n : NoticeSource} {d : BitVec 32} {s t u : State}
    (h : RaisedOnce n d u t) (e : u.notices = s.notices) : RaisedOnce n d s t := by
  unfold RaisedOnce at h ⊢
  rw [← e]
  exact h

theorem State.enterMode_notices_of_room {s : State} {m : BenchMode} {L : List TxKey}
    (hL : .state ∈ L) (room : RoomFor L s) :
    (s.enterMode m).notices = (s.raise .modeChanged (BitVec.ofNat 32 (modeCode m))).notices := by
  have roomM : RoomFor L (s.modeEntered m) := by
    unfold RoomFor at room ⊢
    rwa [State.modeEntered_bus, busOnMode_queue]
  rw [State.enterMode_eq, ← State.modeEntered_notices]
  split
  · rfl
  · exact (State.request_frame_of_room hL roomM).notices_eq (by simp)

theorem frameKey_eq_state_iff (f : Frame) : frameKey f = .state ↔ ∃ a, f.body = .state a := by
  unfold frameKey
  cases f.body <;> simp

section
variable {s t : State} (h : AtMostState s t)
include h

theorem AtMostState.new {f : Frame} (hf : f ∈ t.bus.queue) :
    f ∈ s.bus.queue ∨ ∃ a, f.body = .state a := by
  rcases h with same | ⟨g, key, queue⟩
  · exact .inl (same ▸ hf)
  · rw [queue] at hf
    refine (mem_enqueue hf).imp_right fun e => ?_
    rw [e]
    exact (frameKey_eq_state_iff g).mp key

theorem AtMostState.kept {L : List TxKey} (hL : .state ∈ L) (room : RoomFor L s) {f : Frame}
    (hf : f ∈ s.bus.queue) (other : frameKey f ≠ .state) : f ∈ t.bus.queue := by
  rcases h with same | ⟨g, key, queue⟩
  · exact same ▸ hf
  · obtain ⟨-, -, keeps⟩ := enqueue_with_room (t := t) (by rw [key]; exact hL) room queue
    exact keeps f hf (by rw [key]; exact other)

end

/-! ### What the fill leaves outside SWEEPING -/

/-- Outside SWEEPING the fill starts no merge wait and keeps the one there is. -/
theorem State.fill_mergeWait {v : State} (calm : v.mode ≠ .sweeping) :
    v.fill.lane.waits.merge = v.lane.waits.merge := by
  have head : v.fillHead.lane.waits.merge = v.lane.waits.merge := by
    unfold State.fillHead
    split
    · split <;> rfl
    · split <;> rfl
  by_cases busy : v.lane.face ≠ .empty ∨ v.lane.jam ≠ none
  · rw [State.fill_of_busy busy]
  · obtain ⟨face, free⟩ : v.lane.face = .empty ∧ v.lane.jam = none := by simpa using busy
    rw [State.fill_of_faceFree face free (.inl calm)]
    split
    · exact head
    · split
      · rfl
      · split
        · rfl
        · exact head

/-- A lane that is empty after the fill was empty before it. -/
theorem State.laneEmpty_of_fill {v : State} (h : v.fill.laneEmpty = true) : v.laneEmpty = true := by
  rw [State.laneEmpty_iff] at h
  obtain ⟨records, queue, park, face⟩ := h
  have emptyFace : v.lane.face = .empty := by
    by_contra busy
    rw [State.fill_of_busy (.inl busy)] at face
    exact busy face
  have divert : v.fill.divert = v.divert := v.fill_frame.divert_eq (by simp)
  rw [State.laneEmpty_iff, ← divert]
  have head : v.fillHead.lane.face = .empty → v.fillHead.lane = v.lane ∨
      v.fillHead.lane.queue = v.lane.queue ∧ v.fillHead.lane.parkRec = v.lane.parkRec := by
    unfold State.fillHead
    split
    · split
      · exact fun h => by cases h
      · exact fun _ => .inr ⟨rfl, rfl⟩
    · split
      · exact fun h => by cases h
      · exact fun _ => .inl rfl
  have same : v.fill.lane.queue = v.lane.queue ∧ v.fill.lane.parkRec = v.lane.parkRec := by
    revert face
    unfold State.fill
    split
    · exact fun _ => ⟨rfl, rfl⟩
    · split
      · rw [State.beginRelease_lane]
        intro h
        rcases Lane.released_face _ with k | k <;> cases h.symm.trans k
      · split
        · exact fun h => (head h).elim (fun k => ⟨by rw [k], by rw [k]⟩) id
        · split
          · exact fun h => by cases h
          · split
            · exact fun h => by cases h
            · exact fun h => (head h).elim (fun k => ⟨by rw [k], by rw [k]⟩) id
  exact ⟨records, same.1 ▸ queue, same.2 ▸ park, emptyFace⟩

/-! ### The tests of a drain and of a sweep (R151, R152) -/

section
variable (w : State)

theorem State.leaveTests_calm (drain : w.mode = .draining → w.laneEmpty = false)
    (sweep : w.mode = .sweeping → w.laneClear = false) : w.drainTest.sweepTest = w := by
  rw [State.drainTest_of_not_drained fun h => by cases (drain h.1).symm.trans h.2]
  refine State.sweepTest_of_not ?_
  by_cases h : w.mode = .sweeping
  · exact .inr (sweep h)
  · exact .inl h

theorem State.leaveTests_drained (draining : w.mode = .draining) (empty : w.laneEmpty = true) :
    w.drainTest.sweepTest = w.enterMode .rest := by
  rw [State.drainTest_of_drained draining empty]
  exact State.sweepTest_of_not (.inl (by rw [State.enterMode_mode]; decide))

theorem State.leaveTests_swept (sweeping : w.mode = .sweeping) (clear : w.laneClear = true) :
    w.drainTest.sweepTest = w.enterMode w.modeCtl.sweepReturn.toMode := by
  rw [State.drainTest_of_not_drained fun h => by cases sweeping.symm.trans h.1]
  exact State.sweepTest_of_clear sweeping clear

theorem State.leaveTests_atMostState : AtMostState w w.drainTest.sweepTest.settleLane := by
  by_cases drained : w.mode = .draining ∧ w.laneEmpty = true
  · rw [w.leaveTests_drained drained.1 drained.2]
    exact w.enterMode_atMostState (by decide)
  · by_cases swept : w.mode = .sweeping ∧ w.laneClear = true
    · rw [w.leaveTests_swept swept.1 swept.2]
      exact w.enterMode_atMostState (by cases w.modeCtl.sweepReturn <;> decide)
    · rw [w.leaveTests_calm (fun h => Bool.eq_false_iff.mpr fun k => drained ⟨h, k⟩)
        fun h => Bool.eq_false_iff.mpr fun k => swept ⟨h, k⟩]
      exact w.settleLane_atMostState

end

/-! ### The tote that merges (R46, R85, R119) -/

/-- The lane as MERGED leaves it: the exit sensor clear, the face EMPTY, no merge wait. -/
def State.exited (s : State) : State :=
  (s.sensorLevel .exit false).withLane
    { (s.sensorLevel .exit false).lane with
      face := .empty, faceRec := none, waits := { s.lane.waits with merge := none } }

/-- The fields of the RELEASE of a tote that merges (R46, R119). -/
def State.mergeFields (s : State) (q : LaneRec) : Announcement :=
  s.releaseFields q.cls q.cold q.laps s.conf.pM s.count

theorem exec_merged {s : State} (configured : s.mode ≠ .unconfigured) (leaving : s.lane.face = .leaving)
    {q : LaneRec} (face : s.lane.faceRec = some q) :
    exec .merged s = .next (((s.exited.mergeOut q).fill).drainTest.sweepTest).settleLane := by
  refine (State.fieldEvent_next configured .exit false _).trans ?_
  have leaving : (s.sensorLevel .exit false).lane.face = .leaving := leaving
  have face : (s.sensorLevel .exit false).lane.faceRec = some q := face
  rw [leaving, face]
  rfl

section
variable {s : State} {q : LaneRec}

theorem State.mergeOut_stray (stray : q.tote = 0) : s.exited.mergeOut q = s.exited := if_pos stray

theorem State.mergeOut_stock (stock : q.tote ≠ 0) :
    s.exited.mergeOut q =
      (s.exited.request q.tote (.release (s.mergeFields q))).place
        (predict s.conf q.tote (s.mergeFields q) s.clock) := if_neg stock

theorem State.mergeOut_requests :
    Requests (· = .holdRelease q.tote) s (s.exited.mergeOut q) := by
  have exited : Requests (· = .holdRelease q.tote) s s.exited := .of_bus_eq rfl
  by_cases stray : q.tote = 0
  · rw [State.mergeOut_stray stray]
    exact exited
  · rw [State.mergeOut_stock stray]
    exact (exited.trans (State.request_requests s.exited q.tote (.release (s.mergeFields q)))).trans
      ((State.place_frame _ _).requests (by simp))

theorem State.mergeOut_frame_of_room {L : List TxKey} (hL : .holdRelease q.tote ∈ L)
    (room : RoomFor L s) :
    SameExcept [.tracker, .bus] s.exited (s.exited.mergeOut q) := by
  by_cases stray : q.tote = 0
  · rw [State.mergeOut_stray stray]
    exact .refl _ _
  · rw [State.mergeOut_stock stray]
    exact (State.request_frame_of_room hL (by exact room)).step (State.place_frame _ _) (by simp)
      (by simp)

/-- The face tote stands once in the own lane, and leaves it (R62, R104). -/
theorem OwnLaneLaw.face_leaves (own : OwnLaneLaw s) (face : s.lane.faceRec = some q)
    (stock : q.tote ≠ 0) {t : State} (divert : t.divert = s.divert)
    (queue : t.lane.queue = s.lane.queue) (gone : t.lane.faceRec = none)
    (park : t.lane.parkRec = s.lane.parkRec) : t.inOwnLane q.tote = false := by
  have once := (ownTotes_nodup_iff s).mp own.1 q.tote stock
  rw [inOwnLane_eq_false_iff]
  simp only [ownTotes, divert, queue, gone, park, face, Option.toList, List.map_cons, List.map_nil,
    List.count_append, List.count_cons_self, List.count_nil] at once ⊢
  omega

theorem predict_merge_due {r : Record} {T : ToteNo} {a : Announcement} {t : Clock}
    (position : a.position = BitVec.ofNat 16 r.pM) (pM : r.pM < r.loopLen) (long : r.loopLen ≤ 32767) :
    isOverdue r a.count (predict r T a t) = false := by
  rw [isOverdue_eq_false_iff]
  have short : a.position.toNat < r.loopLen := by
    rw [position, BitVec.toNat_ofNat]
    omega
  have near : dist r.loopLen a.position.toNat r.pR < 32767 := by
    rw [dist_eq short]
    have := Nat.mod_lt (r.pR + r.loopLen - a.position.toNat) (by omega : 0 < r.loopLen)
    omega
  show (a.count - (a.count + BitVec.ofNat 16 (dist r.loopLen a.position.toNat r.pR))).toInt ≤ _
  generalize dist r.loopLen a.position.toNat r.pR = d at near
  have back : a.count - (a.count + BitVec.ofNat 16 d) = - BitVec.ofNat 16 d := by ring
  rw [back, BitVec.toInt_neg, BitVec.toInt_ofNat']
  simp only [Int.bmod]
  omega

/-- The expected arrival of a merged tote, the lap counted where the reader lies before the merge (R80,
R85). -/
theorem predict_merge {r : Record} {t : Clock} {a : Announcement}
    (position : a.position = BitVec.ofNat 16 r.pM) (cls : a.cls = classCode q.cls)
    (laps : a.laps = BitVec.ofNat 8 q.laps) (few : q.laps ≤ 255) (pM : r.pM < r.loopLen)
    (long : r.loopLen ≤ 32767) :
    predict r q.tote a t =
      { tote := q.tote
        expected := a.count + BitVec.ofNat 16 ((r.pR + r.loopLen - r.pM) % r.loopLen)
        cls := q.cls
        cold := .known a.coldUsed.toNat t
        laps := if r.pR < r.pM then min 255 (q.laps + 1) else q.laps } := by
  have at_ : a.position.toNat = r.pM := by
    rw [position, BitVec.toNat_ofNat]
    omega
  have lapsNat : a.laps.toNat = q.laps := by
    rw [laps, BitVec.toNat_ofNat]
    omega
  rw [predict, at_, dist_eq pM, lapsNat, cls, classOfCode_classCode]
  rfl

end

/-! ### The obligation -/

/-- What MERGED requests and expects, in whatever mode (R46, R85, R119). -/
theorem merged_tote {s t w : State} {q : LaneRec} (own : OwnLaneLaw s)
    (face : s.lane.faceRec = some q) (on : s.bus.tx = .on) (room : RoomFor [.holdRelease q.tote, .state] s)
    (bus : w.bus = (s.exited.mergeOut q).bus) (tracker : t.tracker = (s.exited.mergeOut q).tracker)
    (states : AtMostState w t) :
    (q.tote = 0 → t.tracker = s.tracker ∧
        ∀ f ∈ t.bus.queue, f ∈ s.bus.queue ∨ ∃ a, f.body = .state a) ∧
      (q.tote ≠ 0 →
        ∃ f ∈ t.bus.queue, ∃ a, f.tote = q.tote ∧ f.sender = s.bus.ownStation.getD 0 ∧
          f.body = .release a ∧ a.cls = classCode q.cls ∧ a.laps = BitVec.ofNat 8 q.laps ∧
          a.position = BitVec.ofNat 16 s.conf.pM ∧ a.count = s.count ∧
          (∀ used time, q.cold = .known used time →
            a.coldUsed.toNat = min 65535 (used + elapsed s.clock time)) ∧
          (∀ time, q.cold = .unknown time →
            a.coldUsed.toNat = (if q.cls = .ambient then 0 else
              min 65535
                (budget s.conf q.cls - alertMargin s.conf q.cls + elapsed s.clock time))) ∧
          (s.tracker.eal = [] → q.laps ≤ 255 → s.conf.pM < s.conf.loopLen →
            s.conf.pR < s.conf.loopLen → s.conf.loopLen ≤ 32767 →
            t.tracker.eal =
              [{ tote := q.tote
                 expected := s.count + BitVec.ofNat 16
                   ((s.conf.pR + s.conf.loopLen - s.conf.pM) % s.conf.loopLen)
                 cls := q.cls
                 cold := .known a.coldUsed.toNat s.clock
                 laps := if s.conf.pR < s.conf.pM then min 255 (q.laps + 1) else q.laps }])) := by
  refine ⟨fun stray => ?_, fun stock => ?_⟩
  · rw [State.mergeOut_stray stray] at bus tracker
    refine ⟨tracker, fun f hf => (states.new hf).imp_left fun h => ?_⟩
    rw [bus] at h
    exact h
  · have roomW : RoomFor [.holdRelease q.tote, .state] w :=
      (State.mergeOut_requests.room _ (by simp) room).of_bus_eq bus
    let f : Frame :=
      { sender := s.bus.ownStation.getD 0, tote := q.tote, body := .release (s.mergeFields q) }
    let asked := s.exited.request q.tote (.release (s.mergeFields q))
    have queued : f ∈ asked.bus.queue :=
      State.request_queued (s := s.exited) (L := [.holdRelease q.tote, .state]) on
        (List.mem_cons_self ..) room
    rw [State.mergeOut_stock stock] at bus tracker
    have placedBus : (asked.place (predict s.conf q.tote (s.mergeFields q) s.clock)).bus = asked.bus :=
      (State.place_frame _ _).bus_eq (by simp)
    have sent : f ∈ t.bus.queue := by
      refine states.kept (by simp) roomW ?_ (by simp [f, frameKey])
      rw [bus, placedBus]
      exact queued
    refine ⟨f, sent, s.mergeFields q, rfl, rfl, rfl, rfl, rfl, rfl, rfl, fun used time cold => ?_,
      fun time cold => ?_, fun empty few pM _ long => ?_⟩
    · show (releaseColdUsed s.conf q.cls q.cold s.clock).toNat = _
      rw [cold, releaseColdUsed_known]
    · show (releaseColdUsed s.conf q.cls q.cold s.clock).toNat = _
      rw [cold, releaseColdUsed_unknown]
    · have frame : SameExcept [.bus, .notices] s.exited asked := State.request_frame _ _ _
      have trackerA : asked.tracker = s.tracker := frame.tracker_eq (by simp)
      have lane : asked.lane = s.exited.lane := frame.lane_eq (by simp)
      have away : asked.inOwnLane (predict s.conf q.tote (s.mergeFields q) s.clock).tote = false :=
        own.face_leaves face stock (frame.divert_eq (by simp)) (by rw [lane]; rfl) (by rw [lane]; rfl)
          (by rw [lane]; rfl)
      have conf : asked.conf = s.conf := by
        rw [State.conf, frame.cfg_eq (by simp)]
        rfl
      have count : asked.count = s.count := frame.count_eq (by simp)
      rw [tracker, State.place_other away, conf, count]
      refine (placeEntry_of_none_expected (by rw [trackerA, empty])
        (predict_merge_due (a := s.mergeFields q) rfl pM long)).trans ?_
      rw [predict_merge (q := q) (a := s.mergeFields q) rfl rfl rfl few pM long]
      rfl


/-- What MERGED makes of the lane: the face is filled from what stands behind the tote (R112, R119). -/
theorem merged_lane {s v t : State} (lane : v.lane = s.exited.lane) (free : s.lane.jam = none)
    (np : s.lane.preempted = false) (calm : v.mode ≠ .sweeping) (ended : EndedAs v.fill t) :
    t.lane.waits.merge = none ∧
      (s.lane.queue = [] → s.lane.parkRec = none →
        t.lane.face = .empty ∧ t.lane.faceRec = none ∧ t.lane.drives = .off) ∧
      (∀ p, s.lane.parkRec = some p →
        t.lane.face = .arriving ∧ t.lane.parkRec = none ∧ t.lane.queue = s.lane.queue ∧
        t.lane.faceRec.map (fun r => (r.tote, r.source)) = some (p.tote, .park) ∧
        t.lane.waits.arrival = some 0 ∧
        t.lane.drives = { advance := false, transfer := .towardFace, exit := false }) ∧
      (s.lane.parkRec = none → ∀ p rest, s.lane.queue = p :: rest →
        (s.isBlocked .head = true →
          t.lane.face = .arriving ∧ t.lane.queue = rest ∧
          t.lane.faceRec.map (fun r => (r.tote, r.source)) = some (p.tote, .queue) ∧
          t.lane.waits.arrival = some 0 ∧ t.lane.waits.head = none ∧
          t.lane.drives = { advance := true, transfer := .off, exit := false }) ∧
        (s.isBlocked .head = false →
          t.lane.face = .empty ∧ t.lane.faceRec = none ∧ t.lane.queue = s.lane.queue ∧
          t.lane.waits.head = some (s.lane.waits.head.getD 0))) := by
  have face : v.lane.face = .empty := by
    rw [lane]
    rfl
  have freeV : v.lane.jam = none := by
    rw [lane]
    exact free
  have blocked (x : Sensor) : v.isBlocked x = s.exited.isBlocked x := by
    rw [State.isBlocked, lane]
    rfl
  have fills : FillsAs s.lane.queue s.exited v :=
    ⟨face, freeV, by rw [lane]; rfl, by rw [lane], by rw [lane], by rw [lane],
      fun x _ => blocked x, fun _ => by rw [lane]⟩
  obtain ⟨parked, queued⟩ := fills.filled (.inl calm) (.inl calm) ended
  refine ⟨?_, fun queue park => ?_, fun p park => ?_, fun park p rest queue =>
    ⟨fun on => ?_, fun off => ?_⟩⟩
  · rw [ended]
    refine (State.fill_mergeWait calm).trans ?_
    rw [lane]
    rfl
  · rw [State.fill_of_nothing (.inl calm) (.inl calm) (.inl calm) (by rw [lane]; exact queue)
      (.inr (by rw [lane]; exact park))] at ended
    rw [ended]
    refine ⟨face, by rw [lane]; rfl, ?_⟩
    simp [drivesOf, freeV, face]
  · obtain ⟨faceT, record, parkT, queueT, arrival, drives⟩ := parked p park np
    exact ⟨faceT, parkT, queueT, by rw [record]; rfl, arrival, drives⟩
  · obtain ⟨-, filled, -⟩ := queued p rest queue (.inr park)
    obtain ⟨faceT, record, queueT, arrival, wait, drives⟩ := filled on
    exact ⟨faceT, queueT, by rw [record]; rfl, arrival, wait, drives⟩
  · obtain ⟨-, -, waits⟩ := queued p rest queue (.inr park)
    obtain ⟨faceT, queueT, wait, -⟩ := waits off
    refine ⟨faceT, ?_, queueT, wait⟩
    rw [State.fill_of_head face freeV (.inl calm) (.inr ⟨by rw [lane]; exact park, .inl calm⟩),
      State.fillHead_of_clear (by rw [lane]; exact List.ne_nil_of_mem (by
        rw [show s.exited.lane.queue = p :: rest from queue]; exact List.mem_cons_self))
      ((blocked .head).trans off)] at ended
    rw [ended]
    show v.lane.faceRec = none
    rw [lane]
    rfl

theorem exited_isBlocked {s v : State} (lane : v.lane = s.exited.lane) (x : Sensor) :
    v.isBlocked x = if .exit = x then false else s.isBlocked x := by
  rw [← s.sensorLevel_isBlocked .exit x false, State.isBlocked, lane]
  rfl

/-- With nothing behind the tote the face stays EMPTY. -/
theorem merged_nothing {s v : State} (lane : v.lane = s.exited.lane)
    (h : v.mode ≠ .sweeping ∨ ∀ x, x ≠ .exit → s.isBlocked x = false) (queue : s.lane.queue = [])
    (park : s.lane.parkRec = none) : v.fill = v := by
  have clear (x : Sensor) : v.mode ≠ .sweeping ∨ v.isBlocked x = false := by
    refine h.imp_right fun others => ?_
    rw [exited_isBlocked lane x]
    split
    · rfl
    · rename_i differs
      exact others x (Ne.symm differs)
  refine State.fill_of_nothing ?_ (clear _) (clear _) (by rw [lane]; exact queue)
    (.inr (by rw [lane]; exact park))
  exact or_and_left.mpr ⟨clear _, clear _⟩

/-- Settles O52, by the mode: the drain and the sweep each end on an empty lane. -/
theorem merged : Obligations.Merged := by
  unfold Obligations.Merged
  intro s q modes outputs able own leaving face free np on few
  have configured : s.mode ≠ .unconfigured := by
    rcases modes with h | h | h <;> rw [h] <;> decide
  have run := exec_merged configured leaving face
  have inputs : InputsKept (s.sensorLevel .exit false)
      (s.exited.mergeOut q).fill.drainTest.sweepTest :=
    (State.sweepTest_inputs _).after ((State.drainTest_inputs _).after ((State.fill_inputs _).after
      ((State.mergeOut_inputs _ _).after ⟨rfl, rfl, rfl⟩)))
  have room : RoomFor [.holdRelease q.tote, .state] s := .of_length (by simp; omega)
  have frameV := State.mergeOut_frame_of_room (s := s) (q := q) List.mem_cons_self room
  have asked := State.mergeOut_requests (s := s) (q := q)
  have tote (t w : State) := merged_tote (t := t) (w := w) own face on room
  generalize s.exited.mergeOut q = v at *
  have lane : v.lane = s.exited.lane := frameV.lane_eq (by simp)
  have fill : SameExcept [.lane] v v.fill := v.fill_frame
  have mergedLane (calm : v.mode ≠ .sweeping) (t : State) := merged_lane (t := t) lane free np calm
  have emptyAfter : v.fill.laneEmpty = true → v.laneEmpty = true := State.laneEmpty_of_fill
  have still (h : v.mode ≠ .sweeping ∨ ∀ x, x ≠ .exit → s.isBlocked x = false)
      (queue : s.lane.queue = []) (park : s.lane.parkRec = none) : v.fill = v :=
    merged_nothing lane h queue park
  have emptyV : v.laneEmpty = true ↔
      s.divert.records = [] ∧ s.lane.queue = [] ∧ s.lane.parkRec = none := by
    rw [State.laneEmpty_iff, lane, frameV.divert_eq (by simp)]
    exact ⟨fun ⟨a, b, c, _⟩ => ⟨a, b, c⟩, fun ⟨a, b, c⟩ => ⟨a, b, c, rfl⟩⟩
  have clearV : (∀ x, x ≠ .exit → s.isBlocked x = false) → AllClear v ∧ v.lane.jam = none := by
    refine fun others => ⟨fun x => ?_, by rw [lane]; exact free⟩
    rw [exited_isBlocked lane x]
    split
    · rfl
    · rename_i differs
      exact others x (Ne.symm differs)
  generalize v.fill = w at *
  have bus : w.bus = v.bus := fill.bus_eq (by simp)
  have roomW : RoomFor [.holdRelease q.tote, .state] w :=
    (asked.room _ (by simp) room).of_bus_eq bus
  have modeV : v.mode = s.mode := frameV.mode_eq (by simp)
  have modeW : w.mode = s.mode := (fill.mode_eq (by simp)).trans modeV
  have noticesW : w.notices = s.notices :=
    (fill.notices_eq (by simp)).trans (frameV.notices_eq (by simp))
  have divertW : w.divert = s.divert := (fill.divert_eq (by simp)).trans (frameV.divert_eq (by simp))
  have txW : w.bus.tx = .on := by
    rw [bus]
    exact asked.tx.trans on
  have tests : SameExcept [.modeCtl, .notices, .bus] w w.drainTest.sweepTest :=
    ((State.drainTest_frame w).trans (State.sweepTest_frame _)).mono (by simp)
  have ended : EndedAs w w.drainTest.sweepTest.settleLane :=
    (State.settleLane_endedAs _).of_lane (tests.lane_eq (by simp))
  have tracker : w.drainTest.sweepTest.settleLane.tracker = v.tracker :=
    (((State.settleLane_frame _).tracker_eq (by simp)).trans
      (tests.tracker_eq (by simp))).trans (fill.tracker_eq (by simp))
  have divert : w.drainTest.sweepTest.settleLane.divert = s.divert :=
    (((State.settleLane_frame _).divert_eq (by simp)).trans
      (tests.divert_eq (by simp))).trans divertW
  have clear : w.drainTest.sweepTest.settleLane.isBlocked .exit = false :=
    (inputs.settled .exit).1.trans ((s.sensorLevel_isBlocked .exit .exit false).trans (if_pos rfl))
  have states : AtMostState w w.drainTest.sweepTest.settleLane := w.leaveTests_atMostState
  obtain ⟨stray, stock⟩ := tote _ _ bus tracker states
  refine ⟨_, run, exec_next_frame run, clear, divert, fun calm => ?_, fun calm => ?_, fun calm => ?_,
    fun calm => ?_, fun active => ?_, fun draining queue park records => ?_,
    fun draining busy => ?_, fun sweeping queue park records others => ?_, stray, stock⟩
  · obtain ⟨wait, -⟩ := mergedLane (modeV ▸ calm) _ ended
    exact wait
  · obtain ⟨-, none, -⟩ := mergedLane (modeV ▸ calm) _ ended
    exact none
  · obtain ⟨-, -, parked, -⟩ := mergedLane (modeV ▸ calm) _ ended
    exact parked
  · obtain ⟨-, -, -, queued⟩ := mergedLane (modeV ▸ calm) _ ended
    exact queued
  · have tests := w.leaveTests_calm (fun h => by cases active.symm.trans (modeW.symm.trans h))
      fun h => by cases active.symm.trans (modeW.symm.trans h)
    rw [tests]
    exact ⟨(State.settleLane_mode _).trans (modeW.trans active), w.settleLane_requests.tx.trans txW,
      ((State.settleLane_frame_of_room (by simp) roomW).notices_eq (by simp)).trans noticesW⟩
  · have w_eq := still (.inl (by rw [modeV, draining]; decide)) queue park
    rw [w.leaveTests_drained (modeW.trans draining)
      (w_eq ▸ emptyV.mpr ⟨records, queue, park⟩)]
    have settled := w.enterMode_settle_frame .rest
    refine ⟨?_, congrArg ModeCtl.able (settled.modeCtl_eq (by simp)), ?_⟩
    · exact (settled.mode_eq (by simp)).trans (State.enterMode_mode _ _)
    · exact (RaisedOnce.raised (s := w) ((settled.notices_eq (by simp)).trans
        w.enterRest_notices)).of_start noticesW
  · have tests := w.leaveTests_calm (fun _ => Bool.eq_false_iff.mpr fun h => by
      obtain ⟨records, queue, park⟩ := emptyV.mp (emptyAfter h)
      rcases busy with busy | busy | busy <;> contradiction)
      fun h => by cases draining.symm.trans (modeW.symm.trans h)
    rw [tests]
    exact ⟨(State.settleLane_mode _).trans (modeW.trans draining),
      ((State.settleLane_frame_of_room (by simp) roomW).notices_eq (by simp)).trans noticesW⟩
  · have w_eq := still (.inr others) queue park
    have laneClear : w.laneClear = true := by
      rw [State.laneClear_iff, w_eq]
      exact ⟨emptyV.mpr ⟨records, queue, park⟩, clearV others⟩
    have returns : w.modeCtl.sweepReturn = s.modeCtl.sweepReturn :=
      congrArg ModeCtl.sweepReturn ((fill.modeCtl_eq (by simp)).trans (frameV.modeCtl_eq (by simp)))
    have settled := w.enterMode_settle_frame w.modeCtl.sweepReturn.toMode
    rw [w.leaveTests_swept (modeW.trans sweeping) laneClear]
    have laneW : (w.enterMode w.modeCtl.sweepReturn.toMode).lane = s.exited.lane := by
      rw [(w.enterMode_frame _).lane_eq (by simp), w_eq, lane]
    rw [State.settleLane_face, State.settleLane_faceRec, laneW]
    refine ⟨rfl, rfl, ?_, ?_⟩
    · refine (settled.mode_eq (by simp)).trans ((State.enterMode_mode _ _).trans ?_)
      rw [returns]
      exact SweepReturn.toMode_eq _
    · have raised := (RaisedOnce.raised (s := w) ((settled.notices_eq (by simp)).trans
        (State.enterMode_notices_of_room (by simp) roomW))).of_start noticesW
      rw [returns] at raised
      cases h : s.modeCtl.sweepReturn with
      | active =>
        rw [h] at raised
        rw [returns, h]
        exact raised
      | rest =>
        rw [h] at raised
        rw [returns, h]
        exact raised

end Sys2Proof.Machine
end

section
/-! PROOFS. ENTRY_SEEN (R104, R105): the oldest divert record becomes the newest queued record, and a stray
makes a record of its own or jams the lane (O47). -/

namespace Sys2Proof.Machine

/-! ### The oldest divert record becomes a queued record (R104) -/

/-- The divert record moved from the list in flight to the lane's queue, before HOLD is requested. -/
def State.entered (s : State) (d : DivertRec) (rest : List DivertRec) : State :=
  let u : State :=
    { s.sensorLevel .entry true with divert := { s.divert with records := rest } }
  u.pushRecord (u.queuedRecord d)

/-- The new record as it stands in the queue before the Cold Monitor's working. -/
def State.newRecord (s : State) (d : DivertRec) : LaneRec :=
  let q := newLaneRec d.tote (divertClass s.demand.lines d) (divertCold d) (divertLaps d)
  { q with urgent := s.urgentNow q }

@[simp] theorem State.newRecord_tote (s : State) (d : DivertRec) : (s.newRecord d).tote = d.tote := rfl

/-- The record queued, HOLD requested, and the Cold Monitor's working done (log 18). -/
def State.worked (s : State) (d : DivertRec) (rest : List DivertRec) : State :=
  ((s.entered d rest).request d.tote .hold).coldWork d.tote

theorem exec_entrySeen_divert {s : State} (configured : s.mode ≠ .unconfigured) {d : DivertRec}
    {rest : List DivertRec} (records : s.divert.records = d :: rest) :
    exec .entrySeen s = .next ((s.worked d rest).newHeadCheck.fill).settleLane := by
  refine (State.fieldEvent_next configured .entry true _).trans ?_
  have records : (s.sensorLevel .entry true).divert.records = d :: rest := records
  rw [records]
  rfl

section
variable {s : State} {d : DivertRec} {rest : List DivertRec}

theorem State.entered_lane :
    (s.entered d rest).lane =
      { (s.sensorLevel .entry true).lane with queue := s.lane.queue ++ [s.newRecord d] } := rfl

theorem State.entered_frame : SameExcept [.lane, .divert] s (s.entered d rest) := by
  simp [SameExcept, State.entered, State.pushRecord, State.withLane, State.sensorLevel]

/-- The tote of the oldest divert record has no lane record (R78, R98). -/
theorem OwnLaneLaw.divert_absent (own : OwnLaneLaw s) (records : s.divert.records = d :: rest) :
    ∀ p ∈ laneRecords s, p.tote ≠ d.tote := by
  have away := own.oldest_leaves (t := { s with divert := { s.divert with records := rest } })
    records rfl rfl
  intro p hp same
  have inside : d.tote ∈ ownTotes { s with divert := { s.divert with records := rest } } := by
    rw [← same]
    simp only [laneRecords, List.mem_append, Option.mem_toList] at hp
    simp only [ownTotes, List.mem_append, List.mem_map, Option.mem_toList]
    rcases hp with (hp | hp) | hp
    · exact .inl (.inl (.inr ⟨p, hp, rfl⟩))
    · exact .inl (.inr ⟨p, hp, rfl⟩)
    · exact .inr ⟨p, hp, rfl⟩
  exact absurd ((inOwnLane_iff _ _).mpr inside) (by rw [away]; decide)

/-- Records of other totes are left alone by the working of one tote. -/
theorem Lane.mapRecs_queued {l : Lane} {f : LaneRec → LaneRec} {queue : List LaneRec} {q : LaneRec}
    (list : l.queue = queue ++ [q])
    (others : ∀ p ∈ queue ++ l.faceRec.toList ++ l.parkRec.toList, f p = p) :
    l.mapRecs f = { l with queue := queue ++ [f q] } := by
  have kept : queue.map f = queue :=
    (List.map_congr_left fun p hp => others p (by simp [hp])).trans (List.map_id' queue)
  have face : l.faceRec.map f = l.faceRec := by
    cases h : l.faceRec with
    | none => rfl
    | some p => exact congrArg some (others p (by simp [h]))
  have park : l.parkRec.map f = l.parkRec := by
    cases h : l.parkRec with
    | none => rfl
    | some p => exact congrArg some (others p (by simp [h]))
  rw [Lane.mapRecs, face, park, list, List.map_append, kept]
  rfl

variable (absent : ∀ p ∈ laneRecords s, p.tote ≠ d.tote)
include absent

theorem State.entered_laneRecOf {u : State} (lane : u.lane = (s.entered d rest).lane) :
    u.laneRecOf d.tote = some (s.newRecord d) := by
  have before : (s.lane.queue.find? fun q => q.tote == d.tote) = none := by
    rw [List.find?_eq_none]
    intro p hp
    simpa using absent p (by simp [laneRecords, hp])
  rw [State.laneRecOf, lane, State.entered_lane]
  simp only [List.append_assoc, List.find?_append, before, Option.none_or]
  rw [List.find?_cons_of_pos (by simp)]
  rfl

/-- The working touches the new record alone (R121). -/
theorem State.worked_lane :
    (s.worked d rest).lane =
      { (s.entered d rest).lane with
        queue := s.lane.queue ++
          [((s.entered d rest).request d.tote .hold).coldMark (s.newRecord d)] } := by
  let u := (s.entered d rest).request d.tote .hold
  have lane : u.lane = (s.entered d rest).lane := (State.request_frame _ _ _).lane_eq (by simp)
  have stays : ¬ u.coldReleases d.tote := by
    rintro ⟨-, -, q, hq, tote⟩
    rw [lane] at hq
    have hq : s.lane.faceRec = some q := hq
    exact absent q (by simp [laneRecords, hq]) tote
  refine ((State.coldWork_lane u d.tote).2 stays).trans ?_
  rw [lane]
  refine (Lane.mapRecs_queued (q := s.newRecord d) (queue := s.lane.queue) rfl
    fun p hp => ?_).trans ?_
  · exact State.markIn_of_not_mem (by simpa using absent p hp)
  · rw [State.markIn_of_mem (by simp)]

end


/-! ### What the entry notices and requests -/

section
variable {s : State} {d : DivertRec} {rest : List DivertRec}

theorem State.held_frame :
    SameExcept [.lane, .divert, .bus, .notices] s ((s.entered d rest).request d.tote .hold) :=
  State.entered_frame.step (State.request_frame _ _ _) (by simp) (by simp)

theorem State.held_quiet {L : List TxKey} (hL : .holdRelease d.tote ∈ L) (room : RoomFor L s) :
    SameExcept [.lane, .divert, .bus] s ((s.entered d rest).request d.tote .hold) :=
  State.entered_frame.step (State.request_frame_of_room hL (by exact room)) (by simp) (by simp)

theorem State.worked_frame :
    SameExcept [.lane, .divert, .bus, .notices, .demand, .picker, .puts] s (s.worked d rest) :=
  State.held_frame.step (State.coldWork_frame _ _) (by simp) (by simp)

theorem State.worked_divert : (s.worked d rest).divert = { s.divert with records := rest } :=
  ((State.coldWork_frame _ _).divert_eq (by simp)).trans
    ((State.request_frame _ _ _).divert_eq (by simp))

variable (absent : ∀ p ∈ laneRecords s, p.tote ≠ d.tote)
include absent

theorem State.held_due :
    ((s.entered d rest).request d.tote .hold).alertDue d.tote =
        alertsNow s.conf s.clock (s.newRecord d) ∧
      ((s.entered d rest).request d.tote .hold).breachDue d.tote =
        breachesNow s.conf s.clock (s.newRecord d) := by
  have found := State.entered_laneRecOf absent (rest := rest)
    (u := (s.entered d rest).request d.tote .hold) ((State.request_frame _ _ _).lane_eq (by simp))
  have clock : ((s.entered d rest).request d.tote .hold).clock = s.clock :=
    State.held_frame.clock_eq (by simp)
  have conf : ((s.entered d rest).request d.tote .hold).conf = s.conf := by
    rw [State.conf, State.held_frame.cfg_eq (by simp)]
    rfl
  exact ⟨by rw [State.alertDue, found, clock, conf]; rfl,
    by rw [State.breachDue, found, clock, conf]; rfl⟩

/-- The new record's marks are those of its standing now (R121). -/
theorem State.held_coldMark :
    ((s.entered d rest).request d.tote .hold).coldMark (s.newRecord d) =
      { s.newRecord d with
        alertMark := alertsNow s.conf s.clock (s.newRecord d)
        breachMark := breachesNow s.conf s.clock (s.newRecord d) } := by
  obtain ⟨alert, breach⟩ := State.held_due absent (rest := rest)
  rw [State.coldMark, State.newRecord_tote, alert, breach]
  rfl

theorem State.worked_of_calm (alert : alertsNow s.conf s.clock (s.newRecord d) = false)
    (breach : breachesNow s.conf s.clock (s.newRecord d) = false) :
    s.worked d rest = (s.entered d rest).request d.tote .hold := by
  obtain ⟨alertDue, breachDue⟩ := State.held_due absent (rest := rest)
  rw [State.worked, State.coldWork_of_not_due (breachDue.trans breach), State.coldAlertWork_eq,
    alertDue, alert]
  rfl

theorem State.worked_of_alert (alert : alertsNow s.conf s.clock (s.newRecord d) = true)
    (breach : breachesNow s.conf s.clock (s.newRecord d) = false) :
    s.worked d rest = (((s.entered d rest).request d.tote .hold).updRec d.tote
      fun q => { q with alertMark := true }).raise .coldAlert d.tote := by
  obtain ⟨alertDue, breachDue⟩ := State.held_due absent (rest := rest)
  rw [State.worked, State.coldWork_of_not_due (breachDue.trans breach), State.coldAlertWork_eq,
    alertDue, alert]
  rfl

end

theorem alertsNow_newRecord_iff {s : State} {d : DivertRec} (stock : d.tote ≠ 0) :
    alertsNow s.conf s.clock (s.newRecord d) = true ↔
      (s.newRecord d).cls ≠ .ambient ∧
        0 < coldRemaining s.conf (s.newRecord d).cls (s.newRecord d).cold s.clock ∧
        coldRemaining s.conf (s.newRecord d).cls (s.newRecord d).cold s.clock ≤
          (alertMargin s.conf (s.newRecord d).cls : Int) ∧
        (s.newRecord d).cold.isKnown = true := by
  have stock : ¬ d.tote = 0#32 := stock
  have clear : (s.newRecord d).alertMark = false := rfl
  simp [alertsNow, laneStanding_alert_iff, stock, clear, and_assoc]

theorem breachesNow_newRecord_iff {s : State} {d : DivertRec} (stock : d.tote ≠ 0) :
    breachesNow s.conf s.clock (s.newRecord d) = true ↔
      (s.newRecord d).cls ≠ .ambient ∧
        coldRemaining s.conf (s.newRecord d).cls (s.newRecord d).cold s.clock ≤ 0 := by
  have stock : ¬ d.tote = 0#32 := stock
  have clear : (s.newRecord d).breachMark = false := rfl
  simp [breachesNow, laneStanding_breached_iff, stock, clear]

theorem newRecord_urgent_iff {s : State} {d : DivertRec} (stock : d.tote ≠ 0) :
    (s.newRecord d).urgent = true ↔
      (s.newRecord d).cls ≠ .ambient ∧
          coldRemaining s.conf (s.newRecord d).cls (s.newRecord d).cold s.clock ≤
            (alertMargin s.conf (s.newRecord d).cls : Int) ∨
        ∃ l ∈ s.demand.lines, l.tote = d.tote ∧ l.state = .waiting ∧ l.prio = .express ∧
          ∃ u, deadlineOf s.puts l.handle = some u ∧
            timeTo u s.clock ≤ (s.conf.urgentSlack : Int) :=
  (State.urgentNow_iff s _).trans ⟨fun h => h.2, fun h => ⟨stock, h⟩⟩

theorem RaisedFor.pending {n : NoticeSource} {d : BitVec 32} {s t : State} (h : RaisedFor n [d] s t) :
    t.notices.sources[n.index].pending = true := by
  unfold RaisedFor at h
  rw [h]
  dsimp only
  split
  · assumption
  · rfl

/-! ### A STATE at a full queue keeps every frame of a lower class (R57) -/

theorem mem_enqueue_of_low {q : List Frame} {f g : Frame} (hf : f ∈ q) (key : frameKey f ≠ frameKey g)
    (low : f.body.lineClass ≠ 3) : f ∈ (enqueue q g).1 := by
  unfold enqueue
  split
  · exact List.mem_map.mpr ⟨f, hf, if_neg key⟩
  · split
    · exact List.mem_append_left _ hf
    · split
      · exact hf
      · split
        · refine List.mem_append_left _ ?_
          rw [dropNewestClass3, List.mem_reverse]
          exact (List.mem_eraseP_of_neg (by simpa using low)).mpr (List.mem_reverse.mpr hf)
        · exact hf

theorem AtMostState.kept_low {s t : State} (h : AtMostState s t) {f : Frame} (hf : f ∈ s.bus.queue)
    (other : frameKey f ≠ .state) (low : f.body.lineClass ≠ 3) : f ∈ t.bus.queue := by
  rcases h with same | ⟨g, key, queue⟩
  · exact same ▸ hf
  · rw [queue]
    exact mem_enqueue_of_low hf (by rw [key]; exact other) low


/-! ### What stands in the lane after the entry -/

/-- The lane after an entry: a busy face and a jammed lane keep what they hold, and an EMPTY face is filled
from the queue with its new record (R112). -/
theorem entered_after {s v t : State} {queue : List LaneRec}
    (lane : v.lane = { (s.sensorLevel .entry true).lane with queue := queue })
    (calm : s.lane.face ≠ .empty ∨ v.mode ≠ .sweeping) (ended : EndedAs v.fill t) :
    (s.lane.face ≠ .empty ∨ s.lane.jam ≠ none →
        t.lane.queue = queue ∧ t.lane.face = s.lane.face ∧ t.lane.faceRec = s.lane.faceRec ∧
          t.lane.parkRec = s.lane.parkRec) ∧
      (s.lane.face = .empty → s.lane.jam = none → Filled queue s t) := by
  refine ⟨fun busy => ?_, fun face free => ?_⟩
  · rw [State.fill_of_busy (by rw [lane]; exact busy)] at ended
    rw [ended, lane]
    exact ⟨rfl, rfl, rfl, rfl⟩
  · have calm := calm.resolve_left (not_not.mpr face)
    have blocked (x : Sensor) (hx : x ≠ .entry) : v.isBlocked x = s.isBlocked x := by
      rw [State.isBlocked, lane]
      exact (s.sensorLevel_isBlocked .entry x true).trans (if_neg hx.symm)
    have fills : FillsAs queue s v :=
      ⟨by rw [lane]; exact face, by rw [lane]; exact free, by rw [lane], by rw [lane]; rfl,
        by rw [lane]; rfl, by rw [lane]; rfl, blocked, fun _ => by rw [lane]; rfl⟩
    exact fills.filled (.inl calm) (.inl calm) ended

theorem State.newHeadCheck_of_idle {v : State}
    (h : v.lane.face ≠ .presenting ∨ v.lane.queue.length ≠ 1) : v.newHeadCheck = v := by
  unfold State.newHeadCheck
  split
  · rename_i alone
    exact State.headTurnedUrgent_of_not_presenting (h.resolve_right (not_not.mpr alone.1))
  · rfl

/-- The end of an event whose queue has room for STATE raises nothing. -/
theorem State.settleLane_quiet {s : State} {L : List TxKey} (hL : .state ∈ L) (room : RoomFor L s) :
    s.settleLane.notices = s.notices :=
  (State.settleLane_frame_of_room hL room).notices_eq (by simp)

/-- HOLD is queued, and the DROP that a breach requests leaves it there (R57). -/
theorem State.worked_hold {s : State} {d : DivertRec} {rest : List DivertRec} (on : s.bus.tx = .on)
    (room : RoomFor [.holdRelease d.tote, .wantDrop d.tote] s) :
    { sender := s.bus.ownStation.getD 0, tote := d.tote, body := .hold } ∈
      (s.worked d rest).bus.queue := by
  have asked := State.request_requests (s.entered d rest) d.tote .hold
  have queued := State.request_queued (s := s.entered d rest) (T := d.tote) (b := .hold) on
    List.mem_cons_self room
  have roomH := asked.room [.holdRelease d.tote, .wantDrop d.tote] (by simp [requestKey, frameKey]) room
  refine (State.coldWork_requests _ d.tote).kept _ ?_ roomH _ queued ?_
  · rintro k ⟨w, -, rfl, tote, -⟩
    simp [tote]
  · rintro ⟨w, -, key, -⟩
    cases key

/-- A breach at the entry holds the tote's lines and raises COLD_BREACH (R28, R122). -/
theorem State.worked_of_breach {s : State} {d : DivertRec} {rest : List DivertRec}
    (absent : ∀ p ∈ laneRecords s, p.tote ≠ d.tote)
    (breach : breachesNow s.conf s.clock (s.newRecord d) = true) :
    (s.worked d rest).notices.sources[NoticeSource.coldBreach.index].pending = true ∧
      (s.worked d rest).demand.lines = s.demand.lines.map (heldIf (· == d.tote)) := by
  have due := (State.held_due absent (rest := rest)).2.trans breach
  obtain ⟨-, raised, -⟩ := State.coldWork_raised ((s.entered d rest).request d.tote .hold) d.tote
  rw [if_pos due] at raised
  refine ⟨raised.pending, ?_⟩
  have demand := State.coldWork_demand ((s.entered d rest).request d.tote .hold) d.tote
  rw [State.breachIn_single_of_due due, State.held_frame.demand_eq (by simp)] at demand
  exact congrArg Demand.lines demand

theorem State.worked_facts {s : State} {d : DivertRec} {rest : List DivertRec} :
    lineFacts (s.worked d rest).demand.lines = lineFacts s.demand.lines := by
  have demand := State.coldWork_demand ((s.entered d rest).request d.tote .hold) d.tote
  rw [State.held_frame.demand_eq (by simp)] at demand
  refine (congrArg (fun e => lineFacts (Demand.lines e)) demand).trans ?_
  exact lineFacts_heldIf _ _

theorem exec_entrySeen_full {s : State} (configured : s.mode ≠ .unconfigured)
    (records : s.divert.records = []) (full : s.conf.c ≤ s.lane.queue.length) :
    exec .entrySeen s = .next ((s.sensorLevel .entry true).jamLane .entry).settleLane := by
  refine (State.fieldEvent_next configured .entry true _).trans ?_
  have empty : (s.sensorLevel .entry true).divert.records = [] := records
  rw [empty]
  refine congrArg (fun w => Host.Outcome.next (State.settleLane w)) (if_neg (not_lt.mpr ?_))
  show s.conf.c ≤ s.divert.records.length + s.lane.queue.length
  rw [records]
  exact full.trans (Nat.le_add_left _ _)

/-- Settles O47: the divert record, the stray with room for it, and the stray without. -/
theorem entrySeen : Obligations.EntrySeen := by
  unfold Obligations.EntrySeen
  intro s configured outputs able on few own kept after
  refine ⟨fun d rest records stock idle calm => ?_, fun awake records room calm => ?_,
    fun records full => ?_⟩
  · have absent := own.divert_absent records
    have run := exec_entrySeen_divert configured records
    have lane := State.worked_lane absent (rest := rest)
    rw [State.held_coldMark absent] at lane
    have frame := State.worked_frame (s := s) (d := d) (rest := rest)
    have divert := State.worked_divert (s := s) (d := d) (rest := rest)
    rw [State.newHeadCheck_of_idle (by
      rw [lane]
      refine idle.imp_right fun h => ?_
      simpa using h)] at run
    have fill := (s.worked d rest).fill_frame
    have both : RoomFor [.holdRelease d.tote, .wantDrop d.tote] s := .of_length (by simp; omega)
    have one : RoomFor [.holdRelease d.tote, .state] s := .of_length (by simp; omega)
    have hold := State.worked_hold on both (d := d) (rest := rest)
    have facts := State.worked_facts (s := s) (d := d) (rest := rest)
    have quiet (same : s.worked d rest = (s.entered d rest).request d.tote .hold) :
        SameExcept [.lane, .divert, .bus] s (s.worked d rest) := by
      rw [same]
      exact State.held_quiet List.mem_cons_self one
    have roomW : RoomFor [.holdRelease d.tote, .state]
        ((s.entered d rest).request d.tote .hold) :=
      (State.request_requests (s.entered d rest) d.tote .hold).room _ (by simp [requestKey, frameKey]) one
    have marks := State.held_due absent (rest := rest)
    have calmW := State.worked_of_calm absent (rest := rest)
    have alertW := State.worked_of_alert absent (rest := rest)
    have breachW := State.worked_of_breach absent (rest := rest)
    generalize s.worked d rest = v at *
    have ended := v.fill.settleLane_endedAs
    have settle := v.fill.settleLane_frame
    have modeT : v.fill.settleLane.mode = s.mode :=
      (State.settleLane_mode _).trans ((fill.mode_eq (by simp)).trans (frame.mode_eq (by simp)))
    have roomF (bus : v.bus = ((s.entered d rest).request d.tote .hold).bus) :
        RoomFor [.holdRelease d.tote, .state] v.fill :=
      (roomW.of_bus_eq bus).of_bus_eq (fill.bus_eq (by simp))
    refine ⟨_, { s.newRecord d with
        alertMark := alertsNow s.conf s.clock (s.newRecord d)
        breachMark := breachesNow s.conf s.clock (s.newRecord d) }, run, exec_next_frame run,
      ?_, ?_, entered_after lane (calm.imp_right fun h => ?_) ended, rfl,
      divertClass_spec s d, rfl, rfl, rfl, rfl, rfl, ?_, ?_, ?_, ?_, ?_,
      ⟨newRecord_urgent_iff stock, alertsNow_newRecord_iff stock, breachesNow_newRecord_iff stock⟩,
      fun alert breach => ?_, fun alert => ?_, fun breach => ?_⟩
    · rw [settle.divert_eq (by simp), fill.divert_eq (by simp), divert]
    · rw [settle.divert_eq (by simp), fill.divert_eq (by simp), divert]
    · rw [frame.mode_eq (by simp)]
      rcases h with h | h <;> rw [h] <;> decide
    · exact modeT
    · rw [State.settleLane_modeCtl, fill.modeCtl_eq (by simp), frame.modeCtl_eq (by simp)]
    · rw [State.settleLane_modeCtl, State.ableNow_iff, State.settleLane_queue]
      have conf : v.fill.conf = s.conf := by
        rw [State.conf, fill.cfg_eq (by simp), frame.cfg_eq (by simp)]
        rfl
      have jam : v.fill.lane.jam = s.lane.jam := by
        rw [v.fill_inputs.jam, lane]
        rfl
      rw [conf, jam, fill.divert_eq (by simp), divert, fill.mode_eq (by simp),
        frame.mode_eq (by simp)]
    · rw [settle.demand_eq (by simp), fill.demand_eq (by simp)]
      exact facts
    · refine v.fill.settleLane_atMostState.kept_low ?_ (by simp [frameKey])
        (by simp [FrameBody.lineClass])
      rw [fill.bus_eq (by simp)]
      exact hold
    · have same := calmW (by simpa using alert) (by simpa using breach)
      have calm := quiet same
      refine ⟨?_, ?_, ?_, ?_⟩
      · rw [settle.demand_eq (by simp), fill.demand_eq (by simp), calm.demand_eq (by simp)]
      · rw [settle.puts_eq (by simp), fill.puts_eq (by simp), calm.puts_eq (by simp)]
      · rw [settle.picker_eq (by simp), fill.picker_eq (by simp), calm.picker_eq (by simp)]
      · rw [State.settleLane_quiet (by simp) (roomF (congrArg State.bus same)),
          fill.notices_eq (by simp), calm.notices_eq (by simp)]
    · have due : alertsNow s.conf s.clock (s.newRecord d) = true := alert
      have calm : breachesNow s.conf s.clock (s.newRecord d) = false := by
        obtain ⟨-, left, -⟩ := (alertsNow_newRecord_iff stock).mp due
        refine Bool.eq_false_iff.mpr fun h => ?_
        have used := ((breachesNow_newRecord_iff stock).mp h).2
        omega
      have same := alertW due calm
      let u := ((s.entered d rest).request d.tote .hold).updRec d.tote
        fun q => { q with alertMark := true }
      have held : SameExcept [.lane, .divert, .bus] s u :=
        (State.held_quiet List.mem_cons_self one).step (State.updRecs_frame _ _) (by simp) (by simp)
      have raised : SameExcept [.notices] u v := same ▸ State.raise_frame _ _ _
      have worked := held.step raised (cs := [.lane, .divert, .bus, .notices]) (by simp) (by simp)
      refine ⟨?_, ?_, ?_, ?_⟩
      · rw [settle.demand_eq (by simp), fill.demand_eq (by simp), worked.demand_eq (by simp)]
      · rw [settle.puts_eq (by simp), fill.puts_eq (by simp), worked.puts_eq (by simp)]
      · rw [settle.picker_eq (by simp), fill.picker_eq (by simp), worked.picker_eq (by simp)]
      · refine (RaisedOnce.raised (s := u) ?_).of_start (held.notices_eq (by simp))
        rw [State.settleLane_quiet (by simp) (roomF (raised.bus_eq (by simp))),
          fill.notices_eq (by simp), same]
    · obtain ⟨pending, lines⟩ := breachW breach
      have raises : v.fill.notices.sources[NoticeSource.coldBreach.index].pending = true := by
        rw [fill.notices_eq (by simp)]
        exact pending
      refine ⟨(State.settleLane_raisesOnly _ _).2 raises, fun l hl tote hstate => ?_⟩
      rw [settle.demand_eq (by simp), fill.demand_eq (by simp), lines]
      refine List.mem_map.mpr ⟨l, hl, heldIf_of_breachable (by simpa using tote) ?_⟩
      rcases hstate with h | h | h <;> rw [h] <;> rfl
  · have run := exec_entrySeen_stray configured records
      (by simpa [State.queueRecords, records] using room)
    rw [if_neg awake] at run
    have fill := s.strayQueued.fill_frame
    have settle := s.strayQueued.fill.settleLane_frame
    have roomF : RoomFor [.state] s.strayQueued.fill :=
      (RoomFor.of_length (s := s) (by simp; omega)).of_bus_eq (fill.bus_eq (by simp))
    have ended := s.strayQueued.fill.settleLane_endedAs
    refine ⟨_, strayRec s.clock, run, exec_next_frame run,
      entered_after (v := s.strayQueued) rfl (calm.imp_right fun h => ?_) ended, rfl, rfl, rfl, rfl,
      rfl, ?_, ?_, ?_, fun f hf => ?_⟩
    · rcases h with h | h <;> exact fun k => by cases h.symm.trans k
    · rw [settle.demand_eq (by simp), fill.demand_eq (by simp)]
      rfl
    · exact (State.settleLane_mode _).trans (fill.mode_eq (by simp))
    · rw [State.settleLane_quiet (by simp) roomF, fill.notices_eq (by simp)]
      rfl
    · have new := (State.settleLane_atMostState _).new hf
      rwa [fill.bus_eq (by simp)] at new
  · have run := exec_entrySeen_full configured records full
    cases jam : s.lane.jam with
    | none =>
      let u := (s.sensorLevel .entry true).withLane
        { (s.sensorLevel .entry true).lane with jam := some .entry }
      have jams : (s.sensorLevel .entry true).jamLane .entry = u.raise .laneJam 1 :=
        if_neg (by rw [show (s.sensorLevel .entry true).lane.jam = none from jam]; simp)
      have raised := u.raise_frame .laneJam 1
      have ended := (u.raise .laneJam 1).settleLane_endedAs
      rw [EndedAs, raised.lane_eq (by simp)] at ended
      rw [jams] at run
      refine ⟨_, run, exec_next_frame run, ?_, fun _ => ⟨?_, ?_, ?_⟩, fun h => absurd rfl h⟩
      · dsimp only [kept]
        rw [ended]
        exact ⟨rfl, rfl, rfl, rfl⟩
      · rw [ended]
        rfl
      · rw [ended]
        rfl
      · have room : RoomFor [.state] (u.raise .laneJam 1) :=
          (RoomFor.of_length (s := s) (by simp; omega)).of_bus_eq (raised.bus_eq (by simp))
        exact (RaisedOnce.raised (s := u) (State.settleLane_quiet (by simp) room)).of_start rfl
    | some x =>
      have jams : (s.sensorLevel .entry true).jamLane .entry = s.sensorLevel .entry true :=
        if_pos (by rw [show (s.sensorLevel .entry true).lane.jam = some x from jam]; rfl)
      have ended := (s.sensorLevel .entry true).settleLane_endedAs
      rw [jams] at run
      refine ⟨_, run, exec_next_frame run, ?_, fun h => (by cases h), fun _ => ⟨?_, ?_⟩⟩
      · dsimp only [kept]
        rw [ended]
        exact ⟨rfl, rfl, rfl, rfl⟩
      · rw [ended]
        exact jam
      · exact (State.settleLane_frame_of_able (s := s.sensorLevel .entry true)
          able.1.symm).notices_eq (by simp)

end Sys2Proof.Machine
end

section
/-! PROOFS. The Cold Monitor's two events of one lane record (O32). -/

namespace Sys2Proof.Machine

/-! ### The urgent flags where no preemption can follow (R48, R115) -/

theorem State.reurgent_eq (s : State) (p : ToteNo → Bool) :
    s.reurgent p =
      if (s.flaggedWhere p).lane.headUrgent && !s.lane.headUrgent then
        (s.flaggedWhere p).headTurnedUrgent
      else s.flaggedWhere p := rfl

/-- Without a presented tote, or without an ACTIVE line, the flags alone change. -/
theorem State.reurgent_of_idle {s : State}
    (h : s.lane.face ≠ .presenting ∨ activeLine s.demand.lines = none) (p : ToteNo → Bool) :
    s.reurgent p = s.flaggedWhere p := by
  have idle : (s.flaggedWhere p).headTurnedUrgent = s.flaggedWhere p := by
    rcases h with face | none
    · exact State.headTurnedUrgent_of_not_presenting face
    · refine if_neg ?_
      rw [show (s.flaggedWhere p).demand.lines = s.demand.lines from rfl, none]
      simp
  rw [State.reurgent_eq, idle, ite_self]

theorem State.flaggedWhere_lane (s : State) (p : ToteNo → Bool) :
    (s.flaggedWhere p).lane = s.lane.mapRecs fun q => if p q.tote then s.urgentMark q else q := rfl

theorem State.flaggedWhere_frame (s : State) (p : ToteNo → Bool) :
    SameExcept [.lane] s (s.flaggedWhere p) := s.updRecs_frame _

/-! ### A record's breach mark through the watched records -/

/-- The watched records after a breach. -/
theorem State.breach_watched (s : State) (T : ToteNo) :
    (s.breach T).lane.watched = s.lane.watched.map (breachMarkOf T) := by
  have kept (q : LaneRec) : (breachMarkOf T q).watched = breachMarkOf T q.watched := by
    unfold breachMarkOf LaneRec.watched
    split <;> rfl
  obtain ⟨released, stays⟩ := s.breach_lane T
  by_cases h : s.lane.face = .presenting ∧ ∃ q ∈ s.lane.faceRec, q.tote = T
  · rw [released h, Lane.watched_released, Lane.watched_mapRecs kept]
  · rw [stays h, Lane.watched_mapRecs kept]

theorem State.flaggedWhere_watched_breach (s : State) (p : ToteNo → Bool) :
    (s.flaggedWhere p).lane.watched.map (fun q => (q.tote, q.breachMark)) =
      s.lane.watched.map (fun q => (q.tote, q.breachMark)) := by
  rw [State.flaggedWhere_lane, Lane.watched_mapRecs, List.map_map]
  · refine List.map_congr_left fun q _ => ?_
    dsimp only [Function.comp]
    split <;> rfl
  · intro q
    show LaneRec.watched (if p q.tote then s.urgentMark q else q) =
      if p q.tote then s.urgentMark q.watched else q.watched
    split <;> rfl

theorem laneRecOf_breachMark (s : State) (T : ToteNo) :
    (s.laneRecOf T).any LaneRec.breachMark =
      (((s.lane.watched.map fun q => (q.tote, q.breachMark)).find? fun q => q.1 == T).any
        fun q => q.2) := by
  rw [← any_find_watched LaneRec.breachMark (fun _ => rfl), List.find?_map, Option.any_map]
  rfl


theorem laneRecOf_mapRecs {s t : State} {f : LaneRec → LaneRec} (lane : t.lane = s.lane.mapRecs f)
    (hf : ∀ q, (f q).tote = q.tote) (T : ToteNo) : t.laneRecOf T = (s.laneRecOf T).map f := by
  have opt (o : Option LaneRec) : (o.map f).toList = o.toList.map f := by cases o <;> rfl
  have same : (fun q : LaneRec => q.tote == T) ∘ f = fun q => q.tote == T :=
    funext fun q => by simp [hf]
  rw [State.laneRecOf, State.laneRecOf, lane]
  simp only [Lane.mapRecs, opt, ← List.map_append]
  rw [List.find?_map, same]

/-! ### The two events -/

theorem State.laneRecOf_tote {s : State} {T : ToteNo} {q : LaneRec} (h : s.laneRecOf T = some q) :
    q.tote = T := by simpa using List.find?_some h

section
variable {s : State} {T : ToteNo} {q : LaneRec} (found : s.laneRecOf T = some q) (stock : T ≠ 0)
  (cold : q.cls ≠ .ambient)
include found stock cold

theorem alertDue_iff : s.alertDue T = true ↔
    0 < coldRemaining s.conf q.cls q.cold s.clock ∧
      coldRemaining s.conf q.cls q.cold s.clock ≤ (alertMargin s.conf q.cls : Int) ∧
      q.alertMark = false ∧ q.cold.isKnown = true := by
  have watched : q.tote ≠ 0 ∧ q.cls ≠ .ambient := ⟨State.laneRecOf_tote found ▸ stock, cold⟩
  rw [State.alertDue, found, Option.any_some, alertsNow, Bool.and_eq_true, Bool.and_eq_true,
    decide_eq_true_eq, laneStanding_alert_iff, Bool.not_eq_true']
  exact ⟨fun ⟨⟨⟨_, low, high⟩, mark⟩, known⟩ => ⟨low, high, mark, known⟩,
    fun ⟨low, high, mark, known⟩ => ⟨⟨⟨watched, low, high⟩, mark⟩, known⟩⟩

theorem breachDue_iff : s.breachDue T = true ↔
    coldRemaining s.conf q.cls q.cold s.clock ≤ 0 ∧ q.breachMark = false := by
  have watched : q.tote ≠ 0 ∧ q.cls ≠ .ambient := ⟨State.laneRecOf_tote found ▸ stock, cold⟩
  rw [State.breachDue, found, Option.any_some, Bool.and_eq_true, beq_iff_eq,
    laneStanding_breached_iff, Bool.not_eq_true']
  exact ⟨fun ⟨⟨_, used⟩, mark⟩ => ⟨used, mark⟩, fun ⟨used, mark⟩ => ⟨⟨watched, used⟩, mark⟩⟩

end

theorem exec_coldAlert (s : State) (T : ToteNo) :
    exec (.coldAlert T) s = .next (if s.alertDue T then
      (s.updRec T fun q => { q with alertMark := true }).raise .coldAlert T else s) :=
  congrArg Host.Outcome.next (s.coldAlertWork_eq T)

theorem exec_coldBreach (s : State) (T : ToteNo) :
    exec (.coldBreach T) s = .next (if s.breachDue T then
      ((s.breach T).reurgent (· == T)).settleLane else s) := rfl

/-- The lights and the settle after a breach of the tote at the face (R132, R141). -/
theorem State.holdLines_settles {s : State} {T : ToteNo}
    (active : ∃ l ∈ s.demand.lines, l.tote = T ∧ l.state = .active) {k : PutIdx}
    (lit : s.picker.active = some k) :
    (s.holdLines T).picker.settles[k] = some s.conf.settle := by
  have any : (s.demand.lines.any fun l => l.tote == T && l.state == .active) = true := by
    obtain ⟨l, hl, tote, state⟩ := active
    exact List.any_eq_true.mpr ⟨l, hl, by simp [tote, state]⟩
  unfold State.holdLines
  dsimp only
  rw [if_pos any]
  show (match s.picker.active with
    | some k => s.picker.settles.set k (some s.conf.settle)
    | none => s.picker.settles)[k] = _
  rw [lit]
  exact Vector.getElem_set_self _

theorem State.breach_breachMark {s : State} {T : ToteNo} {q : LaneRec}
    (found : s.laneRecOf T = some q) : ((s.breach T).laneRecOf T).any LaneRec.breachMark = true := by
  have watched : (s.lane.watched.find? fun q => q.tote == T) = some q.watched := by
    rw [Lane.watched_eq, List.find?_map]
    exact congrArg (Option.map LaneRec.watched) found
  have same : (fun q : LaneRec => q.tote == T) ∘ breachMarkOf T = fun q => q.tote == T :=
    funext fun q => by simp
  rw [← any_find_watched LaneRec.breachMark (fun _ => rfl), State.breach_watched, List.find?_map,
    same, watched]
  have tote : q.watched.tote = T :=
    (show q.watched.tote = q.tote from rfl).trans (State.laneRecOf_tote found)
  rw [Option.map_some, Option.any_some, breachMarkOf, if_pos tote]

/-- Settles O32: the alert is one mark and one notice, and the breach holds the tote's lines. -/
theorem coldMonitor : Obligations.ColdMonitor := by
  unfold Obligations.ColdMonitor
  intro s T q found stock cold rem
  have alert := alertDue_iff found stock cold
  have breach := breachDue_iff found stock cold
  refine ⟨fun low high mark known => ?_, fun calm => ?_, fun calm => ?_, fun used mark => ?_⟩
  · have run := exec_coldAlert s T
    rw [if_pos (alert.mpr ⟨low, high, mark, known⟩)] at run
    have lane : ((s.updRec T fun q => { q with alertMark := true }).raise .coldAlert T).lane =
        s.lane.mapRecs fun q => if q.tote = T then { q with alertMark := true } else q :=
      (State.raise_frame _ _ _).lane_eq (by simp)
    refine ⟨_, run, exec_next_frame run, RaisedOnce.of_start (RaisedOnce.raised rfl) rfl, ?_, ?_, ?_, ?_⟩
    · rw [laneRecOf_mapRecs lane (fun p => by split <;> rfl), found]
      exact congrArg some (if_pos (State.laneRecOf_tote found))
    · rw [lane]
      rfl
    · rw [lane]
      rfl
    · rw [lane]
      simp only [Lane.mapRecs, List.map_map]
      refine List.map_congr_left fun p _ => ?_
      dsimp only [Function.comp]
      split <;> rfl
  · refine (exec_coldAlert s T).trans (congrArg Host.Outcome.next (if_neg fun due => ?_))
    obtain ⟨low, high, mark, known⟩ := alert.mp due
    rcases calm with h | h | h | h
    · exact absurd h (not_le.mpr low)
    · exact absurd h (not_lt.mpr high)
    · cases mark.symm.trans h
    · cases known.symm.trans h
  · refine (exec_coldBreach s T).trans (congrArg Host.Outcome.next (if_neg fun due => ?_))
    obtain ⟨used, mark⟩ := breach.mp due
    rcases calm with h | h
    · exact absurd h (not_lt.mpr used)
    · cases mark.symm.trans h
  · have run := exec_coldBreach s T
    rw [if_pos (breach.mpr ⟨used, mark⟩)] at run
    let u := s.breach T
    have parks := u.reurgent_parks (· == T)
    have settle := (u.reurgent (· == T)).settleLane_frame
    have later : RaisesOnly [.parkRefused, .frameAbandoned] u
        (u.reurgent (· == T)).settleLane :=
      ((u.reurgent_raisesOnly _).mono (by simp)).trans
        ((State.settleLane_raisesOnly _).mono (by simp))
    obtain ⟨raised, -⟩ := s.breach_raised T
    have source := (later .coldBreach).1 (by simp)
    have lines : u.demand.lines = s.demand.lines.map (heldIf (· == T)) :=
      congrArg Demand.lines (s.breach_demand T)
    refine ⟨_, run, exec_next_frame run, (later .coldBreach).2 raised.pending, fun calm => ?_, ?_, ?_,
      fun present law => ⟨fun l hl tote state => ?_, fun face atFace => ?_⟩⟩
    · rw [show _ = _ from source, raised]
      dsimp only
      rw [if_neg (Bool.eq_false_iff.mp calm)]
      exact ⟨rfl, rfl⟩
    · have ended : (u.reurgent (· == T)).settleLane.lane.watched =
          (u.reurgent (· == T)).lane.watched := by
        rw [State.settleLane_lane_eq]
        rfl
      rw [laneRecOf_breachMark, ended, parks.watched, State.flaggedWhere_watched_breach,
        ← laneRecOf_breachMark]
      exact State.breach_breachMark found
    · rw [settle.demand_eq (by simp), parks.facts]
      exact (congrArg lineFacts lines).trans (lineFacts_heldIf _ _)
    · have tags : (u.demand.lines.map Line.tag).Nodup := by
        rw [lines, List.map_map]
        simpa [Function.comp_def] using law.2.1
      rw [settle.demand_eq (by simp)]
      refine parks.mem_of_not_active tags (l := { l with state := .held }) ?_ (by simp)
      refine lines ▸ List.mem_map.mpr ⟨l, hl, heldIf_of_breachable (by simpa using tote) ?_⟩
      rcases state with h | h | h <;> rw [h] <;> rfl
    · obtain ⟨p, hp, tote⟩ := atFace
      have active : ∃ l ∈ s.demand.lines, l.tote = T ∧ l.state = .active := by
        obtain ⟨⟨l, hl, state⟩, atFace⟩ := And.intro (present.1.mp face) present.2.1
        obtain ⟨r, hr, same⟩ := atFace l hl state
        exact ⟨l, hl, same.symm.trans ((Option.some.inj (hr.symm.trans hp)) ▸ tote), state⟩
      have lane := (s.breach_lane T).1 ⟨face, p, hp, tote⟩
      have released : u.lane.face = .releasing ∨ u.lane.face = .leaving := by
        rw [show u.lane = _ from lane]
        exact Lane.released_face _
      have idle : u.lane.face ≠ .presenting := fun h => by
        rcases released with k | k <;> cases h.symm.trans k
      rw [State.reurgent_of_idle (.inl idle)] at settle ⊢
      have picker : (u.flaggedWhere (· == T)).settleLane.picker = (s.holdLines T).picker :=
        ((settle.picker_eq (by simp)).trans
          ((u.flaggedWhere_frame _).picker_eq (by simp))).trans (s.breach_picker_eq T)
      rw [State.settleLane_face, picker]
      obtain ⟨off, toteLight, display, putLight⟩ := (s.holdLines_picker T).1 active
      exact ⟨released, off, toteLight, display, putLight, fun k lit =>
        State.holdLines_settles active lit⟩

end Sys2Proof.Machine
end

section
/-! PROOFS. The preemption check, the line to work and the release, case by case (R23, R114 to R116), and the
statements on RELEASE_FACE (O25), the arrival at the face (O50) and preemption (O51). -/

namespace Sys2Proof.Machine

/-! ### Where no preemption follows a change of the urgent flags (R48, R115) -/

section
variable {s : State}

theorem State.preemptWanted_iff : s.preemptWanted = true ↔
    s.mode = .active ∧ s.lane.jam = none ∧ s.lane.headUrgent = true ∧ s.lane.face = .presenting ∧
      ∃ q ∈ s.lane.faceRec, q.urgent = false := by
  simp [State.preemptWanted, and_assoc, Option.any_eq_true]

theorem State.preemptCheck_of_unwanted (h : s.preemptWanted = false) : s.preemptCheck = s :=
  if_neg (by simp [h])

theorem State.preemptCheck_of_parkFree (h : s.preemptWanted = true) (park : s.lane.parkRec = none) :
    s.preemptCheck = s.parkFace := by
  refine (if_pos h).trans ?_
  rw [park]

/-- The park is refused for the head of the queue, once by its mark (R115). -/
theorem State.preemptCheck_of_parkTaken (h : s.preemptWanted = true) (park : s.lane.parkRec ≠ none)
    {q : LaneRec} {rest : List LaneRec} (queue : s.lane.queue = q :: rest) :
    s.preemptCheck =
      if q.refusalMark then s
      else
        (s.withLane { s.lane with queue := { q with refusalMark := true } :: rest }).raise
          .parkRefused q.tote := by
  obtain ⟨p, park⟩ := Option.ne_none_iff_exists'.mp park
  refine (if_pos h).trans ?_
  rw [park, queue]

theorem Lane.headUrgent_iff (l : Lane) :
    l.headUrgent = true ↔ ∃ h ∈ l.queue.head?, h.urgent = true := by
  simp [Lane.headUrgent, Option.any_eq_true]

theorem State.flaggedWhere_headUrgent {p : ToteNo → Bool}
    (other : ∀ r ∈ s.lane.queue.head?, p r.tote = false) :
    (s.flaggedWhere p).lane.headUrgent = s.lane.headUrgent := by
  rw [State.flaggedWhere_lane, Lane.headUrgent, Lane.headUrgent, Lane.mapRecs, List.head?_map]
  cases head : s.lane.queue.head? with
  | none => rfl
  | some r => simp [other r (by simp [head])]

/-- No preemption follows where the mode is not ACTIVE, where the head was urgent before, and where the head's
flag is not one that changes. -/
theorem State.reurgent_of_steady (p : ToteNo → Bool)
    (h : s.mode ≠ .active ∨ s.lane.headUrgent = true ∨ ∀ r ∈ s.lane.queue.head?, p r.tote = false) :
    s.reurgent p = s.flaggedWhere p := by
  rw [State.reurgent_eq]
  rcases h with calm | urgent | other
  · have idle : (s.flaggedWhere p).headTurnedUrgent = s.flaggedWhere p := by
      have unwanted : (s.flaggedWhere p).preemptWanted = false :=
        Bool.eq_false_iff.mpr fun k => calm (State.preemptWanted_iff.mp k).1
      unfold State.headTurnedUrgent
      rw [State.preemptCheck_of_unwanted unwanted, ite_self]
    rw [idle, ite_self]
  · exact if_neg (by simp [urgent])
  · rw [State.flaggedWhere_headUrgent other]
    exact if_neg (by simp)

end

/-! ### The line to work (R23, R131) -/

/-- The line is made ACTIVE and lit, and its tote's want record re-derived. -/
def State.working (s : State) (m : Line) : State :=
  ((s.setLineState m.tag .active).light m).deriveWant m.tote

section
variable {s : State} {q : LaneRec} {m : Line}

theorem State.requestLine_of_none (face : s.lane.faceRec = some q)
    (none : lineToWork s.demand.lines s.puts q.tote = none) : s.requestLine = s.beginRelease := by
  rw [State.requestLine, face]
  dsimp only
  rw [none]

theorem State.working_frame : SameExcept [.demand, .bus, .notices, .picker] s (s.working m) :=
  ((s.setLineState_frame _ _).trans (State.light_frame _ _)).step (State.deriveWant_frame _ _)
    (by simp) (by simp)

theorem State.requestLine_of_line (face : s.lane.faceRec = some q)
    (work : lineToWork s.demand.lines s.puts q.tote = some m)
    (steady : s.mode ≠ .active ∨ s.lane.headUrgent = true ∨
      ∀ r ∈ s.lane.queue.head?, r.tote ≠ q.tote) :
    s.requestLine = (s.working m).flaggedWhere (· == m.tote) := by
  rw [State.requestLine, face]
  dsimp only
  rw [work]
  obtain ⟨-, tote, -⟩ := lineToWork_mem work
  have frame := State.working_frame (s := s) (m := m)
  refine State.reurgent_of_steady (s := s.working m) _ ?_
  rw [frame.mode_eq (by simp), frame.lane_eq (by simp), tote]
  exact steady.imp_right (Or.imp_right fun h r hr => by simpa using h r hr)

theorem State.working_lines : (s.working m).demand.lines =
    s.demand.lines.map fun n => if n.tag = m.tag then { n with state := .active } else n :=
  State.deriveWant_lines _ _

theorem State.working_picker : (s.working m).picker =
    { s.picker with
      active := positionOf s.puts m.handle, toteLight := true, display := some (m.qty - m.puts),
      putLight := positionOf s.puts m.handle } :=
  (State.deriveWant_frame _ _).picker_eq (by simp)

theorem State.working_raisesOnly : RaisesOnly [.frameAbandoned] s (s.working m) :=
  (((s.setLineState_frame m.tag .active).trans (State.light_frame _ m)).raisesOnly (by simp)).trans
    (State.deriveWant_raisesOnly _ _)

end

/-! ### RELEASE_FACE (R26, R114) -/

/-- The drives of a face in RELEASING or LEAVING (R111). -/
theorem Lane.released_drives (l : Lane) :
    drivesOf l.released = { advance := false, transfer := .off, exit := l.gap && l.jam.isNone } := by
  cases jam : l.jam with
  | some x => simp [drivesOf, Lane.released, jam, Drives.off]
  | none => cases gap : l.gap <;> simp [drivesOf, Lane.released, jam, gap, Drives.off]

/-- The ACTIVE line WAITING again and its lights off, before the flags and the release. -/
def State.returned (s : State) (l : Line) : State :=
  ((s.setLineState l.tag .waiting).leaveActive).deriveWant l.tote

theorem State.returned_frame (s : State) (l : Line) :
    SameExcept [.demand, .picker, .bus, .notices] s (s.returned l) :=
  ((s.setLineState_frame _ _).trans (State.leaveActive_frame _)).step (State.deriveWant_frame _ _)
    (by simp) (by simp)

theorem State.returned_lines (s : State) (l : Line) : (s.returned l).demand.lines =
    s.demand.lines.map fun m => if m.tag = l.tag then { m with state := .waiting } else m :=
  State.deriveWant_lines _ _

theorem State.leaveActive_picker {s : State} {k : PutIdx} (lit : s.picker.active = some k) :
    s.leaveActive.picker =
      { s.picker with
        settles := s.picker.settles.set k (some s.conf.settle), active := none, toteLight := false,
        display := none, putLight := none } := by
  unfold State.leaveActive
  rw [lit]

/-- The lights are off, and the position that was lit settles (R132, R138). -/
theorem State.leaveActive_dark (s : State) : s.leaveActive.picker.isDark :=
  ⟨rfl, rfl, rfl, rfl⟩

theorem State.leaveActive_settles {s : State} {k : PutIdx} (lit : s.picker.active = some k) :
    s.leaveActive.picker.settles[k] = some s.conf.settle := by
  rw [State.leaveActive_picker lit]
  exact Vector.getElem_set_self _

theorem exec_releaseFace {s : State} (configured : s.mode ≠ .unconfigured) :
    exec .releaseFace s = .next (if s.lane.face = .presenting then
      s.releasePresenting.settleLane.reply 8 .accepted else s.reply 8 .wrongState) :=
  congrArg Host.Outcome.next (State.whenConfigured_configured configured 8 _)

/-- Settles O25: the ACTIVE line returns, and the tote is released. -/
theorem releaseFace : Obligations.ReleaseFace := by
  unfold Obligations.ReleaseFace
  refine fun s configured => ⟨fun busy => ?_, fun face law present => ?_⟩
  · rw [exec_releaseFace configured, if_neg busy, State.reply_eq_answered]
    rfl
  · obtain ⟨presents, atFace, unique, -, lit, -⟩ := present
    obtain ⟨l, hl, active⟩ := presents.mp face
    obtain ⟨picked, -⟩ := lit l hl active
    have found : activeLine s.demand.lines = some l :=
      activeLine_of_unique hl active fun m hm state => unique m hm l hl state active
    have returned : s.returnActive = (s.returned l).reurgent (· == l.tote) := by
      rw [State.returnActive, found]
      rfl
    have frame := s.returned_frame l
    have lines := s.returned_lines l
    have none : activeLine (s.returned l).demand.lines = none := by
      refine NoneActive.activeLine (s := s.returned l) fun m hm state => ?_
      rw [lines] at hm
      obtain ⟨n, hn, rfl⟩ := List.mem_map.mp hm
      split at state
      · cases state
      · rename_i other
        exact other (congrArg Line.tag (unique n hn l hl state active))
    rw [State.reurgent_of_idle (.inr none)] at returned
    let v := (s.returned l).flaggedWhere (· == l.tote)
    have run := exec_releaseFace configured
    rw [if_pos face, State.releasePresenting, returned] at run
    have release := v.beginRelease_frame
    have settle := v.beginRelease.settleLane_frame
    have ended := v.beginRelease.settleLane_endedAs
    rw [EndedAs, State.beginRelease_lane] at ended

    have lane : (s.returned l).lane = s.lane := frame.lane_eq (by simp)
    have laneV : v.lane = s.lane.mapRecs fun q =>
        if q.tote == l.tote then (s.returned l).urgentMark q else q := by
      rw [← lane]
      rfl
    have pickerV : v.beginRelease.settleLane.picker = (s.setLineState l.tag .waiting).leaveActive.picker := by
      rw [settle.picker_eq (by simp), release.picker_eq (by simp)]
      exact (State.deriveWant_frame _ _).picker_eq (by simp)
    have flag (q : LaneRec) :
        (if q.tote == l.tote then (s.returned l).urgentMark q else q).tote = q.tote := by
      split <;> rfl
    have demandV : v.beginRelease.settleLane.demand = (s.returned l).demand := by
      rw [settle.demand_eq (by simp), release.demand_eq (by simp)]
      exact ((s.returned l).flaggedWhere_frame _).demand_eq (by simp)
    have linkV : v.beginRelease.settleLane.link = s.link := by
      rw [settle.link_eq (by simp), release.link_eq (by simp)]
      exact (((s.returned l).flaggedWhere_frame _).link_eq (by simp)).trans (frame.link_eq (by simp))
    refine ⟨_, l, run, exec_next_frame run, ?_, hl, active, ?_, ?_, ?_, ?_, ?_, ?_⟩
    all_goals dsimp only [State.reply]
    · rw [linkV]
      rfl
    · rw [demandV, lines]
    · rw [ended, laneV]
      rfl
    · rw [ended, laneV]
      simp only [Lane.released, Lane.mapRecs, Option.map_map]
      exact congrArg (fun f => Option.map f s.lane.faceRec) (funext flag)
    · rw [ended, laneV]
      simp only [Lane.released, Lane.mapRecs, List.map_map]
      exact List.map_congr_left fun q _ => flag q
    · rw [ended, Lane.released_drives, laneV]
      cases h : s.lane.gap <;> cases k : s.lane.jam <;> simp [Lane.mapRecs, h, k]
    · rw [pickerV]
      exact ⟨rfl, rfl, rfl, rfl, rfl, fun k hk =>
        State.leaveActive_settles (s := s.setLineState l.tag .waiting) (picked.trans hk)⟩

end Sys2Proof.Machine
end

section
/-! PROOFS. FACE_ARRIVED (R113) and preemption (R115, R116): O50 and O51. -/

namespace Sys2Proof.Machine

/-! ### A tote presented with its line (R23, R131) -/

/-- What the request for a line leaves of `u` where it finds the line `m` and no preemption follows. -/
structure Presents (u : State) (m : Line) (t : State) : Prop where
  frame : SameExcept [.demand, .bus, .notices, .picker, .lane, .modeCtl] u t
  lines : t.demand.lines =
    u.demand.lines.map fun n => if n.tag = m.tag then { n with state := .active } else n
  picker : t.picker =
    { u.picker with
      active := positionOf u.puts m.handle, toteLight := true, display := some (m.qty - m.puts),
      putLight := positionOf u.puts m.handle }
  lane : t.lane =
    { u.lane.mapRecs (fun r => if r.tote == m.tote then (u.working m).urgentMark r else r) with
      drives := .off, sensors := t.lane.sensors }
  raises : RaisesOnly [.frameAbandoned] u t

theorem State.requestLine_presents {u : State} {q : LaneRec} {m : Line}
    (face : u.lane.face = .presenting) (record : u.lane.faceRec = some q)
    (work : lineToWork u.demand.lines u.puts q.tote = some m)
    (steady : u.mode ≠ .active ∨ u.lane.headUrgent = true ∨
      ∀ r ∈ u.lane.queue.head?, r.tote ≠ q.tote) : Presents u m u.requestLine.settleLane := by
  have frame := State.working_frame (s := u) (m := m)
  have flags := (u.working m).flaggedWhere_frame (· == m.tote)
  have settle := ((u.working m).flaggedWhere (· == m.tote)).settleLane_frame
  rw [State.requestLine_of_line record work steady]
  refine ⟨(frame.trans flags).step settle (by simp) (by simp), ?_, ?_, ?_, ?_⟩
  · rw [settle.demand_eq (by simp), flags.demand_eq (by simp), State.working_lines]
  · rw [settle.picker_eq (by simp), flags.picker_eq (by simp), State.working_picker]
  · rw [State.settleLane_lane_eq, State.flaggedWhere_lane, frame.lane_eq (by simp)]
    have off : drivesOf (u.lane.mapRecs fun r =>
        if r.tote == m.tote then (u.working m).urgentMark r else r) = .off := by
      simp [drivesOf, Lane.mapRecs, face]
    rw [off]
  · exact (State.working_raisesOnly.trans (flags.raisesOnly (by simp))).trans
      (State.settleLane_raisesOnly _)

theorem State.working_flag_tote (u : State) (m : Line) (r : LaneRec) :
    (if r.tote == m.tote then (u.working m).urgentMark r else r).tote = r.tote := by
  split <;> rfl

section
variable {u t : State} {m : Line} (h : Presents u m t)
include h

theorem Presents.face : t.lane.face = u.lane.face := by
  rw [h.lane]
  rfl

theorem Presents.waits : t.lane.waits = u.lane.waits := by
  rw [h.lane]
  rfl

theorem Presents.drives : t.lane.drives = .off := by
  rw [h.lane]

theorem Presents.faceTote : t.lane.faceRec.map LaneRec.tote = u.lane.faceRec.map LaneRec.tote := by
  rw [h.lane]
  simp only [Lane.mapRecs, Option.map_map]
  exact congrArg (fun f => Option.map f u.lane.faceRec) (funext (u.working_flag_tote m))

theorem Presents.parkTote : t.lane.parkRec.map LaneRec.tote = u.lane.parkRec.map LaneRec.tote := by
  rw [h.lane]
  simp only [Lane.mapRecs, Option.map_map]
  exact congrArg (fun f => Option.map f u.lane.parkRec) (funext (u.working_flag_tote m))

theorem Presents.queueTotes : t.lane.queue.map LaneRec.tote = u.lane.queue.map LaneRec.tote := by
  rw [h.lane]
  simp only [Lane.mapRecs, List.map_map]
  exact List.map_congr_left fun r _ => u.working_flag_tote m r

end

/-! ### The arrival (R113) -/

/-- The lane as the arrival finds it: the face sensor blocked, the record at the face, no arrival wait. -/
def State.arrived (s : State) (q : LaneRec) : State :=
  (s.sensorLevel .face true).withLane
    { (s.sensorLevel .face true).lane with
      faceRec := some { q with stage := .face, savedTag := none }
      waits := { s.lane.waits with arrival := none } }

def State.presented (s : State) (q : LaneRec) : State :=
  (s.arrived q).withLane { (s.arrived q).lane with face := .presenting }

section
variable {s : State} {q : LaneRec}

theorem exec_faceArrived (configured : s.mode ≠ .unconfigured) (face : s.lane.face = .arriving)
    (record : s.lane.faceRec = some q) :
    exec .faceArrived s = .next ((s.sensorLevel .face true).arrive q).settleLane := by
  refine (State.fieldEvent_next configured .face true _).trans ?_
  have face : (s.sensorLevel .face true).lane.face = .arriving := face
  have record : (s.sensorLevel .face true).lane.faceRec = some q := record
  rw [face, record]

theorem State.arrive_of_released (h : s.releasesOnArrival q = true) :
    (s.sensorLevel .face true).arrive q = (s.arrived q).beginRelease := if_pos h

theorem State.arrive_of_queue (h : s.releasesOnArrival q = false) (source : q.source = .queue) :
    (s.sensorLevel .face true).arrive q =
      if (s.presented q).preemptCheck.lane.face = .parking then (s.presented q).preemptCheck
      else (s.presented q).preemptCheck.requestLine := by
  refine (if_neg (Bool.eq_false_iff.mp h)).trans ?_
  split
  · rfl
  · rename_i park
    cases source.symm.trans park

theorem State.arrive_of_park (h : s.releasesOnArrival q = false) (source : q.source = .park) :
    (s.sensorLevel .face true).arrive q = (s.presented q).requestLine := by
  refine (if_neg (Bool.eq_false_iff.mp h)).trans ?_
  split
  · rename_i queue
    cases source.symm.trans queue
  · rfl

/-- With no preemption to make, the tote is presented from the queue as from the park. -/
theorem State.arrive_of_unwanted (h : s.releasesOnArrival q = false)
    (calm : (s.presented q).preemptWanted = false) :
    (s.sensorLevel .face true).arrive q = (s.presented q).requestLine := by
  cases source : q.source with
  | queue =>
    rw [State.arrive_of_queue h source, State.preemptCheck_of_unwanted calm]
    exact if_neg (by simp [State.presented, State.withLane])
  | park => exact State.arrive_of_park h source

/-- R113: which totes are released without presenting. -/
theorem releasesOnArrival_iff : s.releasesOnArrival q = true ↔
    q.tote = 0 ∨ laneStanding s.conf s.clock q = some .breached ∨ s.mode = .sweeping ∨
      s.mode = .draining ∧ (∀ l ∈ s.demand.lines, l.tote = q.tote → l.state ≠ .suspended) ∨
      s.mode = .active ∧ (∀ l ∈ s.demand.lines, l.tote = q.tote → l.state ≠ .suspended) ∧
        hasWorkable s.demand.lines s.puts q.tote = false := by
  have none : (suspendedOf s.demand.lines q.tote).isNone = true ↔
      ∀ l ∈ s.demand.lines, l.tote = q.tote → l.state ≠ .suspended := by
    rw [Option.isNone_iff_eq_none, suspendedOf, List.find?_eq_none]
    exact forall₂_congr fun l _ => by simp; tauto
  simp only [State.releasesOnArrival, Bool.or_eq_true, Bool.and_eq_true, beq_iff_eq, none,
    Bool.not_eq_true', or_assoc, and_assoc]

/-- A tote that is released on its arrival (R113, R118). -/
theorem arrived_released {t : State} (free : s.lane.jam = none)
    (ht : t = (s.arrived q).beginRelease.settleLane) :
    SameExcept settleBlocks s t ∧ t.lane.face = (if s.lane.gap = true then .leaving else .releasing) ∧
      (∃ p, t.lane.faceRec = some p ∧ p.tote = q.tote ∧ p.stage = .face ∧ p.mergeWait = 0 ∧
        p.stallMark = false) ∧
      t.lane.waits.arrival = none ∧ t.lane.queue = s.lane.queue ∧
      t.lane.parkRec = s.lane.parkRec := by
  subst ht
  have arrived : SameExcept [.lane] s (s.arrived q) := by
    simp [SameExcept, State.arrived, State.withLane, State.sensorLevel]
  have lane := (s.arrived q).beginRelease.settleLane_endedAs
  rw [EndedAs, State.beginRelease_lane] at lane
  refine ⟨(arrived.trans (State.beginRelease_frame _)).step (State.settleLane_frame _) (by simp [settleBlocks])
    (by simp [settleBlocks]), ?_, ⟨{ q with stage := .face, savedTag := none, mergeWait := 0, stallMark := false },
      by rw [lane]; rfl, rfl, rfl, rfl, rfl⟩, ?_, ?_, ?_⟩
  · rw [lane]
    show (if s.lane.gap = true ∧ s.lane.jam = none then FaceState.leaving else .releasing) = _
    simp [free]
  · rw [lane]
    show (if s.lane.gap = true ∧ s.lane.jam = none then _ else _ : Waits).arrival = none
    split <;> rfl
  · rw [lane]
    rfl
  · rw [lane]
    rfl

end


section
variable {s : State} {q : LaneRec}

theorem State.presented_frame : SameExcept [.lane] s (s.presented q) := by
  simp [SameExcept, State.presented, State.arrived, State.withLane, State.sensorLevel]

/-- A tote presented without a preemption, whatever it comes from (R113, R131). -/
theorem arrived_presents {l : Line} (h : s.releasesOnArrival q = false)
    (calm : (s.presented q).preemptWanted = false)
    (work : lineToWork s.demand.lines s.puts q.tote = some l)
    (steady : s.mode ≠ .active ∨ s.lane.headUrgent = true ∨
      ∀ r ∈ s.lane.queue.head?, r.tote ≠ q.tote) :
    Presents (s.presented q) l ((s.sensorLevel .face true).arrive q).settleLane := by
  rw [State.arrive_of_unwanted h calm]
  exact State.requestLine_presents (u := s.presented q)
    (q := { q with stage := .face, savedTag := none }) rfl rfl work steady

theorem answered_of_suspended {l : Line}
    (find : s.demand.lines.find? (fun m => decide (m.state = .suspended ∧ m.tote = q.tote)) = some l) :
    lineToWork s.demand.lines s.puts q.tote = some l := by
  rw [lineToWork_eq_answered, Answered, find]
  rfl

theorem answered_of_workable {l : Line}
    (none : ∀ m ∈ s.demand.lines, m.tote = q.tote → m.state ≠ .suspended)
    (find : s.demand.lines.find? (fun m => decide (m.tote = q.tote) && isWorkable s.puts m) = some l) :
    lineToWork s.demand.lines s.puts q.tote = some l := by
  have first : s.demand.lines.find? (fun m => decide (m.state = .suspended ∧ m.tote = q.tote)) =
      Option.none := by
    rw [List.find?_eq_none]
    intro m hm h
    obtain ⟨state, tote⟩ := of_decide_eq_true h
    exact none m hm tote state
  rw [lineToWork_eq_answered, Answered, first, find]
  rfl

/-- A tote with a line to work is not released in ACTIVE (R113). -/
theorem not_released_of_work (active : s.mode = .active) (stock : q.tote ≠ 0)
    (fresh : laneStanding s.conf s.clock q ≠ some .breached)
    (work : (∃ l ∈ s.demand.lines, l.tote = q.tote ∧ l.state = .suspended) ∨
      hasWorkable s.demand.lines s.puts q.tote = true) : s.releasesOnArrival q = false := by
  refine Bool.eq_false_iff.mpr fun h => ?_
  rcases releasesOnArrival_iff.mp h with h | h | h | ⟨h, -⟩ | ⟨-, none, idle⟩
  · exact stock h
  · exact fresh h
  · cases active.symm.trans h
  · cases active.symm.trans h
  · rcases work with ⟨l, hl, tote, state⟩ | work
    · exact none l hl tote state
    · cases work.symm.trans idle

end

/-- Settles O50: released, parked at once, or presented. -/
theorem faceArrived : Obligations.FaceArrived := by
  unfold Obligations.FaceArrived
  intro s q active free _ face record
  have configured : s.mode ≠ .unconfigured := by rw [active]; decide
  have run := exec_faceArrived configured face record
  refine ⟨fun idle => ?_, fun stock fresh work urgent calm source park dark => ?_,
    fun l calm stock fresh _ answered dark others => ?_⟩
  · have released : s.releasesOnArrival q = true := releasesOnArrival_iff.mpr <| by
      rcases idle with h | h | ⟨none, h⟩
      · exact .inl h
      · exact .inr (.inl h)
      · exact .inr (.inr (.inr (.inr ⟨active, none, h⟩)))
    rw [State.arrive_of_released released] at run
    obtain ⟨frame, faceT, recordT, arrival, queue, -⟩ := arrived_released (q := q) free rfl
    exact ⟨_, run, frame, faceT, recordT, arrival, queue⟩
  · have stays := not_released_of_work active stock fresh work
    have wanted : (s.presented q).preemptWanted = true :=
      State.preemptWanted_iff.mpr ⟨active, free, urgent, rfl, _, rfl, calm⟩
    have parks := (State.preemptCheck_of_parkFree wanted (by exact park)).trans
      (State.parkFace_of_no_active (s := s.presented q) rfl (NoneActive.activeLine (s := s) dark))
    rw [State.arrive_of_queue stays source, parks, if_pos (by rfl)] at run
    refine ⟨_, run, ((State.presented_frame.trans (State.withLane_frame _ _)).step
      (State.settleLane_frame _) (by simp [settleBlocks]) (by simp [settleBlocks])), ?_⟩
    rw [State.settleLane_lane_eq]
    refine ⟨rfl, rfl, rfl, rfl, rfl, rfl, ?_⟩
    simp [drivesOf, State.withLane, State.presented, State.arrived, State.sensorLevel, free]
  · have stays : s.releasesOnArrival q = false := by
      refine not_released_of_work active stock fresh ?_
      rcases answered with h | ⟨-, h⟩
      · have found := List.find?_some h
        simp only [decide_eq_true_eq] at found
        exact .inl ⟨l, List.mem_of_find?_eq_some h, found.2, found.1⟩
      · have found := List.find?_some h
        simp only [Bool.and_eq_true, decide_eq_true_eq] at found
        refine .inr (hasWorkable_iff.mpr ⟨l, List.mem_of_find?_eq_some h, found.1, ?_⟩)
        simpa [isWorkable] using found.2
    have work : lineToWork s.demand.lines s.puts q.tote = some l := by
      rcases answered with h | ⟨none, h⟩
      · exact answered_of_suspended h
      · exact answered_of_workable none h
    have unwanted : (s.presented q).preemptWanted = false := Bool.eq_false_iff.mpr fun h => by
      obtain ⟨-, -, urgent, -⟩ := State.preemptWanted_iff.mp h
      cases (show s.lane.headUrgent = true from urgent).symm.trans calm
    have presents := arrived_presents stays unwanted work (.inr (.inr fun r hr =>
      others r (List.mem_of_mem_head? hr)))
    exact ⟨_, run, exec_next_frame run, presents.face, presents.faceTote, presents.lines,
      congrArg Waits.arrival presents.waits, presents.drives, congrArg Picker.active presents.picker,
      congrArg Picker.putLight presents.picker, congrArg Picker.toteLight presents.picker,
      congrArg Picker.display presents.picker, (congrArg Picker.settles presents.picker :),
      (congrArg Picker.beams presents.picker :)⟩


/-! ### The refused park (R115) -/

theorem RaisedFor.sourceRaised {n : NoticeSource} {d : BitVec 32} {s t : State}
    (h : RaisedFor n [d] s t) : SourceRaised n d s t := h

/-- The lane after the check of an urgent head with the park taken: the head marked, once noticed. -/
theorem State.refused_facts {u : State} (wanted : u.preemptWanted = true)
    (park : u.lane.parkRec ≠ none) {h : LaneRec} {rest : List LaneRec}
    (queue : u.lane.queue = h :: rest) :
    SameExcept [.lane, .notices] u u.preemptCheck ∧
      u.preemptCheck.lane = { u.lane with queue := { h with refusalMark := true } :: rest } ∧
      (h.refusalMark = false → SourceRaised .parkRefused h.tote u u.preemptCheck) ∧
      (h.refusalMark = true → u.preemptCheck = u) := by
  rw [State.preemptCheck_of_parkTaken wanted park queue]
  cases mark : h.refusalMark with
  | true =>
    refine ⟨.refl _ _, ?_, fun k => (by cases k), fun _ => rfl⟩
    have same : { h with refusalMark := true } = h := by rw [← mark]
    rw [same, ← queue]
    rfl
  | false =>
    have raised := State.raise_frame
      (u.withLane { u.lane with queue := { h with refusalMark := true } :: rest }) .parkRefused h.tote
    refine ⟨(u.withLane_frame _).step raised (by simp) (by simp), raised.lane_eq (by simp),
      fun _ => ?_, fun k => (by cases k)⟩
    exact (State.raise_for _ _ _).sourceRaised

/-- What a notice of one source says of it, kept by work that raises others. -/
theorem SourceRaised.later {n : NoticeSource} {d : BitVec 32} {ns : List NoticeSource} {s t u : State}
    (h : SourceRaised n d s t) (k : RaisesOnly ns t u) (hn : n ∉ ns) : SourceRaised n d s u :=
  ((k n).1 hn).trans h

theorem SourceRaised.pending {n : NoticeSource} {d : BitVec 32} {s t : State}
    (h : SourceRaised n d s t) :
    t.notices.sources[n.index].pending = true ∧
      (s.notices.sources[n.index].pending = false →
        t.notices.sources[n.index].count = 1 ∧ t.notices.sources[n.index].detail = d) := by
  unfold SourceRaised at h
  rw [h]
  split
  · exact ⟨by assumption, fun calm => by simp_all⟩
  · exact ⟨rfl, fun _ => ⟨rfl, rfl⟩⟩


/-! ### Arrivals in the other modes, and with the park taken (R113, R115) -/

/-- A tote arrives while the park is taken: the first three parts of O51. -/
theorem arrivals {s : State} {q : LaneRec} (free : s.lane.jam = none)
    (face : s.lane.face = .arriving) (record : s.lane.faceRec = some q) :
    (s.mode = .sweeping ∨ s.mode = .draining ∧
        (q.tote = 0 ∨ laneStanding s.conf s.clock q = some .breached ∨
          ∀ l ∈ s.demand.lines, l.tote = q.tote → l.state ≠ .suspended) →
      ∃ t, exec .faceArrived s = .next t ∧ SameExcept settleBlocks s t ∧
        t.lane.face = (if s.lane.gap = true then .leaving else .releasing) ∧
        (∃ p, t.lane.faceRec = some p ∧ p.tote = q.tote ∧ p.stage = .face ∧ p.mergeWait = 0 ∧
          p.stallMark = false) ∧
        t.lane.waits.arrival = none ∧ t.lane.queue = s.lane.queue ∧
        t.lane.parkRec = s.lane.parkRec) ∧
    (∀ l, s.mode = .draining → q.tote ≠ 0 →
      laneStanding s.conf s.clock q ≠ some .breached → LinesLaw s →
      s.demand.lines.find? (fun m => decide (m.state = .suspended ∧ m.tote = q.tote)) = some l →
      (∀ m ∈ s.demand.lines, m.state ≠ .active) →
      ∃ t, exec .faceArrived s = .next t ∧ SameExcept (commandBlocks .faceArrived) s t ∧
        t.lane.face = .presenting ∧ t.lane.faceRec.map LaneRec.tote = some q.tote ∧
        t.demand.lines =
          s.demand.lines.map (fun m => if m.tag = l.tag then { m with state := .active } else m) ∧
        t.picker.active = positionOf s.puts l.handle ∧ t.picker.toteLight = true ∧
        t.picker.display = some (l.qty - l.puts)) ∧
    (∀ h rest p, s.mode = .active → s.lane.queue = h :: rest → h.urgent = true →
      q.urgent = false → q.source = .queue → s.lane.parkRec = some p → q.tote ≠ 0 →
      laneStanding s.conf s.clock q ≠ some .breached →
      hasWorkable s.demand.lines s.puts q.tote = true →
      (∀ m ∈ s.demand.lines, m.state ≠ .active) →
      ∃ t, exec .faceArrived s = .next t ∧ SameExcept (commandBlocks .faceArrived) s t ∧
        t.lane.face = .presenting ∧ t.lane.faceRec.map LaneRec.tote = some q.tote ∧
        t.lane.parkRec.map LaneRec.tote = some p.tote ∧
        t.lane.queue.map LaneRec.tote = s.lane.queue.map LaneRec.tote ∧
        t.lane.queue.head?.map LaneRec.refusalMark = some true ∧
        (h.refusalMark = false →
          t.notices.sources[NoticeSource.parkRefused.index].pending = true ∧
          (s.notices.sources[NoticeSource.parkRefused.index].pending = false →
            t.notices.sources[NoticeSource.parkRefused.index].count = 1 ∧
            t.notices.sources[NoticeSource.parkRefused.index].detail = h.tote)) ∧
        (h.refusalMark = true →
          t.notices.sources[NoticeSource.parkRefused.index] =
            s.notices.sources[NoticeSource.parkRefused.index])) := by
  refine ⟨fun idle => ?_, fun l draining stock fresh _ find dark => ?_,
    fun h rest p active queue urgent calm source park stock fresh workable dark => ?_⟩
  · have configured : s.mode ≠ .unconfigured := by
      rcases idle with h | ⟨h, -⟩ <;> rw [h] <;> decide
    have released : s.releasesOnArrival q = true := releasesOnArrival_iff.mpr <| by
      rcases idle with h | ⟨h, k | k | k⟩
      · exact .inr (.inr (.inl h))
      · exact .inl k
      · exact .inr (.inl k)
      · exact .inr (.inr (.inr (.inl ⟨h, k⟩)))
    have run := exec_faceArrived configured face record
    rw [State.arrive_of_released released] at run
    exact ⟨_, run, arrived_released (q := q) free rfl⟩
  · have configured : s.mode ≠ .unconfigured := by rw [draining]; decide
    have found := List.find?_some find
    simp only [decide_eq_true_eq] at found
    have stays : s.releasesOnArrival q = false := Bool.eq_false_iff.mpr fun h => by
      rcases releasesOnArrival_iff.mp h with h | h | h | ⟨-, none⟩ | ⟨h, -⟩
      · exact stock h
      · exact fresh h
      · cases draining.symm.trans h
      · exact none l (List.mem_of_find?_eq_some find) found.2 found.1
      · cases draining.symm.trans h
    have calm : s.mode ≠ .active := by rw [draining]; decide
    have unwanted : (s.presented q).preemptWanted = false :=
      Bool.eq_false_iff.mpr fun h => calm (State.preemptWanted_iff.mp h).1
    have presents := arrived_presents stays unwanted (answered_of_suspended find) (.inl calm)
    have run := exec_faceArrived configured face record
    exact ⟨_, run, exec_next_frame run, presents.face, presents.faceTote, presents.lines,
      congrArg Picker.active presents.picker, congrArg Picker.toteLight presents.picker,
      congrArg Picker.display presents.picker⟩
  · have configured : s.mode ≠ .unconfigured := by rw [active]; decide
    have stays := not_released_of_work active stock fresh (.inr workable)
    have head : s.lane.headUrgent = true := by simp [Lane.headUrgent, queue, urgent]
    have wanted : (s.presented q).preemptWanted = true :=
      State.preemptWanted_iff.mpr ⟨active, free, head, rfl, _, rfl, calm⟩
    obtain ⟨frame, lane, raised, kept⟩ := State.refused_facts (u := s.presented q) (h := h)
      (rest := rest) wanted (by rw [show (s.presented q).lane.parkRec = some p from park]; simp)
      (by exact queue)
    have demand : (s.presented q).preemptCheck.demand = s.demand := frame.demand_eq (by simp)
    have puts : (s.presented q).preemptCheck.puts = s.puts := frame.puts_eq (by simp)

    have run := exec_faceArrived configured face record
    rw [State.arrive_of_queue stays source] at run
    generalize (s.presented q).preemptCheck = u at *
    have faceU : u.lane.face = .presenting := by
      rw [lane]
      rfl
    rw [if_neg (by rw [faceU]; decide)] at run
    obtain ⟨m, work⟩ : ∃ m, lineToWork u.demand.lines u.puts q.tote = some m := by
      rw [demand, puts]
      unfold lineToWork
      split
      · exact ⟨_, rfl⟩
      · obtain ⟨l, hl, tote, state, placed⟩ := hasWorkable_iff.mp workable
        refine Option.ne_none_iff_exists'.mp fun none => ?_
        have mem : l ∈ workableOf s.demand.lines s.puts q.tote := by
          simp [workableOf, isWorkable, hl, tote, state, placed]
        rw [List.head?_eq_none_iff.mp none] at mem
        exact absurd mem (by simp)
    have presents := State.requestLine_presents (u := u)
      (q := { q with stage := .face, savedTag := none }) faceU (by rw [lane]; rfl) work
      (.inr (.inl (by rw [lane]; simp [Lane.headUrgent, urgent])))
    refine ⟨_, run, exec_next_frame run, presents.face.trans faceU, ?_, ?_, ?_, ?_, fun mark => ?_,
      fun mark => ?_⟩
    · rw [presents.faceTote, lane]
      rfl
    · rw [presents.parkTote, lane]
      exact congrArg (Option.map LaneRec.tote) park
    · rw [presents.queueTotes, lane, queue]
      rfl
    · rw [presents.lane, lane]
      simp only [Lane.mapRecs, List.map_cons, List.head?_cons, Option.map_some]
      split <;> rfl
    · exact ((raised mark).later presents.raises (by simp)).pending
    · have source := (presents.raises .parkRefused).1 (by simp)
      exact source.trans (by rw [kept mark]; rfl)


/-! ### A presented tote parked for an urgent one (R115, R116) -/

/-- The ACTIVE line SUSPENDED, its lights off, and the face record in the park (R27, R116, R132). -/
theorem State.parkFace_facts {u : State} {q : LaneRec} {l : Line} (record : u.lane.faceRec = some q)
    (found : activeLine u.demand.lines = some l) :
    u.parkFace.lane = { u.lane with
        faceRec := none, parkRec := some { q with stage := .park, savedTag := some l.tag },
        face := .parking, waits := { u.lane.waits with park := some 0 } } ∧
      u.parkFace.demand.lines =
        u.demand.lines.map (fun m => if m.tag = l.tag then { m with state := .suspended } else m) ∧
      u.parkFace.picker = (u.setLineState l.tag .suspended).leaveActive.picker := by
  unfold State.parkFace
  rw [record]
  dsimp only
  rw [found]
  exact ⟨rfl, rfl, rfl⟩

/-- The Cold Monitor's working at an entry leaves the lines and the picker where no breach is due. -/
theorem State.worked_calm {s : State} {d : DivertRec} {rest : List DivertRec}
    (absent : ∀ p ∈ laneRecords s, p.tote ≠ d.tote)
    (calm : breachesNow s.conf s.clock (s.newRecord d) = false) :
    SameExcept [.lane, .divert, .bus, .notices] s (s.worked d rest) := by
  have due := (State.held_due absent (rest := rest)).2.trans calm
  rw [State.worked, State.coldWork_of_not_due due]
  exact State.held_frame.step (State.coldAlertWork_frame _ _) (by simp) (by simp)

/-- Settles O51. -/
theorem arrivalsAndPreemption : Obligations.ArrivalsAndPreemption := by
  unfold Obligations.ArrivalsAndPreemption
  refine ⟨fun s q free face record => arrivals free face record, ?_⟩
  intro s q l d p rest active free face record calm empty park law present own hl lineActive records
    entry known cold _ left margin
  have configured : s.mode ≠ .unconfigured := by rw [active]; decide
  have stock : d.tote ≠ 0 := own.2.1 d (by simp [records])
  have absent := own.divert_absent records
  have run := exec_entrySeen_divert configured records
  have cls : (s.newRecord d).cls = p.cls := (divertClass_spec s d).1 p entry known
  have ref : (s.newRecord d).cold = p.cold := by
    show divertCold d = _
    rw [divertCold, entry]
    rfl
  have fresh : breachesNow s.conf s.clock (s.newRecord d) = false :=
    Bool.eq_false_iff.mpr fun h => by
      have used := ((breachesNow_newRecord_iff stock).mp h).2
      rw [cls, ref] at used
      omega
  have urgent : (s.newRecord d).urgent = true :=
    (newRecord_urgent_iff stock).mpr (.inl (by rw [cls, ref]; exact ⟨cold, margin⟩))
  have frame := State.worked_calm absent (rest := rest) fresh
  have lane := State.worked_lane absent (rest := rest)
  rw [State.held_coldMark absent, empty] at lane
  generalize s.worked d rest = v at *
  have modeV : v.mode = s.mode := frame.mode_eq (by simp)
  have demandV : v.demand = s.demand := frame.demand_eq (by simp)
  have pickerV : v.picker = s.picker := frame.picker_eq (by simp)
  have found : activeLine v.demand.lines = some l := by
    rw [demandV]
    exact activeLine_of_unique hl lineActive fun m hm state => present.2.2.1 m hm l hl state lineActive
  have faceV : v.lane.face = .presenting := by
    rw [lane]
    exact face
  have recordV : v.lane.faceRec = some q := by
    rw [lane]
    exact record
  have freeV : v.lane.jam = none := by
    rw [lane]
    exact free
  have headV : v.lane.headUrgent = true := by
    rw [lane]
    exact urgent
  have check : v.newHeadCheck = v.headTurnedUrgent := if_pos ⟨by rw [lane]; rfl, headV⟩
  by_cases puts : l.puts = 0
  · have parks := check.trans (State.headTurnedUrgent_of_no_put (modeV.trans active) freeV headV faceV
      recordV calm (by rw [lane]; exact park) found puts)
    obtain ⟨laneP, linesP, pickerP⟩ := State.parkFace_facts recordV found
    rw [parks, State.fill_of_busy (.inl (by rw [laneP]; exact FaceState.noConfusion))] at run
    have ended := v.parkFace.settleLane_endedAs
    rw [EndedAs, laneP] at ended
    have settle := v.parkFace.settleLane_frame
    have linesT : v.parkFace.settleLane.demand.lines = s.demand.lines.map fun m =>
        if m.tag = l.tag then { m with state := .suspended } else m := by
      rw [settle.demand_eq (by simp), linesP, demandV]
    have pickerT : v.parkFace.settleLane.picker =
        (v.setLineState l.tag .suspended).leaveActive.picker := by
      rw [settle.picker_eq (by simp), pickerP]
    have conf : v.conf = s.conf := by
      rw [State.conf, frame.cfg_eq (by simp)]
      rfl
    refine ⟨_, run, exec_next_frame run, ?_, ?_, fun _ => ?_, fun h => absurd puts h⟩
    · rw [ended, lane]
      rfl
    · rw [ended, lane]
      exact urgent
    · rw [pickerT, linesT, ended]
      refine ⟨rfl, rfl, rfl, rfl, ?_, List.mem_map.mpr ⟨l, hl, if_pos rfl⟩, fun m hm => ?_, rfl, rfl,
        rfl, rfl, fun k lit => ?_⟩
      · simp [drivesOf, freeV]
      · obtain ⟨n, hn, rfl⟩ := List.mem_map.mp hm
        split
        · simp
        · rename_i other
          exact fun state => other (congrArg Line.tag (present.2.2.1 n hn l hl state lineActive))
      · rw [← conf]
        exact State.leaveActive_settles (s := v.setLineState l.tag .suspended)
          ((congrArg Picker.active pickerV).trans lit)
  · have stays := check.trans (State.headTurnedUrgent_of_puts found puts)
    rw [stays, State.fill_of_busy (.inl (by rw [faceV]; decide))] at run
    have ended := v.settleLane_endedAs
    have settle := v.settleLane_frame
    refine ⟨_, run, exec_next_frame run, ?_, ?_, fun h => absurd h puts, fun _ => ?_⟩
    · rw [ended, lane]
      rfl
    · rw [ended, lane]
      exact urgent
    · rw [settle.demand_eq (by simp), settle.picker_eq (by simp), demandV, pickerV, ended]
      exact ⟨faceV, recordV, rfl, rfl⟩

end Sys2Proof.Machine
end

section
/-! PROOFS. What a line boundary keeps in every state (R34, R135): the closed lines, the settles and the
beams, and the order's re-evaluation. -/

namespace Sys2Proof.Machine

/-! ### What the work at the face keeps -/

/-- From `u` to `v` lines changed nothing but their states, closed lines nothing at all, no settle that runs in
full ended, and the beams are the same. -/
structure PickKept (u v : State) : Prop where
  facts : lineFacts v.demand.lines = lineFacts u.demand.lines
  closed : (u.demand.lines.map Line.tag).Nodup →
    ∀ n ∈ u.demand.lines, n.state.isOpen = false → n ∈ v.demand.lines
  conf : v.conf = u.conf
  settles : ∀ k : PutIdx, u.picker.settles[k] = some u.conf.settle →
    v.picker.settles[k] = some u.conf.settle
  beams : v.picker.beams = u.picker.beams

theorem lineFacts_tags (ls : List Line) : (lineFacts ls).map Line.tag = ls.map Line.tag := by
  simp [lineFacts, Function.comp_def]

section
variable {u v w : State}

theorem PickKept.refl (u : State) : PickKept u u := ⟨rfl, fun _ _ h _ => h, rfl, fun _ h => h, rfl⟩

theorem PickKept.tags (h : PickKept u v) :
    v.demand.lines.map Line.tag = u.demand.lines.map Line.tag := by
  rw [← lineFacts_tags, h.facts, lineFacts_tags]

theorem PickKept.trans (h : PickKept u v) (k : PickKept v w) : PickKept u w where
  facts := k.facts.trans h.facts
  closed nodup n hn closed := k.closed (by rwa [h.tags]) n (h.closed nodup n hn closed) closed
  conf := k.conf.trans h.conf
  settles j hj := by
    have settled := k.settles j (by rw [h.conf]; exact h.settles j hj)
    rwa [h.conf] at settled
  beams := k.beams.trans h.beams

theorem PickKept.of_eq (lines : v.demand.lines = u.demand.lines) (cfg : v.cfg = u.cfg)
    (settles : v.picker.settles = u.picker.settles) (beams : v.picker.beams = u.picker.beams) :
    PickKept u v where
  facts := by rw [lines]
  closed _ _ hn _ := lines ▸ hn
  conf := congrArg (fun c => c.getD Record.unset) cfg
  settles k hk := by rwa [settles]
  beams := beams

theorem SameExcept.pickKept {bs : List Block} (h : SameExcept bs u v) (demand : Block.demand ∉ bs)
    (cfg : Block.cfg ∉ bs) (picker : Block.picker ∉ bs) : PickKept u v :=
  .of_eq (congrArg Demand.lines (h.demand_eq demand)) (h.cfg_eq cfg)
    (congrArg Picker.settles (h.picker_eq picker)) (congrArg Picker.beams (h.picker_eq picker))

theorem State.deriveWant_pickKept (u : State) (T : ToteNo) : PickKept u (u.deriveWant T) := by
  have frame := u.deriveWant_frame T
  exact .of_eq (u.deriveWant_lines T) (frame.cfg_eq (by simp))
    (congrArg Picker.settles (frame.picker_eq (by simp)))
    (congrArg Picker.beams (frame.picker_eq (by simp)))

/-- A line's change of state keeps the closed lines where the line itself is open. -/
theorem State.setLineState_pickKept {m : Line} (hm : m ∈ u.demand.lines)
    (isOpen : m.state.isOpen = true) (st : LineState) : PickKept u (u.setLineState m.tag st) where
  facts := u.setLineState_facts _ _
  closed nodup n hn closed := by
    refine List.mem_map.mpr ⟨n, hn, if_neg fun same => ?_⟩
    rw [eq_of_tag_eq nodup hn hm same, isOpen] at closed
    cases closed
  conf := rfl
  settles _ h := h
  beams := rfl

theorem State.leaveActive_pickKept (u : State) : PickKept u u.leaveActive where
  facts := rfl
  closed _ _ hn _ := hn
  conf := rfl
  settles k hk := by
    cases lit : u.picker.active with
    | none =>
      unfold State.leaveActive
      rw [lit]
      exact hk
    | some j =>
      rw [State.leaveActive_picker lit]
      simp only [Fin.getElem_fin, Vector.getElem_set]
      split
      · rfl
      · exact hk
  beams := rfl

theorem State.parkFace_pickKept (u : State) : PickKept u u.parkFace := by
  cases record : u.lane.faceRec with
  | none =>
    have same : u.parkFace = u := by
      unfold State.parkFace
      rw [record]
    rw [same]
    exact .refl _
  | some q =>
    cases found : activeLine u.demand.lines with
    | none =>
      rw [State.parkFace_of_no_active record found]
      exact (u.withLane_frame _).pickKept (by simp) (by simp) (by simp)
    | some l =>
      obtain ⟨hl, active⟩ := activeLine_mem found
      obtain ⟨-, lines, picker⟩ := State.parkFace_facts record found
      have suspended := (State.setLineState_pickKept hl (by rw [active]; rfl) .suspended).trans
        (State.leaveActive_pickKept _)
      refine suspended.trans (.of_eq lines ?_ (congrArg Picker.settles picker)
        (congrArg Picker.beams picker))
      exact u.parkFace_frame.cfg_eq (by simp)

theorem State.preemptCheck_pickKept (u : State) : PickKept u u.preemptCheck := by
  cases wanted : u.preemptWanted with
  | false =>
    rw [State.preemptCheck_of_unwanted wanted]
    exact .refl _
  | true =>
    by_cases park : u.lane.parkRec = none
    · rw [State.preemptCheck_of_parkFree wanted park]
      exact u.parkFace_pickKept
    · cases queue : u.lane.queue with
      | nil =>
        obtain ⟨-, -, urgent, -⟩ := State.preemptWanted_iff.mp wanted
        rw [Lane.headUrgent, queue] at urgent
        cases urgent
      | cons h rest =>
        obtain ⟨frame, -⟩ := State.refused_facts wanted park queue
        exact frame.pickKept (by simp) (by simp) (by simp)

theorem State.reurgent_pickKept (u : State) (p : ToteNo → Bool) : PickKept u (u.reurgent p) := by
  have flags := (u.flaggedWhere_frame p).pickKept (by simp) (by simp) (by simp)
  rw [State.reurgent_eq]
  split
  · unfold State.headTurnedUrgent
    split
    · exact flags.trans (State.preemptCheck_pickKept _)
    · exact flags
  · exact flags

theorem State.reready_pickKept (u : State) (h : Handle) : PickKept u (u.reready h) :=
  (u.reready_frame h).pickKept (by simp) (by simp) (by simp)

theorem State.working_pickKept {m : Line} (hm : m ∈ u.demand.lines) (isOpen : m.state.isOpen = true) :
    PickKept u (u.working m) := by
  have lit : PickKept (u.setLineState m.tag .active) ((u.setLineState m.tag .active).light m) :=
    .of_eq rfl rfl rfl rfl
  exact ((State.setLineState_pickKept hm isOpen .active).trans lit).trans
    (State.deriveWant_pickKept _ _)

theorem State.requestLine_pickKept (u : State) : PickKept u u.requestLine := by
  unfold State.requestLine
  split
  · exact .refl _
  · split
    · exact u.beginRelease_frame.pickKept (by simp) (by simp) (by simp)
    · rename_i work
      obtain ⟨hm, -, state⟩ := lineToWork_mem work
      refine (State.working_pickKept hm ?_).trans (State.reurgent_pickKept _ _)
      rcases state with h | h
      · rw [h]
        rfl
      · rw [((isWorkable_iff _ _).mp h).1]
        rfl

theorem State.lineBoundary_pickKept (u : State) (l : Line) : PickKept u (u.lineBoundary l) := by
  have before := (u.reurgent_pickKept (· == l.tote)).trans (State.reready_pickKept _ l.handle)
  unfold State.lineBoundary
  dsimp only
  split
  · split
    · exact before.trans ((State.beginRelease_frame _).pickKept (by simp) (by simp) (by simp))
    · split
      · exact before.trans (State.preemptCheck_pickKept _)
      · exact (before.trans (State.preemptCheck_pickKept _)).trans (State.requestLine_pickKept _)
  · exact before

theorem State.settleLane_pickKept (u : State) : PickKept u u.settleLane :=
  u.settleLane_frame.pickKept (by simp) (by simp) (by simp)

end


/-! ### The order's re-evaluation (R34) -/

/-- From `u` to `v` no order changed and ORDER_READY took no event. -/
def OrdersKept (u v : State) : Prop := v.puts = u.puts ∧ SourceKept .orderReady u v

section
variable {s t u v w : State}

theorem OrdersKept.refl (u : State) : OrdersKept u u := ⟨rfl, rfl⟩

theorem OrdersKept.trans (h : OrdersKept u v) (k : OrdersKept v w) : OrdersKept u w :=
  ⟨k.1.trans h.1, Eq.trans k.2 h.2⟩

theorem OrdersKept.of_raisesOnly {ns : List NoticeSource} (puts : v.puts = u.puts)
    (raises : RaisesOnly ns u v) (hn : .orderReady ∉ ns) : OrdersKept u v :=
  ⟨puts, (raises .orderReady).1 hn⟩

theorem SameExcept.ordersKept {bs : List Block} (h : SameExcept bs u v) (puts : Block.puts ∉ bs)
    (notices : Block.notices ∉ bs) : OrdersKept u v :=
  .of_raisesOnly (ns := []) (h.puts_eq puts) (h.raisesOnly notices) (by simp)

theorem State.reurgent_ordersKept (u : State) (p : ToteNo → Bool) : OrdersKept u (u.reurgent p) :=
  .of_raisesOnly ((u.reurgent_frame p).puts_eq (by simp)) (u.reurgent_raisesOnly p) (by simp)

theorem State.preemptCheck_ordersKept (u : State) : OrdersKept u u.preemptCheck :=
  .of_raisesOnly (u.preemptCheck_frame.puts_eq (by simp)) u.preemptCheck_raisesOnly (by simp)

theorem State.deriveWant_ordersKept (u : State) (T : ToteNo) : OrdersKept u (u.deriveWant T) :=
  .of_raisesOnly ((u.deriveWant_frame T).puts_eq (by simp)) (u.deriveWant_raisesOnly T) (by simp)

theorem State.settleLane_ordersKept (u : State) : OrdersKept u u.settleLane :=
  .of_raisesOnly (u.settleLane_frame.puts_eq (by simp)) u.settleLane_raisesOnly (by simp)

theorem State.requestLine_ordersKept (u : State) : OrdersKept u u.requestLine := by
  unfold State.requestLine
  split
  · exact .refl _
  · split
    · exact u.beginRelease_frame.ordersKept (by simp) (by simp)
    · rename_i m work
      have working : OrdersKept u (u.working m) :=
        .of_raisesOnly (State.working_frame.puts_eq (by simp)) State.working_raisesOnly (by simp)
      exact working.trans (State.reurgent_ordersKept _ _)

/-- What follows the re-evaluation at a line boundary leaves the orders alone. -/
theorem State.lineBoundary_ordersKept (u : State) (l : Line) :
    OrdersKept ((u.reurgent (· == l.tote)).reready l.handle) (u.lineBoundary l) := by
  unfold State.lineBoundary
  dsimp only
  split
  · split
    · exact (State.beginRelease_frame _).ordersKept (by simp) (by simp)
    · split
      · exact State.preemptCheck_ordersKept _
      · exact (State.preemptCheck_ordersKept _).trans (State.requestLine_ordersKept _)
  · exact .refl _

theorem ReadyFollows.of_reready {h : Handle} {k : PutIdx} {o : Order}
    (hk : positionOf u.puts h = some k) (ho : u.puts[k] = some o) :
    ReadyFollows k o (orderReady u.demand.lines h = true) u (u.reready h) := by
  have handle : o.handle = h := by
    obtain ⟨p, hp, same⟩ := positionOf_some hk
    rw [Option.some.inj (ho.symm.trans hp), same]
  unfold State.reready
  rw [hk]
  dsimp only
  rw [ho]
  dsimp only
  refine ⟨⟨orderReady u.demand.lines h, Iff.rfl, ?_⟩, fun now off => ?_, fun calm => ?_⟩
  · split
    · exact (State.raise_frame _ _ _).puts_eq (by simp)
    · rfl
  · rw [if_pos (by simp [now, off]), handle]
    exact (State.raise_for _ _ _).sourceRaised
  · rw [if_neg (by
      intro raises
      obtain ⟨now, off⟩ := Bool.and_eq_true_iff.mp raises
      rcases calm with h | h
      · exact h now
      · rw [h] at off
        cases off)]
    rfl

theorem ReadyFollows.between {k : PutIdx} {o : Order} {now : Prop} (before : OrdersKept s u)
    (h : ReadyFollows k o now u v) (after : OrdersKept v t) : ReadyFollows k o now s t := by
  obtain ⟨⟨ready, meaning, puts⟩, raised, kept⟩ := h
  refine ⟨⟨ready, meaning, ?_⟩, fun n off => ?_, fun calm => ?_⟩
  · rw [after.1, puts, before.1]
  · have raised := raised n off
    unfold SourceRaised at raised ⊢
    rw [after.2, raised, before.2]
  · exact (after.2.trans (kept calm)).trans before.2

theorem ReadyFollows.of_iff {k : PutIdx} {o : Order} {now cond : Prop} (h : ReadyFollows k o now s t)
    (same : now ↔ cond) : ReadyFollows k o cond s t := propext same ▸ h

end

/-- R34 for the order of a line that is closed in `ms` and stands as `ls` holds it otherwise. -/
theorem orderReady_iff_othersClosed {s : State} {l : Line} (hl : l ∈ s.demand.lines)
    {g : Line → Line} (handle : ∀ m ∈ s.demand.lines, (g m).handle = m.handle)
    (isOpen : ∀ m ∈ s.demand.lines, (g m).state.isOpen = (m.state.isOpen && m.tag != l.tag)) :
    orderReady (s.demand.lines.map g) l.handle = true ↔ OthersClosed s l.handle l.tag := by
  have same : ((s.demand.lines.map g).filter fun m => m.handle == l.handle) =
      (s.demand.lines.filter fun m => m.handle == l.handle).map g := by
    rw [List.filter_map]
    exact congrArg (List.map g) (List.filter_congr fun m hm => by simp [handle m hm])
  have some : ((s.demand.lines.filter fun m => m.handle == l.handle).map g).isEmpty = false := by
    rw [List.isEmpty_eq_false_iff_exists_mem]
    exact ⟨g l, List.mem_map_of_mem (List.mem_filter.mpr ⟨hl, by simp⟩)⟩
  unfold orderReady
  dsimp only
  rw [same, some, Bool.not_false, Bool.true_and, List.all_map, List.all_eq_true]
  simp only [List.mem_filter, beq_iff_eq, Function.comp, Bool.not_eq_true', and_imp]
  refine forall₃_congr fun m hm _ => ?_
  rw [isOpen m hm, Bool.and_eq_false_iff, LineState.isOpen_eq_false_iff]
  by_cases tag : m.tag = l.tag <;> simp [tag]

end Sys2Proof.Machine
end

section
/-! PROOFS. What follows the end of the ACTIVE line (R115, R135): the park, the refusal, the next line or the
release. -/

namespace Sys2Proof.Machine

/-! ### A line in a new state among the others -/

/-- The lines with `n` in place of the line of its tag. -/
def swapLine (n m : Line) : Line := if m.tag = n.tag then n else m

theorem swapLine_of_other {n m : Line} (h : m.tag ≠ n.tag) : swapLine n m = m := if_neg h

theorem swapLine_of_same {n m : Line} (h : m.tag = n.tag) : swapLine n m = n := if_pos h

/-- A search that looks past both the old line and the new one finds the same line. -/
theorem find?_swapLine {n : Line} {p q : Line → Bool} {ls : List Line} (same : ∀ m, q m = p m)
    (old : ∀ m ∈ ls, m.tag = n.tag → p m = false) (new : p n = false) :
    (ls.map (swapLine n)).find? q = ls.find? p := by
  rw [show q = p from funext same]
  induction ls with
  | nil => rfl
  | cons m ls ih =>
    have rest := ih fun x hx => old x (List.mem_cons_of_mem _ hx)
    rw [List.map_cons]
    by_cases tag : m.tag = n.tag
    · rw [swapLine_of_same tag, List.find?_cons_of_neg (by simp [new]), rest,
        List.find?_cons_of_neg (by simp [old m List.mem_cons_self tag])]
    · rw [swapLine_of_other tag]
      cases hp : p m with
      | true => rw [List.find?_cons_of_pos hp, List.find?_cons_of_pos hp]
      | false => rw [List.find?_cons_of_neg (by simp [hp]), List.find?_cons_of_neg (by simp [hp]), rest]

theorem setLineState_eq_swapLine {ls : List Line} (nodup : (ls.map Line.tag).Nodup) {l : Line}
    (hl : l ∈ ls) (st : LineState) :
    (ls.map fun m => if m.tag = l.tag then { m with state := st } else m) =
      ls.map (swapLine { l with state := st }) := by
  refine List.map_congr_left fun m hm => ?_
  unfold swapLine
  split
  · rename_i same
    rw [eq_of_tag_eq nodup hm hl same]
  · rfl

/-! ### The ended line -/

/-- In `u` the ACTIVE line `l` of `s` has ended as `n`, with the lights off (R132, R135). -/
structure LineEnded (l n : Line) (s u : State) : Prop where
  frame : SameExcept [.demand, .notices, .picker] s u
  lines : u.demand.lines = s.demand.lines.map (swapLine n)
  tag : n.tag = l.tag
  tote : n.tote = l.tote
  handle : n.handle = l.handle
  closed : n.state.isOpen = false
  dark : u.picker.isDark
  refused : SourceKept .parkRefused s u

/-- The state at which a line boundary asks for the next line or releases: the record `q` at the face with its
flag, and this queue behind it. -/
structure AtBoundary (n : Line) (q : LaneRec) (flag : Bool) (queue : List LaneRec) (s x : State) :
    Prop where
  frame : SameExcept [.demand, .notices, .picker, .lane, .puts] s x
  lines : x.demand.lines = s.demand.lines.map (swapLine n)
  dark : x.picker.isDark
  orders : SameOrders s.puts x.puts
  lane : x.lane = { s.lane with faceRec := some { q with urgent := flag }, queue := queue }
  flag : flag = true ↔ UrgentIn s q

section
variable {l n : Line} {s u : State} (ended : LineEnded l n s u) (law : LinesLaw s)
  (hl : l ∈ s.demand.lines) (active : l.state = .active)
include ended law hl active

omit active in
/-- A line of the ended line's tag is that line. -/
theorem LineEnded.eq_of_tag {m : Line} (hm : m ∈ s.demand.lines) (h : m.tag = n.tag) : m = l :=
  eq_of_tag_eq law.2.1 hm hl (h.trans ended.tag)

theorem LineEnded.waiting {m : Line} (state : m.state = .waiting) :
    m ∈ s.demand.lines.map (swapLine n) ↔ m ∈ s.demand.lines := by
  constructor
  · intro hm
    obtain ⟨r, hr, rfl⟩ := List.mem_map.mp hm
    by_cases tag : r.tag = n.tag
    · rw [swapLine_of_same tag] at state
      have closed := ended.closed
      rw [state] at closed
      cases closed
    · rw [swapLine_of_other tag]
      exact hr
  · intro hm
    refine List.mem_map.mpr ⟨m, hm, swapLine_of_other fun tag => ?_⟩
    rw [ended.eq_of_tag law hl hm tag, active] at state
    cases state

/-- The urgent test of a record reads the same lines and orders as before (R47). -/
theorem LineEnded.urgent {x : State} {q : LaneRec} (cfg : x.cfg = s.cfg) (clock : x.clock = s.clock)
    (orders : SameOrders s.puts x.puts) (lines : x.demand.lines = s.demand.lines.map (swapLine n)) :
    UrgentIn x q ↔ UrgentIn s q := by
  refine UrgentIn.congr cfg clock orders fun m _ state => ?_
  rw [lines]
  exact ended.waiting law hl active state

omit law in
theorem LineEnded.noneActive (present : PresentLaw s) {x : State}
    (lines : x.demand.lines = s.demand.lines.map (swapLine n)) : NoneActive x := by
  intro m hm state
  rw [lines] at hm
  obtain ⟨r, hr, rfl⟩ := List.mem_map.mp hm
  by_cases tag : r.tag = n.tag
  · rw [swapLine_of_same tag] at state
    have closed := ended.closed
    rw [state] at closed
    cases closed
  · rw [swapLine_of_other tag] at state
    have same : r = l := present.2.2.1 r hr l hl state active
    exact tag (same ▸ ended.tag.symm)

theorem LineEnded.answered {x : State} (orders : SameOrders s.puts x.puts)
    (lines : x.demand.lines = s.demand.lines.map (swapLine n)) (T : ToteNo) :
    Answered x T = Answered s T := by
  have workable (m : Line) : isWorkable x.puts m = isWorkable s.puts m := by
    rw [isWorkable, isWorkable, orders.isPlaced_eq]
  have open_ : n.state ≠ .suspended ∧ n.state ≠ .waiting := by
    have closed := ended.closed
    constructor <;> intro h <;> rw [h] at closed <;> cases closed
  unfold Answered
  rw [lines]
  congr 1
  · refine find?_swapLine (fun _ => rfl) (fun m hm tag => ?_) ?_
    · rw [ended.eq_of_tag law hl hm tag, active]
      rfl
    · simp [open_.1]
  · refine find?_swapLine (fun m => by rw [workable]) (fun m hm tag => ?_) ?_
    · rw [ended.eq_of_tag law hl hm tag, isWorkable, active]
      simp
    · simp [isWorkable, open_.2]

end


/-! ### The boundary's outcomes (R114 to R116, R135) -/

theorem Lane.mapRecs_face {l : Lane} {f : LaneRec → LaneRec} {q : LaneRec}
    (record : l.faceRec = some q) (others : ∀ p ∈ l.queue ++ l.parkRec.toList, f p = p) :
    l.mapRecs f = { l with faceRec := some (f q) } := by
  have queue : l.queue.map f = l.queue :=
    (List.map_congr_left fun p hp => others p (by simp [hp])).trans (List.map_id' _)
  have park : l.parkRec.map f = l.parkRec := by
    cases h : l.parkRec with
    | none => rfl
    | some p => exact congrArg some (others p (by simp [h]))
  rw [Lane.mapRecs, queue, park, record]
  rfl

section
variable {l n : Line} {q : LaneRec} {s u : State} (ended : LineEnded l n s u) (law : LinesLaw s)
  (hl : l ∈ s.demand.lines) (active : l.state = .active) (present : PresentLaw s)
  (record : s.lane.faceRec = some q) (tote : q.tote = l.tote)
include ended law hl active present record tote

/-- The flags and the order re-evaluated, the boundary stands with the record at the face. -/
theorem LineEnded.atBoundary
    (absent : ∀ p ∈ s.lane.queue ++ s.lane.parkRec.toList, p.tote ≠ l.tote) :
    AtBoundary n q (u.urgentNow q) s.lane.queue s
      ((u.reurgent (· == l.tote)).reready l.handle) := by
  have flags := u.flaggedWhere_frame (· == l.tote)
  have none : activeLine u.demand.lines = Option.none :=
    (ended.noneActive hl active present ended.lines).activeLine
  rw [State.reurgent_of_idle (.inr none)]
  have ready := (u.flaggedWhere (· == l.tote)).reready_frame l.handle
  have puts : (u.flaggedWhere (· == l.tote)).puts = s.puts :=
    (flags.puts_eq (by simp)).trans (ended.frame.puts_eq (by simp))
  refine ⟨(ended.frame.trans flags).step ready (by simp) (by simp), ?_, ?_, ?_, ?_, ?_⟩
  · rw [ready.demand_eq (by simp), flags.demand_eq (by simp), ended.lines]
  · rw [ready.picker_eq (by simp), flags.picker_eq (by simp)]
    exact ended.dark
  · rw [← puts]
    exact State.reready_orders _ _
  · rw [ready.lane_eq (by simp), State.flaggedWhere_lane, ended.frame.lane_eq (by simp)]
    refine (Lane.mapRecs_face record fun p hp => if_neg (by simpa using absent p hp)).trans ?_
    rw [if_pos (by simpa using tote)]
    rfl
  · refine (State.urgentNow_iff u q).trans (ended.urgent law hl active (ended.frame.cfg_eq (by simp))
      (ended.frame.clock_eq (by simp)) ?_ ended.lines)
    rw [ended.frame.puts_eq (by simp)]
    exact .refl _

end

section
variable {l n : Line} {q : LaneRec} {flag : Bool} {queue : List LaneRec} {s u x : State}
  (ended : LineEnded l n s u) (law : LinesLaw s) (hl : l ∈ s.demand.lines)
  (active : l.state = .active) (present : PresentLaw s) (h : AtBoundary n q flag queue s x)
include ended law hl active present h

/-- The face goes to RELEASING or LEAVING (R114, R118). -/
theorem AtBoundary.released :
    ReleasedFrom q s x.beginRelease.settleLane ∧
      x.beginRelease.settleLane.demand.lines = x.demand.lines ∧
      x.beginRelease.settleLane.lane.queue = queue ∧
      x.beginRelease.settleLane.lane.parkRec = s.lane.parkRec ∧
      RaisesOnly [.frameAbandoned] x x.beginRelease.settleLane := by
  have frame := x.beginRelease_frame.step x.beginRelease.settleLane_frame
    (cs := [.modeCtl, .notices, .bus, .lane]) (by simp) (by simp)
  have lines : x.beginRelease.settleLane.demand.lines = x.demand.lines :=
    congrArg Demand.lines (frame.demand_eq (by simp))
  have lane := x.beginRelease.settleLane_endedAs
  rw [EndedAs, State.beginRelease_lane, Lane.released_drives, h.lane] at lane
  refine ⟨⟨?_, ?_, ?_, ?_⟩, lines, ?_, ?_, ?_⟩
  · obtain ⟨off, toteLight, display, putLight⟩ := h.dark
    unfold PickerDark
    rw [frame.picker_eq (by simp), lines]
    exact ⟨off, putLight, toteLight, display, ended.noneActive hl active present h.lines⟩
  · rw [lane]
    rfl
  · rw [lane]
  · have urgent := ended.urgent (x := x.beginRelease.settleLane) (q := q) law hl active
      ((frame.cfg_eq (by simp)).trans (h.frame.cfg_eq (by simp)))
      ((frame.clock_eq (by simp)).trans (h.frame.clock_eq (by simp)))
      (by rw [frame.puts_eq (by simp)]; exact h.orders) (lines.trans h.lines)
    refine ⟨{ q with urgent := flag, mergeWait := 0, stallMark := false }, ?_, rfl,
      h.flag.trans urgent.symm⟩
    rw [lane]
    rfl
  · rw [lane]
    rfl
  · rw [lane]
    rfl
  · exact (x.beginRelease_frame.raisesOnly (by simp)).trans (State.settleLane_raisesOnly _)

omit present in
/-- The next line is made ACTIVE and lit (R23, R131). -/
theorem AtBoundary.worked {m : Line} (face : s.lane.face = .presenting) (tote : q.tote = l.tote)
    (others : ∀ p ∈ queue ++ s.lane.parkRec.toList, p.tote ≠ l.tote)
    (answer : Answered s l.tote = some m) :
    WorkedNext q m s x.requestLine.settleLane ∧
      x.requestLine.settleLane.demand.lines = (x.demand.lines.map fun r =>
        if r.tag = m.tag then { r with state := .active } else r) ∧
      x.requestLine.settleLane.lane.queue = queue ∧
      x.requestLine.settleLane.lane.parkRec = s.lane.parkRec ∧
      RaisesOnly [.frameAbandoned] x x.requestLine.settleLane := by
  have work : lineToWork x.demand.lines x.puts q.tote = some m := by
    rw [lineToWork_eq_answered, ended.answered law hl active h.orders h.lines, tote, answer]
  have faceX : x.lane.face = .presenting := by
    rw [h.lane]
    exact face
  have presents := State.requestLine_presents (q := { q with urgent := flag }) faceX
    (by rw [h.lane]) work (.inr (.inr fun r hr => by
      rw [h.lane] at hr
      rw [tote]
      exact others r (List.mem_append_left _ (List.mem_of_mem_head? hr))))
  obtain ⟨hm, toteM, -⟩ := lineToWork_mem work
  have toteM : m.tote = l.tote := toteM.trans tote
  have lane := presents.lane
  rw [Lane.mapRecs_face (q := { q with urgent := flag }) (by rw [h.lane]) (fun p hp => if_neg (by
    rw [h.lane] at hp
    simpa [toteM] using others p hp)), if_pos (by simpa using tote.trans toteM.symm), h.lane] at lane
  refine ⟨⟨presents.face.trans faceX, presents.drives, ?_, ?_, ?_, ?_, ?_, ?_⟩, presents.lines, ?_, ?_,
    presents.raises⟩
  · rw [presents.lines]
    exact List.mem_map.mpr ⟨m, hm, if_pos rfl⟩
  · rw [presents.picker, h.orders.positionOf_eq]
  · rw [presents.picker, h.orders.positionOf_eq]
  · rw [presents.picker]
  · rw [presents.picker]
  · have frame := State.working_frame (s := x) (m := m)
    have urgent : UrgentIn (x.working m) q ↔ UrgentIn x.requestLine.settleLane q := by
      refine UrgentIn.congr ?_ ?_ ?_ fun r _ _ => ?_
      · rw [frame.cfg_eq (by simp), presents.frame.cfg_eq (by simp)]
      · rw [frame.clock_eq (by simp), presents.frame.clock_eq (by simp)]
      · rw [frame.puts_eq (by simp), presents.frame.puts_eq (by simp)]
        exact .refl _
      · rw [State.working_lines, presents.lines]
    refine ⟨(x.working m).urgentMark { q with urgent := flag }, ?_, rfl,
      (State.urgentNow_iff _ _).trans urgent⟩
    rw [lane]
    rfl
  · rw [lane]
  · rw [lane]

/-- The next line, or the release where the tote has none (R23, R114, R135). -/
theorem AtBoundary.next (face : s.lane.face = .presenting) (tote : q.tote = l.tote)
    (others : ∀ p ∈ queue ++ s.lane.parkRec.toList, p.tote ≠ l.tote) :
    (∀ r ∈ s.demand.lines, r.tag ≠ l.tag →
        r ∈ x.requestLine.settleLane.demand.lines ∨
          { r with state := .active } ∈ x.requestLine.settleLane.demand.lines ∧
            Answered s l.tote = some r) ∧
      x.requestLine.settleLane.lane.queue = queue ∧
      x.requestLine.settleLane.lane.parkRec = s.lane.parkRec ∧
      (Answered s l.tote = none → ReleasedFrom q s x.requestLine.settleLane) ∧
      (∀ m ∈ Answered s l.tote, WorkedNext q m s x.requestLine.settleLane) ∧
      RaisesOnly [.frameAbandoned] x x.requestLine.settleLane := by
  have kept (r : Line) (hr : r ∈ s.demand.lines) (tag : r.tag ≠ l.tag) : r ∈ x.demand.lines := by
    rw [h.lines]
    exact List.mem_map.mpr ⟨r, hr, swapLine_of_other (by rwa [ended.tag])⟩
  cases answer : Answered s l.tote with
  | none =>
    have release : x.requestLine = x.beginRelease := by
      refine State.requestLine_of_none (q := { q with urgent := flag }) (by rw [h.lane]) ?_
      rw [lineToWork_eq_answered, ended.answered law hl active h.orders h.lines]
      exact (congrArg (Answered s) tote).trans answer
    rw [release]
    obtain ⟨released, lines, queue, park, raises⟩ := h.released ended law hl active present
    exact ⟨fun r hr tag => .inl (lines ▸ kept r hr tag), queue, park, fun _ => released,
      fun m hm => (by cases hm), raises⟩
  | some m =>
    obtain ⟨worked, lines, queue, park, raises⟩ :=
      h.worked ended law hl active face tote others answer
    refine ⟨fun r hr tag => ?_, queue, park, fun k => (by cases k), fun r hr => ?_, raises⟩
    · rw [lines]
      by_cases same : r.tag = m.tag
      · have hm : m ∈ s.demand.lines := by
          rw [← lineToWork_eq_answered] at answer
          exact (lineToWork_mem answer).1
        refine .inr ⟨List.mem_map.mpr ⟨r, kept r hr tag, if_pos same⟩, ?_⟩
        rw [eq_of_tag_eq law.2.1 hr hm same]
      · exact .inl (List.mem_map.mpr ⟨r, kept r hr tag, if_neg same⟩)
    · obtain rfl : m = r := Option.some.inj hr
      exact worked

omit ended law hl active present in
/-- R115's conditions, as the check reads them at the boundary. -/
theorem AtBoundary.preempts (face : s.lane.face = .presenting) (kept : queue = s.lane.queue) :
    x.preemptWanted = true ↔ HeadPreempts s q := by
  rw [State.preemptWanted_iff, Lane.headUrgent_iff, h.frame.mode_eq (by simp), h.lane]
  have calm : flag = false ↔ ¬ UrgentIn s q := by rw [← h.flag, Bool.not_eq_true]
  simp [HeadPreempts, face, kept, calm]

omit ended law hl active present in
/-- The park is refused, and the boundary goes on with the head marked (R115). -/
theorem AtBoundary.refused (wanted : x.preemptWanted = true) (park : s.lane.parkRec ≠ none)
    {p : LaneRec} {rest : List LaneRec} (list : queue = p :: rest) :
    x.preemptCheck.lane.face = s.lane.face ∧
      AtBoundary n q flag ({ p with refusalMark := true } :: rest) s x.preemptCheck ∧
      (p.refusalMark = false → SourceRaised .parkRefused p.tote x x.preemptCheck) ∧
      (p.refusalMark = true → SourceKept .parkRefused x x.preemptCheck) := by
  obtain ⟨frame, lane, raised, kept⟩ := State.refused_facts (h := p) (rest := rest) wanted
    (by rw [h.lane]; exact park) (by rw [h.lane]; exact list)
  refine ⟨by rw [lane, h.lane], ⟨h.frame.step frame (by simp) (by simp), ?_, ?_, ?_, ?_, h.flag⟩,
    raised, fun mark => by rw [kept mark]; rfl⟩
  · rw [frame.demand_eq (by simp), h.lines]
  · rw [frame.picker_eq (by simp)]
    exact h.dark
  · rw [frame.puts_eq (by simp)]
    exact h.orders
  · rw [lane, h.lane]

omit law in
/-- The tote is parked at the boundary, with no line to suspend (R115, R116). -/
theorem AtBoundary.parked (wanted : x.preemptWanted = true) (park : s.lane.parkRec = none) :
    x.preemptCheck.lane.face = .parking ∧ ParkedAtBoundary q x.preemptCheck.settleLane ∧
      x.preemptCheck.settleLane.demand.lines = x.demand.lines ∧
      x.preemptCheck.settleLane.lane.queue = queue ∧
      RaisesOnly [.frameAbandoned] x x.preemptCheck.settleLane := by
  obtain ⟨-, free, -, -, r, hr, calm⟩ := State.preemptWanted_iff.mp wanted
  rw [h.lane] at free hr
  obtain rfl : { q with urgent := flag } = r := Option.some.inj hr
  have off : flag = false := calm
  have parks := (State.preemptCheck_of_parkFree wanted (by rw [h.lane]; exact park)).trans
    (State.parkFace_of_no_active (q := { q with urgent := flag }) (by rw [h.lane])
      (ended.noneActive hl active present h.lines).activeLine)
  rw [parks]
  have frame := (x.withLane_frame { x.lane with
    faceRec := none, parkRec := some { q with stage := .park, savedTag := none, urgent := flag },
    face := .parking, waits := { x.lane.waits with park := some 0 } }).step (State.settleLane_frame _)
    (cs := [.modeCtl, .notices, .bus, .lane]) (by simp) (by simp)
  refine ⟨rfl, ⟨?_, ?_, ?_, ?_, ?_, ?_⟩, congrArg Demand.lines (frame.demand_eq (by simp)), ?_, ?_⟩
  · obtain ⟨dark, toteLight, display, putLight⟩ := h.dark
    unfold PickerDark
    rw [frame.picker_eq (by simp), frame.demand_eq (by simp)]
    exact ⟨dark, putLight, toteLight, display, ended.noneActive hl active present h.lines⟩
  · rw [State.settleLane_face]
    rfl
  · rw [State.settleLane_faceRec]
    rfl
  · rw [State.settleLane_parkRec, off]
    rfl
  · rw [State.settleLane_waits]
    rfl
  · rw [State.settleLane_lane_eq]
    simp [drivesOf, State.withLane, h.lane, show s.lane.jam = none from free]
  · rw [State.settleLane_queue]
    show x.lane.queue = queue
    rw [h.lane]
  · exact ((x.withLane_frame _).raisesOnly (by simp)).trans (State.settleLane_raisesOnly _)

end

/-! ### The line boundary (R135) -/

section
variable {u : State} {l : Line}

theorem State.lineBoundary_of_draining
    (face : ((u.reurgent (· == l.tote)).reready l.handle).lane.face = .presenting)
    (draining : ((u.reurgent (· == l.tote)).reready l.handle).mode = .draining) :
    u.lineBoundary l = ((u.reurgent (· == l.tote)).reready l.handle).beginRelease :=
  (if_pos face).trans (if_pos draining)

theorem State.lineBoundary_of_active
    (face : ((u.reurgent (· == l.tote)).reready l.handle).lane.face = .presenting)
    (awake : ((u.reurgent (· == l.tote)).reready l.handle).mode ≠ .draining) :
    u.lineBoundary l =
      if ((u.reurgent (· == l.tote)).reready l.handle).preemptCheck.lane.face = .parking then
        ((u.reurgent (· == l.tote)).reready l.handle).preemptCheck
      else ((u.reurgent (· == l.tote)).reready l.handle).preemptCheck.requestLine :=
  (if_pos face).trans (if_neg awake)

end

section
variable {l n : Line} {s u : State} (ended : LineEnded l n s u) (law : LinesLaw s)
  (hl : l ∈ s.demand.lines) (active : l.state = .active) (present : PresentLaw s)
include ended hl active present

theorem LineEnded.presenting :
    s.lane.face = .presenting ∧
      ((u.reurgent (· == l.tote)).reready l.handle).lane.face = .presenting ∧
      ((u.reurgent (· == l.tote)).reready l.handle).mode = s.mode := by
  have face : s.lane.face = .presenting := present.1.mpr ⟨l, hl, active⟩
  have flags := u.flaggedWhere_frame (· == l.tote)
  have none : activeLine u.demand.lines = Option.none :=
    (ended.noneActive hl active present ended.lines).activeLine
  rw [State.reurgent_of_idle (.inr none)]
  have ready := (u.flaggedWhere (· == l.tote)).reready_frame l.handle
  refine ⟨face, ?_, ?_⟩
  · rw [ready.lane_eq (by simp), State.flaggedWhere_lane, ended.frame.lane_eq (by simp)]
    exact face
  · rw [ready.mode_eq (by simp), flags.mode_eq (by simp), ended.frame.mode_eq (by simp)]

/-- In DRAINING the face is released at the boundary (R114). -/
theorem LineEnded.drains (draining : s.mode = .draining) :
    (u.lineBoundary l).settleLane.lane.face = .releasing ∨
      (u.lineBoundary l).settleLane.lane.face = .leaving := by
  obtain ⟨-, face, mode⟩ := ended.presenting hl active present
  rw [State.lineBoundary_of_draining face (mode.trans draining), State.settleLane_face,
    State.beginRelease_lane]
  exact Lane.released_face _

/-- R135, steps 3 to 5, in whatever way the line ended. -/
theorem LineEnded.follows (law : LinesLaw s)
    (absent : ∀ p ∈ s.lane.queue ++ s.lane.parkRec.toList, p.tote ≠ l.tote) :
    BoundaryFollows l s (u.lineBoundary l).settleLane := by
  intro q hq
  have tote : q.tote = l.tote := by
    obtain ⟨r, hr, same⟩ := present.2.1 l hl active
    rw [← same, Option.some.inj (hr.symm.trans hq)]
  obtain ⟨faceS, face, mode⟩ := ended.presenting hl active present
  have h := ended.atBoundary law hl active present hq tote absent
  have preempts := h.preempts faceS rfl
  have before : SourceKept .parkRefused s ((u.reurgent (· == l.tote)).reready l.handle) := by
    have none : activeLine u.demand.lines = Option.none :=
      (ended.noneActive hl active present ended.lines).activeLine
    rw [State.reurgent_of_idle (.inr none)]
    have raises : RaisesOnly [.orderReady] u ((u.flaggedWhere (· == l.tote)).reready l.handle) :=
      ((u.flaggedWhere_frame _).raisesOnly (by simp)).trans (State.reready_raisesOnly _ _)
    exact ((raises .parkRefused).1 (by simp)).trans ended.refused
  have kept (r : Line) (hr : r ∈ s.demand.lines) (tag : r.tag ≠ l.tag) :
      r ∈ ((u.reurgent (· == l.tote)).reready l.handle).demand.lines := by
    rw [h.lines]
    exact List.mem_map.mpr ⟨r, hr, swapLine_of_other (by rwa [ended.tag])⟩
  have draining := State.lineBoundary_of_draining (u := u) (l := l) face
  have awake := State.lineBoundary_of_active (u := u) (l := l) face
  generalize (u.reurgent (· == l.tote)).reready l.handle = w at *
  by_cases drains : s.mode = .draining
  · have calm : ¬ HeadPreempts s q := fun k => by cases k.1.symm.trans drains
    rw [draining (mode.trans drains)]
    obtain ⟨released, lines, queue, park, raises⟩ := h.released ended law hl active present
    exact ⟨fun r hr tag => .inl (lines ▸ kept r hr tag), fun k => absurd k calm,
      fun k => absurd k calm, fun _ => ⟨queue, ((raises .parkRefused).1 (by simp)).trans before⟩,
      fun _ => ⟨park, fun _ => released, fun k => by cases k.symm.trans drains⟩⟩
  · rw [awake (by rwa [mode])]
    by_cases preempt : HeadPreempts s q
    · have wanted := preempts.mpr preempt
      by_cases park : s.lane.parkRec = none
      · obtain ⟨faceP, parked, lines, queue, raises⟩ := h.parked ended hl active present wanted park
        rw [if_pos faceP]
        exact ⟨fun r hr tag => .inl (lines ▸ kept r hr tag), fun _ _ => parked,
          fun _ k => absurd park k, fun _ => ⟨queue, ((raises .parkRefused).1 (by simp)).trans before⟩,
          fun k => absurd k (by simp [preempt, park])⟩
      · obtain ⟨p, rest, queue⟩ : ∃ p rest, s.lane.queue = p :: rest := by
          obtain ⟨-, -, ⟨p, hp, -⟩, -⟩ := preempt
          obtain ⟨rest, queue⟩ := List.head?_eq_some_iff.mp hp
          exact ⟨p, rest, queue⟩
        obtain ⟨faceX, marked, refused⟩ := h.refused wanted park queue
        have others : ∀ r ∈ ({ p with refusalMark := true } :: rest) ++ s.lane.parkRec.toList,
            r.tote ≠ l.tote := by
          intro r hr
          rw [queue] at absent
          rcases List.mem_cons.mp (List.cons_append ▸ hr) with rfl | hr
          · exact absent p List.mem_cons_self
          · exact absent r (List.mem_cons_of_mem _ hr)
        obtain ⟨lines, queueT, parkT, released, worked, raises⟩ :=
          marked.next ended law hl active present faceS tote others
        rw [if_neg (by rw [faceX, faceS]; decide)]
        refine ⟨lines, fun _ k => absurd k park, fun _ _ r hr => ?_,
          fun k => absurd k (by simp [preempt, park]),
          fun _ => ⟨parkT, fun k => released (k.resolve_left drains), fun _ => worked⟩⟩
        rw [queue] at hr
        obtain rfl : p = r := Option.some.inj hr
        refine ⟨by rw [queueT, queue]; rfl, fun mark => ?_, fun mark => ?_⟩
        · have raised := (refused.1 mark).later raises (by simp)
          unfold SourceRaised at raised ⊢
          rw [raised, before]
        · exact (((raises .parkRefused).1 (by simp)).trans (refused.2 mark)).trans before
    · have unwanted : w.preemptWanted = false := Bool.eq_false_iff.mpr fun k => preempt (preempts.mp k)
      rw [State.preemptCheck_of_unwanted unwanted, if_neg (by rw [face]; decide)]
      obtain ⟨others, queue, park, released, worked, raises⟩ :=
        h.next ended law hl active present faceS tote absent
      exact ⟨others, fun k => absurd k preempt, fun k => absurd k preempt,
        fun _ => ⟨queue, ((raises .parkRefused).1 (by simp)).trans before⟩,
        fun _ => ⟨park, fun k => released (k.resolve_left drains), fun _ => worked⟩⟩

end

end Sys2Proof.Machine
end

section
/-! PROOFS. What the end of a line brings to its order (R34); BEAM_CLEAR and the SHORT key: O55. -/

namespace Sys2Proof.Machine

/-! ### What a boundary can raise -/

theorem State.requestLine_raisesOnly (u : State) :
    RaisesOnly [.frameAbandoned, .parkRefused] u u.requestLine := by
  unfold State.requestLine
  split
  · exact .refl _ _
  · split
    · exact u.beginRelease_frame.raisesOnly (by simp)
    · rename_i m _
      have working : RaisesOnly [.frameAbandoned] u (u.working m) := State.working_raisesOnly
      exact (working.mono (by simp)).trans ((State.reurgent_raisesOnly _ _).mono (by simp))

theorem State.lineBoundary_raisesOnly (u : State) (l : Line) :
    RaisesOnly [.frameAbandoned, .parkRefused, .orderReady] u (u.lineBoundary l) := by
  have before : RaisesOnly [.frameAbandoned, .parkRefused, .orderReady] u
      ((u.reurgent (· == l.tote)).reready l.handle) :=
    ((u.reurgent_raisesOnly _).mono (by simp)).trans ((State.reready_raisesOnly _ _).mono (by simp))
  have checked := before.trans ((State.preemptCheck_raisesOnly _).mono (by simp))
  unfold State.lineBoundary
  dsimp only
  split
  · split
    · exact before.trans ((State.beginRelease_frame _).raisesOnly (by simp))
    · split
      · exact checked
      · exact checked.trans ((State.requestLine_raisesOnly _).mono (by simp))
  · exact before

theorem State.raise_detail (u : State) (n : NoticeSource) (d : BitVec 32)
    (off : u.notices.sources[n.index].pending = false) :
    (u.raise n d).notices.sources[n.index].detail = d := by
  obtain ⟨-, -, -, fresh, -⟩ := u.raise_once n d
  rw [fresh off]

/-! ### The order of a line that has closed (R34) -/

/-- From `s` to `w` the line `l` has closed, the other lines are open as before, and no order has been
re-evaluated yet. -/
structure ClosedIn (l : Line) (s w : State) : Prop where
  orders : OrdersKept s w
  lines : ∃ g : Line → Line, w.demand.lines = s.demand.lines.map g ∧ ∀ m ∈ s.demand.lines,
    (g m).tag = m.tag ∧ (g m).handle = m.handle ∧
      (g m).state.isOpen = (m.state.isOpen && m.tag != l.tag)

section
variable {l : Line} {s t u w : State}

theorem ClosedIn.later (h : ClosedIn l s u) (orders : OrdersKept u w)
    (lines : w.demand.lines = u.demand.lines) : ClosedIn l s w :=
  ⟨h.orders.trans orders, lines ▸ h.lines⟩

theorem ClosedIn.nodup (h : ClosedIn l s w) (nodup : (s.demand.lines.map Line.tag).Nodup) :
    (w.demand.lines.map Line.tag).Nodup := by
  obtain ⟨g, lines, kept⟩ := h.lines
  have tags : w.demand.lines.map Line.tag = s.demand.lines.map Line.tag := by
    rw [lines, List.map_map]
    exact List.map_congr_left fun m hm => (kept m hm).1
  rwa [tags]

/-- A park suspends an open line, which stays open (R116). -/
theorem ClosedIn.reurgent (h : ClosedIn l s u) (nodup : (s.demand.lines.map Line.tag).Nodup)
    (p : ToteNo → Bool) : ClosedIn l s (u.reurgent p) := by
  have parks : Parks (u.flaggedWhere p) (u.reurgent p) := by
    rw [State.reurgent_eq]
    split
    · exact State.headTurnedUrgent_parks _
    · exact .refl _
  obtain ⟨g, lines, kept⟩ := h.lines
  have flags : (u.flaggedWhere p).demand = u.demand := (u.flaggedWhere_frame p).demand_eq (by simp)
  obtain ⟨f, linesF, keptF⟩ := parks.lines (by rw [flags]; exact h.nodup nodup)
  rw [flags, lines] at linesF keptF
  refine ⟨h.orders.trans (u.reurgent_ordersKept p), f ∘ g, by rw [linesF, List.map_map], fun m hm => ?_⟩
  obtain ⟨tag, handle, isOpen⟩ := kept m hm
  rcases keptF (g m) (List.mem_map_of_mem hm) with same | ⟨active, suspended⟩
  · rw [Function.comp, same]
    exact ⟨tag, handle, isOpen⟩
  · rw [Function.comp, suspended]
    rw [active] at isOpen
    exact ⟨tag, handle, isOpen⟩

/-- The order re-evaluated with the line closed, and nothing after it that reads the orders. -/
theorem ClosedIn.ready (h : ClosedIn l s w) (hl : l ∈ s.demand.lines)
    (after : OrdersKept (w.reready l.handle) t) {k : PutIdx} {o : Order}
    (hk : positionOf s.puts l.handle = some k) (ho : s.puts[k] = some o) :
    ReadyFollows k o (OthersClosed s l.handle l.tag) s t := by
  obtain ⟨g, lines, kept⟩ := h.lines
  have puts := h.orders.1
  have ready := ReadyFollows.of_reready (u := w) (by rw [puts]; exact hk) (by rw [puts]; exact ho)
  refine ReadyFollows.between h.orders (ready.of_iff ?_) after
  rw [lines]
  exact orderReady_iff_othersClosed hl (fun m hm => (kept m hm).2.1) fun m hm => (kept m hm).2.2

theorem ClosedIn.unplaced (h : ClosedIn l s w) (after : OrdersKept (w.reready l.handle) t)
    (hk : positionOf s.puts l.handle = none) : OrdersKept s t := by
  rw [State.reready_of_unplaced (by rw [isPlaced, h.orders.1, hk]; rfl)] at after
  exact h.orders.trans after

theorem State.boundary_ordersKept (u : State) (l : Line) :
    OrdersKept ((u.reurgent (· == l.tote)).reready l.handle) (u.lineBoundary l).settleLane :=
  (u.lineBoundary_ordersKept l).trans (State.settleLane_ordersKept _)

theorem State.boundary_pickKept (u : State) (l : Line) :
    PickKept u (u.lineBoundary l).settleLane :=
  (u.lineBoundary_pickKept l).trans (State.settleLane_pickKept _)

theorem State.boundary_raisesOnly (u : State) (l : Line) :
    RaisesOnly [.frameAbandoned, .parkRefused, .orderReady] u (u.lineBoundary l).settleLane :=
  (u.lineBoundary_raisesOnly l).trans ((State.settleLane_raisesOnly _).mono (by simp))

end

theorem State.setLineState_closedIn {s : State} (l : Line) {st : LineState}
    (closed : st.isOpen = false) : ClosedIn l s (s.setLineState l.tag st) := by
  refine ⟨(s.setLineState_frame _ _).ordersKept (by simp) (by simp), _, rfl, fun m _ => ?_⟩
  split
  · rename_i same
    exact ⟨rfl, rfl, by simp [same, closed]⟩
  · rename_i other
    exact ⟨rfl, rfl, by simp [other]⟩

theorem LineEnded.closedIn {l n : Line} {s u : State} (ended : LineEnded l n s u)
    (nodup : (s.demand.lines.map Line.tag).Nodup) (hl : l ∈ s.demand.lines)
    (kept : SourceKept .orderReady s u) : ClosedIn l s u := by
  refine ⟨⟨ended.frame.puts_eq (by simp), kept⟩, _, ended.lines, fun m hm => ?_⟩
  by_cases tag : m.tag = n.tag
  · rw [swapLine_of_same tag, ended.closed]
    obtain rfl : m = l := eq_of_tag_eq nodup hm hl (tag.trans ended.tag)
    exact ⟨ended.tag, ended.handle, by simp⟩
  · rw [swapLine_of_other tag]
    exact ⟨rfl, rfl, by simp [show m.tag ≠ l.tag by rwa [← ended.tag]]⟩

/-! ### The lights of the ended line (R132) -/

/-- R19: the ACTIVE line's position is lit. -/
theorem PresentLaw.lit {s : State} (h : PresentLaw s) {l : Line} (hl : l ∈ s.demand.lines)
    (active : l.state = .active) : ∃ k, s.picker.active = some k := by
  obtain ⟨-, -, -, placed, lights, -⟩ := h
  have placed := placed l hl (.inl active)
  rw [(lights l hl active).1]
  exact Option.isSome_iff_exists.mp placed

theorem PresentLaw.activeLine {s : State} (h : PresentLaw s) {l : Line} (hl : l ∈ s.demand.lines)
    (active : l.state = .active) : activeLine s.demand.lines = some l :=
  activeLine_of_unique hl active fun m hm k => h.2.2.1 m hm l hl k active

/-- The ACTIVE line of `s`, ended in `v`, ends with its lights off. -/
theorem LineEnded.of_leave {l n : Line} {s v : State}
    (frame : SameExcept [.demand, .notices, .picker] s v)
    (lines : v.demand.lines = s.demand.lines.map (swapLine n)) (tag : n.tag = l.tag)
    (tote : n.tote = l.tote) (handle : n.handle = l.handle) (closed : n.state.isOpen = false)
    (refused : SourceKept .parkRefused s v) : LineEnded l n s v.leaveActive :=
  ⟨frame.step v.leaveActive_frame (by simp) (by simp), lines, tag, tote, handle, closed,
    v.leaveActive_dark, refused⟩

/-! ### BEAM_CLEAR and the SHORT key (R136, R143) -/

/-- The ACTIVE line SHORT, the notice raised and the lights off (R136). -/
def State.shorted (s : State) (l : Line) : State :=
  ((s.setLineState l.tag .short).raise .lineShort
    (BitVec.ofNat 32 (l.tag.toNat * 256 + l.puts))).leaveActive

section
variable {s : State} {l : Line}

theorem exec_shortKey (configured : s.mode ≠ .unconfigured)
    (found : activeLine s.demand.lines = some l) :
    exec .shortKey s = .next ((s.shorted l).lineBoundary l).settleLane := by
  have key : s.shortKey = ((s.shorted l).lineBoundary l).settleLane := by
    rw [State.shortKey, found]
    rfl
  rw [← key]
  exact congrArg Host.Outcome.next (if_pos (s.configured_iff.mpr configured))

theorem State.shorted_ended (nodup : (s.demand.lines.map Line.tag).Nodup)
    (hl : l ∈ s.demand.lines) : LineEnded l { l with state := .short } s (s.shorted l) := by
  refine .of_leave (((s.setLineState_frame _ _).trans (State.raise_frame _ _ _)).mono (by simp)) ?_ rfl
    rfl rfl rfl ?_
  · exact setLineState_eq_swapLine nodup hl .short
  · exact (State.raise_raisesOnly (s.setLineState l.tag .short) .lineShort _ .parkRefused).1 (by simp)

theorem State.shorted_raised :
    (s.shorted l).notices.sources[NoticeSource.lineShort.index].pending = true ∧
      (s.notices.sources[NoticeSource.lineShort.index].pending = false →
        (s.shorted l).notices.sources[NoticeSource.lineShort.index].detail =
          BitVec.ofNat 32 (l.tag.toNat * 256 + l.puts)) :=
  ⟨State.raise_pending (s.setLineState l.tag .short) .lineShort _,
    State.raise_detail (s.setLineState l.tag .short) .lineShort _⟩

end

theorem exec_beamClear (k : PutIdx) (s : State) :
    exec (.beamClear k) s = .next (s.setBeam k clearedBeam) := rfl

theorem State.setBeam_beams (s : State) (k j : PutIdx) (f : Beam → Beam) :
    (s.setBeam k f).picker.beams[j] = if j = k then f s.picker.beams[j] else s.picker.beams[j] := by
  refine (getElem_modifyVec k f _ j.val j.isLt).trans ?_
  simp only [Fin.ext_iff]
  rfl

/-- Settles O55: the beam that clears, and the line boundary that the SHORT key begins. -/
theorem beamClearAndShortKey : Obligations.BeamClearAndShortKey := by
  unfold Obligations.BeamClearAndShortKey
  refine fun s => ⟨fun k => ⟨_, exec_beamClear k s, s.setBeam_frame k _, rfl, fun j hj => ?_, ?_⟩,
    fun idle => ?_, fun l configured law present hl active => ?_⟩
  · rw [State.setBeam_beams, if_neg hj]
  · rw [State.setBeam_beams, if_pos rfl, clearedBeam]
    split <;> rfl
  · have key : s.shortKey = s := by
      have none : activeLine s.demand.lines = none := NoneActive.activeLine idle
      rw [State.shortKey, none]
    exact congrArg Host.Outcome.next (by rw [key, ite_self])
  · have next := exec_shortKey configured (present.activeLine hl active)
    have ended := State.shorted_ended law.2.1 hl
    have kept := (s.shorted l).boundary_pickKept l
    have raises := (s.shorted l).boundary_raisesOnly l
    obtain ⟨pending, detail⟩ := State.shorted_raised (s := s) (l := l)
    have orderKept : SourceKept .orderReady s (s.shorted l) :=
      (State.raise_raisesOnly (s.setLineState l.tag .short) .lineShort _ .orderReady).1 (by simp)
    have closed := ended.closedIn law.2.1 hl orderKept
    refine ⟨_, next, exec_next_frame next, kept.closed (closed.nodup law.2.1) _ ?_ rfl,
      kept.facts.trans (State.setLineState_facts _ _ _), fun k lit => ?_, (raises .lineShort).2 pending,
      fun off => ?_, fun k o hk ho => ?_, ended.follows hl active present law,
      ended.drains hl active present⟩
    · rw [ended.lines]
      exact List.mem_map.mpr ⟨l, hl, swapLine_of_same rfl⟩
    · exact kept.settles k (State.leaveActive_settles lit)
    · rw [(raises .lineShort).1 (by simp)]
      exact detail off
    · exact (closed.reurgent law.2.1 _).ready hl (State.boundary_ordersKept _ l) hk ho

end Sys2Proof.Machine
end

section
/-! PROOFS. A beam break (R133, R134, R139) and the line boundary of a last counted put: O54. -/

namespace Sys2Proof.Machine

/-! ### A tote that loses its last workable line (R29) -/

theorem State.weightOf_none {u : State} {T : ToteNo}
    (idle : ∀ n ∈ u.demand.lines, n.tote = T → isWorkable u.puts n = false) : u.weightOf T = none := by
  have unwanted : hasWorkable u.demand.lines u.puts T = false := by
    refine Bool.eq_false_iff.mpr fun h => ?_
    obtain ⟨n, hn, tote, state, placed⟩ := hasWorkable_iff.mp h
    have idle := idle n hn tote
    simp [isWorkable, state, placed] at idle
  rw [← Option.isNone_iff_eq_none, ← Option.not_isSome, weightOf_isSome, unwanted]
  rfl

/-- The DROP asked for where the want record goes is queued at the end of the event. -/
theorem State.deriveWant_drop_settled {u v : State} {T : ToteNo} (weightless : u.weightOf T = none)
    (wanted : ∃ w ∈ u.demand.wants, w.tote = T) (on : u.bus.tx = .on)
    (room : u.bus.queue.length < 15) (bus : v.bus = (u.deriveWant T).bus) :
    { sender := u.bus.ownStation.getD 0, tote := T, body := .drop } ∈ v.settleLane.bus.queue := by
  obtain ⟨-, -, queued⟩ := State.deriveWant_of_no_weight weightless
  have free : RoomFor [.wantDrop T, .state] u :=
    .of_length (by rw [List.length_cons, List.length_singleton]; omega)
  have left : RoomFor [.wantDrop T, .state] v :=
    ((u.deriveWant_requests T).room _ (by simp) free).of_bus_eq bus
  refine (State.settleLane_requests v).kept _ (by simp) left _ ?_ (by simp [frameKey])
  rw [bus]
  exact queued _ on wanted (by simp) free

/-! ### The tests of R133 -/

section
variable {s : State} {k : PutIdx} {l : Line}

theorem exec_beamBreak (configured : s.mode ≠ .unconfigured) :
    exec (.beamBreak k) s = .next ((s.setBeam k brokenBeam).judgeBreak k) :=
  congrArg Host.Outcome.next (if_pos (s.configured_iff.mpr configured))

theorem brokenBeam_of_stuck {b : Beam} (stuck : b.stuck = true) :
    brokenBeam b = { b with blocked := true } := if_pos stuck

theorem brokenBeam_of_free {b : Beam} (free : b.stuck = false) :
    brokenBeam b = { b with blocked := true, blockedMs := 0 } :=
  if_neg (Bool.eq_false_iff.mp free)

theorem State.judgeBreak_of_stuck (stuck : s.picker.beams[k].stuck = true) : s.judgeBreak k = s :=
  if_pos stuck

theorem State.judgeBreak_of_settling (free : s.picker.beams[k].stuck = false)
    (settling : s.picker.settles[k] ≠ none) :
    s.judgeBreak k = s.raise .overPut (BitVec.ofNat 32 (putNumber k)) :=
  (if_neg (Bool.eq_false_iff.mp free)).trans (if_pos (Option.isSome_iff_ne_none.mpr settling))

theorem State.judgeBreak_of_settled (free : s.picker.beams[k].stuck = false)
    (settled : s.picker.settles[k] = none) :
    s.judgeBreak k =
      match activeLine s.demand.lines with
      | some l =>
          if s.picker.active = some k then s.countPut l
          else s.raise .wrongPut (BitVec.ofNat 32 (putNumber k))
      | none => s.raise .wrongPut (BitVec.ofNat 32 (putNumber k)) :=
  (if_neg (Bool.eq_false_iff.mp free)).trans (if_neg (by simp [settled]))

theorem State.judgeBreak_of_wrong (free : s.picker.beams[k].stuck = false)
    (settled : s.picker.settles[k] = none)
    (wrong : s.picker.active ≠ some k ∨ ∀ l ∈ s.demand.lines, l.state ≠ .active) :
    s.judgeBreak k = s.raise .wrongPut (BitVec.ofNat 32 (putNumber k)) := by
  rw [State.judgeBreak_of_settled free settled]
  rcases wrong with away | idle
  · split
    · exact if_neg away
    · rfl
  · have none : activeLine s.demand.lines = none := NoneActive.activeLine idle
    rw [none]

theorem State.judgeBreak_of_put (free : s.picker.beams[k].stuck = false)
    (settled : s.picker.settles[k] = none) (lit : s.picker.active = some k)
    (found : activeLine s.demand.lines = some l) : s.judgeBreak k = s.countPut l := by
  rw [State.judgeBreak_of_settled free settled, found]
  exact if_pos lit

/-! ### The counted put (R134, R135) -/

/-- The ACTIVE line DONE with its last put, the notice raised and the lights off (R24, R134). -/
def State.putDone (s : State) (l : Line) : State :=
  (((s.setPuts l.tag (l.puts + 1)).setLineState l.tag .done).raise .lineDone
    (l.tag.setWidth 32)).leaveActive

theorem State.countPut_of_more (more : l.puts + 1 < l.qty) :
    s.countPut l =
      { s.setPuts l.tag (l.puts + 1) with
        picker := { s.picker with display := some (l.qty - (l.puts + 1)) } } := if_pos more

theorem State.countPut_of_last (last : ¬ l.puts + 1 < l.qty) :
    s.countPut l = ((s.putDone l).lineBoundary l).settleLane := if_neg last

theorem State.setPuts_frame (s : State) (tag : Tag) (n : Nat) :
    SameExcept [.demand] s (s.setPuts tag n) := s.withLines_frame _

theorem State.putDone_ended (nodup : (s.demand.lines.map Line.tag).Nodup) (hl : l ∈ s.demand.lines) :
    LineEnded l { l with puts := l.puts + 1, state := .done } s (s.putDone l) := by
  refine .of_leave ((((s.setPuts_frame _ _).trans (State.setLineState_frame _ _ _)).step
    (State.raise_frame _ _ _) (by simp) (by simp))) ?_ rfl rfl rfl rfl ?_
  · refine (List.map_map ..).trans (List.map_congr_left fun m hm => ?_)
    unfold swapLine
    by_cases same : m.tag = l.tag
    · obtain rfl := eq_of_tag_eq nodup hm hl same
      simp
    · simp [same]
  · exact (State.raise_raisesOnly ((s.setPuts _ _).setLineState l.tag .done) .lineDone _
      .parkRefused).1 (by simp)

theorem State.beamPut_ended {f : Beam → Beam} (nodup : (s.demand.lines.map Line.tag).Nodup)
    (hl : l ∈ s.demand.lines) :
    LineEnded l { l with puts := l.puts + 1, state := .done } s ((s.setBeam k f).putDone l) := by
  have ended := State.putDone_ended (s := s.setBeam k f) nodup hl
  exact ⟨((s.setBeam_frame k f).trans ended.frame).mono (by simp), ended.lines, rfl, rfl, rfl, rfl,
    ended.dark, ended.refused⟩

theorem State.putDone_raised :
    (s.putDone l).notices.sources[NoticeSource.lineDone.index].pending = true ∧
      (s.notices.sources[NoticeSource.lineDone.index].pending = false →
        (s.putDone l).notices.sources[NoticeSource.lineDone.index].detail = l.tag.setWidth 32) :=
  ⟨State.raise_pending ((s.setPuts _ _).setLineState l.tag .done) .lineDone _,
    State.raise_detail ((s.setPuts _ _).setLineState l.tag .done) .lineDone _⟩

theorem State.putDone_orderKept : SourceKept .orderReady s (s.putDone l) :=
  (State.raise_raisesOnly ((s.setPuts _ _).setLineState l.tag .done) .lineDone _ .orderReady).1
    (by simp)

theorem State.countPut_beams (s : State) (l : Line) :
    (s.countPut l).picker.beams = s.picker.beams := by
  by_cases more : l.puts + 1 < l.qty
  · rw [State.countPut_of_more more]
  · rw [State.countPut_of_last more]
    exact (State.boundary_pickKept _ l).beams.trans (State.leaveActive_pickKept _).beams

theorem State.judgeBreak_beams (s : State) (k : PutIdx) :
    (s.judgeBreak k).picker.beams = s.picker.beams := by
  unfold State.judgeBreak
  split
  · rfl
  · split
    · rfl
    · split
      · split
        · exact s.countPut_beams _
        · rfl
      · rfl

end

/-! ### The last workable line of the tote (R23, R29) -/

section
variable {l m n : Line} {s u : State} (ended : LineEnded l n s u) (law : LinesLaw s)
  (hl : l ∈ s.demand.lines) (active : l.state = .active) (present : PresentLaw s)
  (work : m ∈ s.demand.lines ∧ m.tote = l.tote ∧ isWorkable s.puts m = true)
  (only : ∀ r ∈ s.demand.lines, r.tote = l.tote → isWorkable s.puts r = true → r = m)

theorem answered_of_only (idle : ∀ r ∈ s.demand.lines, r.tote = l.tote → r.state ≠ .suspended)
    (work : m ∈ s.demand.lines ∧ m.tote = l.tote ∧ isWorkable s.puts m = true)
    (only : ∀ r ∈ s.demand.lines, r.tote = l.tote → isWorkable s.puts r = true → r = m) :
    Answered s l.tote = some m := by
  obtain ⟨hm, tote, workable⟩ := work
  have first : (s.demand.lines.find? fun r => decide (r.state = .suspended ∧ r.tote = l.tote)) = none :=
    List.find?_eq_none.mpr fun r hr => by simpa using fun k e => idle r hr e k
  rw [Answered, first, Option.none_or]
  cases found : s.demand.lines.find? fun r => decide (r.tote = l.tote) && isWorkable s.puts r with
  | none => exact absurd (List.find?_eq_none.mp found m hm) (by simp [tote, workable])
  | some r =>
    have h := List.find?_some found
    rw [Bool.and_eq_true, decide_eq_true_eq] at h
    rw [only r (List.mem_of_find?_eq_some found) h.1 h.2]

include ended law hl active work only

/-- With that line made ACTIVE the tote has no weight left (R38). -/
theorem LineEnded.weightless {w : State} (orders : SameOrders s.puts w.puts)
    (lines : w.demand.lines = s.demand.lines.map (swapLine n)) :
    ((w.setLineState m.tag .active).light m).weightOf m.tote = none := by
  obtain ⟨hm, toteM, workable⟩ := work
  refine State.weightOf_none fun r hr tote => Bool.eq_false_iff.mpr fun k => ?_
  have puts : ((w.setLineState m.tag .active).light m).puts = w.puts := rfl
  rw [puts, isWorkable, orders.isPlaced_eq] at k
  obtain ⟨x, hx, rfl⟩ := List.mem_map.mp hr
  by_cases same : x.tag = m.tag
  · rw [if_pos same] at k
    simp at k
  · rw [if_neg same] at k tote
    rw [lines] at hx
    have waiting : x.state = .waiting := by simpa using (Bool.and_eq_true_iff.mp k).1
    have before := (ended.waiting law hl active waiting).mp hx
    exact same (congrArg Line.tag (only x before (tote.trans toteM) k))

include present

/-- The boundary makes no preemption check's park and asks for that line. -/
theorem LineEnded.asksForLast (mode : s.mode = .active) (calm : s.lane.headUrgent = false)
    (away : ∀ p ∈ s.lane.queue, p.tote ≠ l.tote)
    (idle : ∀ r ∈ s.demand.lines, r.tote = l.tote → r.state ≠ .suspended) :
    ∃ (w : State) (q : LaneRec), u.lineBoundary l = w.requestLine ∧ w.demand = u.demand ∧
      SameOrders s.puts w.puts ∧ w.bus = s.bus ∧ w.lane.face = .presenting ∧
      w.lane.faceRec = some q ∧ lineToWork w.demand.lines w.puts q.tote = some m ∧
      (w.mode ≠ .active ∨ w.lane.headUrgent = true ∨ ∀ r ∈ w.lane.queue.head?, r.tote ≠ q.tote) := by
  obtain ⟨q, hq, tote⟩ := present.2.1 l hl active
  obtain ⟨-, face, modeW⟩ := ended.presenting hl active present
  have awake := State.lineBoundary_of_active (u := u) (l := l) face (by rw [modeW, mode]; decide)
  have none : activeLine u.demand.lines = Option.none :=
    (ended.noneActive hl active present ended.lines).activeLine
  rw [State.reurgent_of_idle (.inr none)] at awake face
  have flags := u.flaggedWhere_frame (· == l.tote)
  have ready := (u.flaggedWhere (· == l.tote)).reready_frame l.handle
  have laneU : u.lane = s.lane := ended.frame.lane_eq (by simp)
  have demand : ((u.flaggedWhere (· == l.tote)).reready l.handle).demand = u.demand := by
    rw [ready.demand_eq (by simp), flags.demand_eq (by simp)]
  have orders : SameOrders s.puts ((u.flaggedWhere (· == l.tote)).reready l.handle).puts := by
    rw [← (flags.puts_eq (by simp)).trans (ended.frame.puts_eq (by simp))]
    exact State.reready_orders _ _
  have lane : ((u.flaggedWhere (· == l.tote)).reready l.handle).lane =
      s.lane.mapRecs (fun r => if r.tote == l.tote then u.urgentMark r else r) := by
    rw [ready.lane_eq (by simp), State.flaggedWhere_lane, laneU]
  have head : ((u.flaggedWhere (· == l.tote)).reready l.handle).lane.headUrgent = false := by
    rw [ready.lane_eq (by simp), State.flaggedWhere_headUrgent, laneU, calm]
    rw [laneU]
    exact fun r hr => by simpa using away r (List.mem_of_mem_head? hr)
  have bus : ((u.flaggedWhere (· == l.tote)).reready l.handle).bus = s.bus := by
    rw [ready.bus_eq (by simp), flags.bus_eq (by simp), ended.frame.bus_eq (by simp)]
  generalize (u.flaggedWhere (· == l.tote)).reready l.handle = w at *
  have unwanted : w.preemptWanted = false := by
    refine Bool.eq_false_iff.mpr fun k => ?_
    obtain ⟨-, -, urgent, -⟩ := State.preemptWanted_iff.mp k
    rw [head] at urgent
    cases urgent
  refine ⟨w, u.urgentMark q, ?_, demand, orders, bus, face, ?_, ?_, .inr (.inr fun r hr => ?_)⟩
  · rw [awake, State.preemptCheck_of_unwanted unwanted, if_neg (by rw [face]; decide)]
  · rw [lane, Lane.mapRecs, hq]
    exact congrArg some (if_pos (by simpa using tote))
  · rw [lineToWork_eq_answered, ended.answered law hl active orders (by rw [demand, ended.lines])]
    exact (congrArg (Answered s) tote).trans (answered_of_only idle work only)
  · rw [lane, Lane.mapRecs, List.head?_map] at hr
    obtain ⟨p, hp, rfl⟩ := Option.mem_map.mp hr
    have other := away p (List.mem_of_mem_head? hp)
    rw [if_neg (by simpa using other)]
    exact fun k => other (k.trans tote)

/-- The last workable line takes the want record with it. -/
theorem LineEnded.takesLast (mode : s.mode = .active) (calm : s.lane.headUrgent = false)
    (wantsLaw : WantsLaw s) (away : ∀ p ∈ s.lane.queue, p.tote ≠ l.tote)
    (idle : ∀ r ∈ s.demand.lines, r.tote = l.tote → r.state ≠ .suspended)
    (wants : u.demand.wants = s.demand.wants) :
    { m with state := .active } ∈ (u.lineBoundary l).settleLane.demand.lines ∧
      (u.lineBoundary l).settleLane.picker.active = positionOf s.puts m.handle ∧
      (u.lineBoundary l).settleLane.demand.wants =
        s.demand.wants.filter (fun w => decide (w.tote ≠ l.tote)) ∧
      (s.bus.tx = .on → s.bus.queue.length < 15 →
        { sender := s.bus.ownStation.getD 0, tote := l.tote, body := .drop } ∈
          (u.lineBoundary l).settleLane.bus.queue) := by
  obtain ⟨w, q, boundary, demand, orders, bus, face, record, found, steady⟩ :=
    ended.asksForLast law hl active present work only mode calm away idle
  have presents := State.requestLine_presents face record found steady
  have request := State.requestLine_of_line record found steady
  have flagged := (w.working m).flaggedWhere_frame (· == m.tote)
  have weightless := ended.weightless law hl active work only orders (by rw [demand, ended.lines])
  obtain ⟨hm, toteM, workable⟩ := work
  rw [boundary]
  refine ⟨?_, ?_, ?_, fun on room => ?_⟩
  · rw [presents.lines]
    exact List.mem_map.mpr ⟨m, (lineToWork_mem found).1, if_pos rfl⟩
  · rw [presents.picker, orders.positionOf_eq]
  · rw [request, (State.settleLane_frame _).demand_eq (by simp), flagged.demand_eq (by simp),
      State.working, (State.deriveWant_of_no_weight weightless).1]
    refine (congrArg (List.filter _) ((congrArg Demand.wants demand).trans wants)).trans ?_
    exact List.filter_congr fun r _ => by simp [toteM, bne, beq_eq_decide]
  · have wanted : ∃ r ∈ ((w.setLineState m.tag .active).light m).demand.wants, r.tote = m.tote := by
      refine (congrArg (fun ws : List WantRec => ∃ r ∈ ws, r.tote = m.tote)
        ((congrArg Demand.wants demand).trans wants)).mpr ((wantsLaw.2 _).mpr ?_)
      rw [isWorkable, Bool.and_eq_true, beq_iff_eq] at workable
      exact hasWorkable_iff.mpr ⟨m, hm, rfl, workable⟩
    have sameBus : ((w.setLineState m.tag .active).light m).bus = s.bus := bus
    have queued := State.deriveWant_drop_settled (v := w.requestLine) weightless wanted
      (by rwa [sameBus]) (by rwa [sameBus]) (by rw [request, flagged.bus_eq (by simp), State.working])
    rwa [sameBus, toteM] at queued

end

/-! ### O54 -/

theorem State.countPut_partial {b : State} {l : Line} (more : l.puts + 1 < l.qty) :
    SameExcept [.picker, .demand] b (b.countPut l) ∧
      (b.countPut l).demand = { b.demand with lines := b.demand.lines.map fun m =>
        if m.tag = l.tag then { m with puts := l.puts + 1 } else m } ∧
      (b.countPut l).picker = { b.picker with display := some (l.qty - (l.puts + 1)) } := by
  rw [State.countPut_of_more more]
  exact ⟨by simp [SameExcept, State.setPuts, State.withLines], rfl, rfl⟩

/-- Settles O54: each test of R133 in its order, and the boundary of a last put. -/
theorem beamBreak : Obligations.BeamBreak := by
  unfold Obligations.BeamBreak
  refine fun s k configured => ⟨fun stuck => ?_, fun free => ?_⟩
  · refine ⟨_, exec_beamBreak configured, ?_⟩
    have beam : (s.setBeam k brokenBeam).picker.beams[k] =
        { s.picker.beams[k] with blocked := true } := by
      rw [State.setBeam_beams, if_pos rfl, brokenBeam_of_stuck stuck]
    rw [State.judgeBreak_of_stuck (by rw [beam]; exact stuck)]
    exact ⟨s.setBeam_frame k _, beam, rfl, rfl, rfl⟩
  · have next := exec_beamBreak configured (k := k)
    have frame := s.setBeam_frame k brokenBeam
    have freeB : (s.setBeam k brokenBeam).picker.beams[k].stuck = false := by
      rw [State.setBeam_beams, if_pos rfl, brokenBeam_of_free free]
      exact free
    refine ⟨_, next, exec_next_frame next, ?_, fun j hj => ?_, fun settling => ?_,
      fun settled wrong => ?_, fun l settled lit law present hl active => ⟨fun more => ?_, fun last => ?_⟩⟩
    · rw [State.judgeBreak_beams, State.setBeam_beams, if_pos rfl, brokenBeam_of_free free]
    · rw [State.judgeBreak_beams, State.setBeam_beams, if_neg hj]
    · rw [State.judgeBreak_of_settling freeB settling]
      exact ⟨frame.step (State.raise_frame _ _ _) (by simp) (by simp),
        (s.setBeam k brokenBeam).raise_once .overPut _⟩
    · rw [State.judgeBreak_of_wrong freeB settled wrong]
      exact ⟨frame.step (State.raise_frame _ _ _) (by simp) (by simp), rfl, rfl,
        (s.setBeam k brokenBeam).raise_once .wrongPut _⟩
    · rw [State.judgeBreak_of_put freeB settled lit (present.activeLine hl active)]
      obtain ⟨put, demand, picker⟩ := State.countPut_partial (b := s.setBeam k brokenBeam) more
      rw [demand, picker]
      exact ⟨frame.step put (by simp) (by simp), rfl, rfl, rfl, lit, rfl, rfl⟩
    · rw [State.judgeBreak_of_put freeB settled lit (present.activeLine hl active),
        State.countPut_of_last (by omega)]
      have ended := State.beamPut_ended (k := k) (f := brokenBeam) law.2.1 hl
      have kept := ((s.setBeam k brokenBeam).putDone l).boundary_pickKept l
      have raises := ((s.setBeam k brokenBeam).putDone l).boundary_raisesOnly l
      obtain ⟨pending, detail⟩ := State.putDone_raised (s := s.setBeam k brokenBeam) (l := l)
      have closed := ended.closedIn law.2.1 hl
        (State.putDone_orderKept (s := s.setBeam k brokenBeam) (l := l))
      refine ⟨?_, kept.settles k (State.leaveActive_settles lit), (raises .lineDone).2 pending,
        fun off => ?_, fun o hk ho => ?_, ended.follows hl active present law,
        fun m mode calm wants away idle hm tote work only => ?_⟩
      · refine kept.closed (closed.nodup law.2.1) _ ?_ rfl
        rw [ended.lines, ← last]
        exact List.mem_map.mpr ⟨l, hl, swapLine_of_same rfl⟩
      · rw [(raises .lineDone).1 (by simp)]
        exact detail off
      · exact (closed.reurgent law.2.1 _).ready hl (State.boundary_ordersKept _ l) hk ho
      · exact ended.takesLast law hl active present ⟨hm, tote, work⟩ only mode calm wants away idle rfl

end Sys2Proof.Machine
end

section
/-! PROOFS. CANCEL_LINE (R21, R29, R34, R137): O22. -/

namespace Sys2Proof.Machine

/-! ### A line that is cancelled -/

/-- The line CANCELLED and, where it was waiting, its tote's want record derived anew (R21, R29). -/
def State.struck (s : State) (l : Line) : State :=
  if l.state = .waiting then (s.setLineState l.tag .cancelled).deriveWant l.tote
  else s.setLineState l.tag .cancelled

section
variable {s : State} {l : Line}

theorem State.struck_of_waiting (waiting : l.state = .waiting) :
    s.struck l = (s.setLineState l.tag .cancelled).deriveWant l.tote := if_pos waiting

theorem State.struck_of_other (other : l.state ≠ .waiting) :
    s.struck l = s.setLineState l.tag .cancelled := if_neg other

theorem State.cancelOpen_of_active (active : l.state = .active) :
    s.cancelOpen l =
      (((s.setLineState l.tag .cancelled).leaveActive).lineBoundary l).settleLane := by
  unfold State.cancelOpen
  rw [active]

theorem State.cancelOpen_of_idle (isOpen : l.state.isOpen = true) (idle : l.state ≠ .active) :
    s.cancelOpen l = (((s.struck l).reready l.handle).reurgent (· == l.tote)).settleLane := by
  unfold State.cancelOpen
  cases state : l.state with
  | active => exact absurd state idle
  | waiting => rw [State.struck_of_waiting state]
  | suspended => rw [State.struck_of_other (by rw [state]; decide)]
  | held => rw [State.struck_of_other (by rw [state]; decide)]
  | done | short | cancelled =>
    rw [state] at isOpen
    cases isOpen

theorem State.struck_frame (s : State) (l : Line) :
    SameExcept [.demand, .bus, .notices] s (s.struck l) := by
  have line := s.setLineState_frame l.tag .cancelled
  unfold State.struck
  split
  · exact line.step (State.deriveWant_frame _ _) (by simp) (by simp)
  · exact line.mono (by simp)

theorem State.struck_lines (s : State) (l : Line) : (s.struck l).demand.lines =
    s.demand.lines.map fun m => if m.tag = l.tag then { m with state := .cancelled } else m := by
  unfold State.struck
  split
  · exact State.deriveWant_lines _ _
  · rfl

theorem State.struck_ordersKept (s : State) (l : Line) :
    OrdersKept (s.setLineState l.tag .cancelled) (s.struck l) := by
  unfold State.struck
  split
  · exact State.deriveWant_ordersKept _ _
  · exact .refl _

theorem State.struck_closedIn (s : State) (l : Line) : ClosedIn l s (s.struck l) :=
  (s.setLineState_closedIn l rfl).later (s.struck_ordersKept l) (s.struck_lines l)

theorem State.left_ended (nodup : (s.demand.lines.map Line.tag).Nodup) (hl : l ∈ s.demand.lines) :
    LineEnded l { l with state := .cancelled } s (s.setLineState l.tag .cancelled).leaveActive :=
  .of_leave ((s.setLineState_frame _ _).mono (by simp)) (setLineState_eq_swapLine nodup hl .cancelled)
    rfl rfl rfl rfl rfl

theorem State.cancelOpen_pickKept (isOpen : l.state.isOpen = true) :
    PickKept (s.setLineState l.tag .cancelled) (s.cancelOpen l) := by
  by_cases active : l.state = .active
  · rw [State.cancelOpen_of_active active]
    exact (State.leaveActive_pickKept _).trans (State.boundary_pickKept _ l)
  · have struck : PickKept (s.setLineState l.tag .cancelled) (s.struck l) := by
      unfold State.struck
      split
      · exact State.deriveWant_pickKept _ _
      · exact .refl _
    rw [State.cancelOpen_of_idle isOpen active]
    exact ((struck.trans (State.reready_pickKept _ _)).trans (State.reurgent_pickKept _ _)).trans
      (State.settleLane_pickKept _)

/-- Before its order is re-evaluated the line has closed, and nothing after that reads the orders. -/
theorem State.cancelOpen_closedIn (nodup : (s.demand.lines.map Line.tag).Nodup)
    (hl : l ∈ s.demand.lines) (isOpen : l.state.isOpen = true) :
    ∃ w, ClosedIn l s w ∧ OrdersKept (w.reready l.handle) (s.cancelOpen l) := by
  by_cases active : l.state = .active
  · rw [State.cancelOpen_of_active active]
    exact ⟨_, ((State.left_ended nodup hl).closedIn nodup hl rfl).reurgent nodup _,
      State.boundary_ordersKept _ l⟩
  · rw [State.cancelOpen_of_idle isOpen active]
    exact ⟨_, s.struck_closedIn l,
      (State.reurgent_ordersKept _ _).trans (State.settleLane_ordersKept _)⟩

/-! ### A cancelled line of a tote outside the lane -/

theorem State.cancelOpen_of_away (isOpen : l.state.isOpen = true) (idle : l.state ≠ .active)
    (away : s.inOwnLane l.tote = false) :
    s.cancelOpen l = ((s.struck l).reready l.handle).settleLane := by
  have frame := (s.struck_frame l).trans ((s.struck l).reready_frame l.handle)
  have absent : ((s.struck l).reready l.handle).inOwnLane l.tote = false := by
    rw [State.inOwnLane, frame.divert_eq (by simp), frame.lane_eq (by simp)]
    exact away
  rw [State.cancelOpen_of_idle isOpen idle, State.reurgent_of_absent absent]

theorem State.struck_settled_demand (s : State) (l : Line) :
    ((s.struck l).reready l.handle).settleLane.demand = (s.struck l).demand := by
  rw [(State.settleLane_frame _).demand_eq (by simp), (State.reready_frame _ _).demand_eq (by simp)]

/-- The tote's last workable line is cancelled (R29, R38). -/
theorem State.setLineState_weightless
    (only : ∀ m ∈ s.demand.lines, m.tote = l.tote → m.tag ≠ l.tag → isWorkable s.puts m = false) :
    (s.setLineState l.tag .cancelled).weightOf l.tote = none := by
  refine State.weightOf_none fun r hr tote => ?_
  obtain ⟨m, hm, rfl⟩ := List.mem_map.mp hr
  by_cases same : m.tag = l.tag
  · rw [if_pos same]
    rfl
  · rw [if_neg same] at tote ⊢
    exact only m hm tote same

end

theorem find?_tag_of_mem {ls : List Line} (nodup : (ls.map Line.tag).Nodup) {l : Line} (hl : l ∈ ls) :
    ls.find? (fun m => m.tag == l.tag) = some l := by
  cases found : ls.find? fun m => m.tag == l.tag with
  | none => exact absurd (List.find?_eq_none.mp found l hl) (by simp)
  | some m =>
    exact congrArg some (eq_of_tag_eq nodup (List.mem_of_find?_eq_some found) hl
      (by simpa using List.find?_some found))

/-! ### O22 -/

section
variable {s : State} {tag : Tag}

theorem exec_cancelLine_of_unknown (configured : s.mode ≠ .unconfigured)
    (unknown : ∀ l ∈ s.demand.lines, l.tag ≠ tag) :
    exec (.cancelLine tag) s = .next (s.answered [5, 7, 244]) := by
  have none : (s.demand.lines.find? fun l => l.tag == tag) = none :=
    List.find?_eq_none.mpr fun l hl => by simpa using unknown l hl
  refine congrArg Host.Outcome.next ((State.whenConfigured_configured configured 5 _).trans ?_)
  rw [none]
  rfl

theorem exec_cancelLine_of_known (configured : s.mode ≠ .unconfigured) {l : Line}
    (found : (s.demand.lines.find? fun l => l.tag == tag) = some l) :
    exec (.cancelLine tag) s = .next (if l.state.isOpen then (s.cancelOpen l).reply 5 .accepted
      else s.reply 5 .wrongState) := by
  refine congrArg Host.Outcome.next ((State.whenConfigured_configured configured 5 _).trans ?_)
  rw [found]

end

/-- Settles O22: the refusals, and the line that is cancelled in each of its open states. -/
theorem cancelLine : Obligations.CancelLine := by
  unfold Obligations.CancelLine
  refine fun tag s configured => ⟨exec_cancelLine_of_unknown configured, fun l found =>
    ⟨fun closed => ?_, fun open_ nodup => ?_⟩⟩
  · rw [exec_cancelLine_of_known configured found,
      (LineState.isOpen_eq_false_iff l.state).mpr closed]
    rfl
  · have hl := List.mem_of_find?_eq_some found
    obtain rfl : l.tag = tag := by simpa using List.find?_some found
    have isOpen : l.state.isOpen = true := by
      rw [LineState.isOpen_iff]
      exact open_
    have next := exec_cancelLine_of_known configured found
    rw [isOpen, if_pos rfl] at next
    have kept := State.cancelOpen_pickKept (s := s) isOpen
    obtain ⟨w, closed, after⟩ := State.cancelOpen_closedIn nodup hl isOpen
    have mem : { l with state := .cancelled } ∈ (s.cancelOpen l).demand.lines := by
      refine kept.closed ((s.setLineState_closedIn l rfl).nodup nodup) _ ?_ rfl
      exact List.mem_map.mpr ⟨l, hl, if_pos rfl⟩
    refine ⟨_, next, exec_next_frame next,
      (s.cancelOpen_frame l).replied (by simp [settleBlocks]) 5 .accepted,
      kept.facts.trans (s.setLineState_facts _ _), ?_, fun active k lit => ?_,
      fun active law present absent => ?_, fun idle away => ?_, fun other idle away => ?_,
      fun waiting away law placed only => ?_, fun k o hk ho => ?_, fun unplaced => ?_⟩
    · refine find?_tag_of_mem (l := { l with state := .cancelled }) ?_ mem
      show ((s.cancelOpen l).demand.lines.map Line.tag).Nodup
      rw [kept.tags]
      exact (s.setLineState_closedIn l rfl).nodup nodup
    · show (s.cancelOpen l).picker.settles[k] = _
      rw [State.cancelOpen_of_active active]
      exact (State.boundary_pickKept _ l).settles k (State.leaveActive_settles lit)
    · have follows := (State.left_ended nodup hl).follows hl active present law absent
      rw [← State.cancelOpen_of_active active] at follows
      exact follows
    · show (s.cancelOpen l).demand.lines = _
      rw [State.cancelOpen_of_away isOpen idle away, State.struck_settled_demand, State.struck_lines]
    · show (s.cancelOpen l).demand.wants = _
      rw [State.cancelOpen_of_away isOpen idle away, State.struck_settled_demand,
        State.struck_of_other other]
      rfl
    · have weightless := State.setLineState_weightless only
      have idle : l.state ≠ .active := by rw [waiting]; decide
      have wanted : ∃ r ∈ s.demand.wants, r.tote = l.tote :=
        (law.2 _).mpr (hasWorkable_iff.mpr ⟨l, hl, rfl, waiting, placed⟩)
      show (s.cancelOpen l).demand.wants = _ ∧ (_ → _ → _ ∈ (s.cancelOpen l).bus.queue)
      rw [State.cancelOpen_of_away isOpen idle away]
      refine ⟨?_, fun on room => ?_⟩
      · rw [State.struck_settled_demand, State.struck_of_waiting waiting,
          (State.deriveWant_of_no_weight weightless).1]
        exact List.filter_congr fun r _ => by simp [bne, beq_eq_decide]
      · exact State.deriveWant_drop_settled (u := s.setLineState l.tag .cancelled) weightless wanted on
          room (by rw [(State.reready_frame _ _).bus_eq (by simp), State.struck_of_waiting waiting])
    · exact closed.ready hl after hk ho
    · exact closed.unplaced after unplaced

end Sys2Proof.Machine
end

section
/-! PROOFS. What goes stale (R67, R74), the refreshes (R41, R77) and the full transmit queue (R55, R57): O31. -/

namespace Sys2Proof.Machine

/-! ### A frame meets a full queue (R55, R57) -/

theorem dropNewestClass3_of_last {a b : List Frame} {f : Frame} (class3 : f.body.lineClass = 3)
    (last : ∀ g ∈ b, g.body.lineClass ≠ 3) : dropNewestClass3 (a ++ f :: b) = a ++ b := by
  have later : ∀ g ∈ b.reverse, ¬ (g.body.lineClass == 3) = true := fun g hg => by
    simpa using last g (List.mem_reverse.mp hg)
  rw [dropNewestClass3, List.reverse_append, List.reverse_cons, List.append_assoc,
    List.eraseP_append_right _ later, List.singleton_append, List.eraseP_cons_of_pos (by simp [class3]),
    List.reverse_append, List.reverse_reverse, List.reverse_reverse]

section
variable {q : List Frame} {f : Frame}

theorem enqueue_eq_of_key (h : ∃ g ∈ q, frameKey g = frameKey f) :
    enqueue q f = (q.map fun g => if frameKey g = frameKey f then f else g, false) :=
  if_pos (by simpa using h)

variable (fresh : ∀ g ∈ q, frameKey g ≠ frameKey f) (full : 16 ≤ q.length)
include fresh full

theorem enqueue_of_full :
    enqueue q f =
      if f.body.lineClass = 3 then (q, false)
      else if q.any fun g => g.body.lineClass == 3 then (dropNewestClass3 q ++ [f], false)
      else (q, true) :=
  (if_neg (by simpa using fresh)).trans (if_neg (by omega))

theorem enqueue_of_full_class3 (class3 : f.body.lineClass = 3) : enqueue q f = (q, false) :=
  (enqueue_of_full fresh full).trans (if_pos class3)

theorem enqueue_of_full_crowded (other : f.body.lineClass ≠ 3)
    (none : ∀ g ∈ q, g.body.lineClass ≠ 3) : enqueue q f = (q, true) :=
  ((enqueue_of_full fresh full).trans (if_neg other)).trans (if_neg (by simpa using none))

theorem enqueue_of_full_dropping (other : f.body.lineClass ≠ 3) {a b : List Frame} {g : Frame}
    (split : q = a ++ g :: b) (class3 : g.body.lineClass = 3)
    (last : ∀ h ∈ b, h.body.lineClass ≠ 3) : enqueue q f = (a ++ b ++ [f], false) := by
  refine ((enqueue_of_full fresh full).trans (if_neg other)).trans ?_
  rw [split, dropNewestClass3_of_last class3 last]
  exact if_pos (by simp [class3])

end

section
variable {s : State} {T : ToteNo} {b : FrameBody} {q : List Frame} (on : s.bus.tx = .on)
include on

theorem State.request_taken
    (h : enqueue s.bus.queue { sender := s.bus.ownStation.getD 0, tote := T, body := b } = (q, false)) :
    s.request T b = s.withTx q := by
  refine (if_pos on).trans ?_
  dsimp only
  rw [h]
  rfl

theorem State.request_abandoned
    (h : enqueue s.bus.queue { sender := s.bus.ownStation.getD 0, tote := T, body := b } = (q, true)) :
    s.request T b = (s.withTx q).raise .frameAbandoned T := by
  refine (if_pos on).trans ?_
  dsimp only
  rw [h]
  rfl

end

/-! ### The state and hold refresh (R77) -/

/-- The own refresh count started afresh. -/
def State.recounted (s : State) : State := { s with board := { s.board with refreshCount := 0 } }

/-- The HOLDs of the lane's totes. -/
def State.holds (s : State) (Ts : List ToteNo) : State := Ts.foldl (fun s T => s.request T .hold) s

theorem State.refresh_eq (s : State) :
    s.refresh = s.recounted.requestState.holds (holdTotes s.lane) := rfl

theorem State.holds_cons (s : State) (T : ToteNo) (Ts : List ToteNo) :
    s.holds (T :: Ts) = (s.request T .hold).holds Ts := rfl

theorem mem_holdTotes {l : Lane} {T : ToteNo} : T ∈ holdTotes l ↔
    T ≠ 0 ∧ ∃ q ∈ l.queue ++ l.faceRec.toList ++ l.parkRec.toList, q.tote = T := by
  simp only [holdTotes, List.mem_filter, List.mem_map, List.mem_append, bne_iff_ne]
  constructor
  · rintro ⟨⟨q, hq, rfl⟩, h⟩
    exact ⟨h, q, by tauto, rfl⟩
  · rintro ⟨h, q, hq, rfl⟩
    exact ⟨⟨q, by tauto, rfl⟩, h⟩

theorem holdTotes_length (s : State) : (holdTotes s.lane).length ≤ (ownTotes s).length := by
  refine (List.length_filter_le _ _).trans ?_
  simp only [ownTotes, List.length_append, List.length_map]
  omega

/-- Every HOLD finds room and stands in the queue at the end. -/
theorem State.holds_of_room {L : List TxKey} {Ts : List ToteNo} {u : State}
    (keys : ∀ T ∈ Ts, .holdRelease T ∈ L) (room : RoomFor L u) :
    SameExcept [.bus] u (u.holds Ts) ∧
      (u.bus.tx = .on → ∀ T ∈ Ts, ∃ f ∈ (u.holds Ts).bus.queue, f.tote = T ∧ f.body = .hold) := by
  induction Ts generalizing u with
  | nil => exact ⟨.refl _ _, fun _ T hT => (by cases hT)⟩
  | cons T Ts ih =>
    have key : requestKey T .hold ∈ L := keys T List.mem_cons_self
    have asked := u.request_requests T .hold
    have left := asked.room L (by rintro k rfl; exact key) room
    obtain ⟨frame, queued⟩ := ih (fun U hU => keys U (List.mem_cons_of_mem _ hU)) left
    rw [State.holds_cons]
    refine ⟨(State.request_frame_of_room key room).step frame (by simp) (by simp), fun on U hU => ?_⟩
    rcases List.mem_cons.mp hU with rfl | hU
    · by_cases again : U ∈ Ts
      · exact queued (asked.tx.trans on) U again
      · have first := State.request_queued on key room
        have kept := (holds_requests Ts (u.request U .hold)).kept L
          (by rintro k ⟨V, hV, rfl⟩; exact keys V (List.mem_cons_of_mem _ hV)) left _ first
          (by rintro ⟨V, hV, same⟩; exact again (by cases same; exact hV))
        exact ⟨_, kept, rfl, rfl⟩
    · exact queued (asked.tx.trans on) U hU

/-! ### The refresh with its STATE frame's key queued (R55) -/

def State.holdFrame (s : State) (T : ToteNo) : Frame :=
  { sender := s.bus.ownStation.getD 0, tote := T, body := .hold }

/-- The queue with the STATE frame in the place of the one queued. -/
def State.restated (s : State) : List Frame :=
  s.bus.queue.map fun g => if frameKey g = .state then s.stateFrame s.modeCtl.able else g

section
variable {s : State}

theorem State.mem_restated_key {T : ToteNo} :
    (∃ g ∈ s.restated, frameKey g = .holdRelease T) ↔
      ∃ g ∈ s.bus.queue, frameKey g = .holdRelease T := by
  have same (g : Frame) :
      frameKey (if frameKey g = .state then s.stateFrame s.modeCtl.able else g) = frameKey g := by
    split
    · rename_i h
      exact h.symm
    · rfl
  simp only [State.restated, List.mem_map, exists_exists_and_eq_and, same]

theorem State.restated_class (none : ∀ g ∈ s.bus.queue, g.body.lineClass ≠ 3) :
    ∀ g ∈ s.restated, g.body.lineClass ≠ 3 := by
  intro g hg
  obtain ⟨f, hf, rfl⟩ := List.mem_map.mp hg
  split
  · exact (by decide : (2 : Nat) ≠ 3)
  · exact none f hf

theorem State.refresh_of_holds (lane : holdTotes s.lane = []) :
    s.refresh = s.recounted.requestState := by
  rw [State.refresh_eq, lane]
  rfl

theorem State.refresh_of_hold {T : ToteNo} (lane : holdTotes s.lane = [T]) :
    s.refresh = s.recounted.requestState.request T .hold := by
  rw [State.refresh_eq, lane]
  rfl

theorem State.recounted_restated (on : s.bus.tx = .on) (key : ∃ g ∈ s.bus.queue, frameKey g = .state) :
    s.recounted.requestState = s.recounted.withTx s.restated :=
  State.request_taken (s := s.recounted) on (enqueue_eq_of_key key)

/-- A full queue without its key: STATE is abandoned, or takes the newest class-3 frame's place. -/
theorem State.recounted_of_full (on : s.bus.tx = .on) (full : 16 ≤ s.bus.queue.length)
    (fresh : ∀ g ∈ s.bus.queue, frameKey g ≠ .state) :
    ((∀ g ∈ s.bus.queue, g.body.lineClass ≠ 3) →
        s.recounted.requestState = (s.recounted.withTx s.bus.queue).raise .frameAbandoned 0) ∧
      ∀ a f b, s.bus.queue = a ++ f :: b → f.body.lineClass = 3 →
        (∀ g ∈ b, g.body.lineClass ≠ 3) →
        s.recounted.requestState = s.recounted.withTx (a ++ b ++ [s.stateFrame s.modeCtl.able]) :=
  ⟨fun none => State.request_abandoned (s := s.recounted) on
      (enqueue_of_full_crowded fresh full (by simp [FrameBody.lineClass]) none),
    fun _ _ _ split class3 last => State.request_taken (s := s.recounted) on
      (enqueue_of_full_dropping fresh full (by simp [FrameBody.lineClass]) split class3 last)⟩

/-- The HOLD after a STATE that was replaced in place, in each case of R55 and R57. -/
theorem State.hold_after_restated {T : ToteNo} (on : s.bus.tx = .on) :
    ((∃ g ∈ s.bus.queue, frameKey g = .holdRelease T) →
        (s.recounted.withTx s.restated).request T .hold =
          (s.recounted.withTx s.restated).withTx (s.restated.map fun g =>
            if frameKey g = .holdRelease T then s.holdFrame T else g)) ∧
      ((∀ g ∈ s.bus.queue, frameKey g ≠ .holdRelease T) → 16 ≤ s.bus.queue.length →
        ((∀ g ∈ s.bus.queue, g.body.lineClass ≠ 3) →
          (s.recounted.withTx s.restated).request T .hold =
            ((s.recounted.withTx s.restated).withTx s.restated).raise .frameAbandoned T) ∧
        ∀ a f b, s.restated = a ++ f :: b → f.body.lineClass = 3 →
          (∀ g ∈ b, g.body.lineClass ≠ 3) →
          (s.recounted.withTx s.restated).request T .hold =
            (s.recounted.withTx s.restated).withTx (a ++ b ++ [s.holdFrame T])) := by
  refine ⟨fun key => State.request_taken (s := s.recounted.withTx s.restated) on
      (enqueue_eq_of_key (State.mem_restated_key.mpr key)), fun fresh full => ?_⟩
  have freshR : ∀ g ∈ s.restated, frameKey g ≠ .holdRelease T := fun g hg same => by
    obtain ⟨f, hf, key⟩ := State.mem_restated_key.mp ⟨g, hg, same⟩
    exact fresh f hf key
  have fullR : 16 ≤ s.restated.length := by rwa [State.restated, List.length_map]
  exact ⟨fun none => State.request_abandoned (s := s.recounted.withTx s.restated) on
      (enqueue_of_full_crowded freshR fullR (by simp [FrameBody.lineClass]) (State.restated_class none)),
    fun _ _ _ split class3 last => State.request_taken (s := s.recounted.withTx s.restated) on
      (enqueue_of_full_dropping freshR fullR (by simp [FrameBody.lineClass]) split class3 last)⟩

end

/-! ### When the refreshes are due (R41, R77) -/

section
variable {s : State}

theorem exec_refresh_of_early (early : s.board.refreshCount < s.conf.refreshPeriod) :
    exec .stateAndHoldRefresh s = .next s :=
  congrArg Host.Outcome.next (if_neg (by simp [early]))

theorem exec_refresh_of_due (configured : s.mode ≠ .unconfigured)
    (due : s.conf.refreshPeriod ≤ s.board.refreshCount) :
    exec .stateAndHoldRefresh s = .next s.refresh :=
  congrArg Host.Outcome.next (if_pos (by simp [s.configured_iff.mpr configured, due]))

variable {w : WantRec} {W : Nat} (wanted : s.wantOf w.tote = some w)
  (weight : s.weightOf w.tote = some W)
include wanted weight

theorem exec_wantRefresh : exec (.wantRefresh w.tote) s =
    .next (if s.refreshDue w then s.announce w.tote W else s) := by
  refine congrArg Host.Outcome.next ?_
  rw [wanted, weight]

end

theorem State.announce_eq (s : State) (T : ToteNo) (W : Nat) :
    s.announce T W = (s.withWants (s.demand.wants.map (s.announced T W))).request T
      (.want (BitVec.ofNat 16 W)) := rfl

/-! ### O31 -/

/-- With room for them STATE and the HOLDs are queued (R77). -/
theorem State.refresh_of_room {s : State} (on : s.bus.tx = .on)
    (room : s.bus.queue.length + 1 + (ownTotes s).length ≤ 16) :
    s.refresh.notices = s.notices ∧
      (∃ f ∈ s.refresh.bus.queue, f.tote = 0 ∧ f.body = .state (boolCode s.modeCtl.able)) ∧
      ∀ T ∈ holdTotes s.lane, ∃ f ∈ s.refresh.bus.queue, f.tote = T ∧ f.body = .hold := by
  have fits : RoomFor (.state :: (holdTotes s.lane).map .holdRelease) s.recounted := by
    refine .of_length ?_
    have := holdTotes_length s
    simp only [List.length_cons, List.length_map]
    show s.bus.queue.length + _ ≤ 16
    omega
  have asked := s.recounted.requestState_requests
  have left := asked.room _ (by rintro k rfl; exact List.mem_cons_self) fits
  have keys : ∀ T ∈ holdTotes s.lane, TxKey.holdRelease T ∈
      .state :: (holdTotes s.lane).map TxKey.holdRelease := fun T hT =>
    List.mem_cons_of_mem _ (List.mem_map_of_mem hT)
  obtain ⟨frame, held⟩ := State.holds_of_room keys left
  have first := State.request_frame_of_room (s := s.recounted) (T := 0)
    (b := .state (boolCode s.modeCtl.able)) List.mem_cons_self fits
  have queued := State.request_queued (s := s.recounted) (T := 0)
    (b := .state (boolCode s.modeCtl.able)) on List.mem_cons_self fits
  rw [State.refresh_eq]
  refine ⟨?_, ⟨s.stateFrame s.modeCtl.able, ?_, rfl, rfl⟩, held (asked.tx.trans on)⟩
  · rw [frame.notices_eq (by simp)]
    exact first.notices_eq (by simp)
  · refine (holds_requests (holdTotes s.lane) _).kept _ ?_ left _ queued
      (by simp [State.stateFrame, frameKey])
    rintro k ⟨T, hT, rfl⟩
    exact keys T hT

theorem State.refresh_of_off {s : State} (off : s.bus.tx ≠ .on) : s.refresh = s.recounted := by
  have holds (Ts : List ToteNo) : s.recounted.holds Ts = s.recounted := by
    induction Ts with
    | nil => rfl
    | cons T Ts ih => rw [State.holds_cons, State.request_bus_off (s := s.recounted) off, ih]
  have state : s.recounted.requestState = s.recounted := State.request_bus_off (s := s.recounted) off _ _
  rw [State.refresh_eq, state, holds]

theorem holdTotes_of_alone {l : Lane} (queue : l.queue = []) (park : l.parkRec = none) :
    (l.faceRec = none → holdTotes l = []) ∧
      ∀ q, l.faceRec = some q → q.tote ≠ 0 → holdTotes l = [q.tote] := by
  refine ⟨fun face => by simp [holdTotes, queue, park, face], fun q face stock => ?_⟩
  simp [holdTotes, queue, park, face, show ¬ q.tote = 0#32 from stock]

/-- What WANT does to a full queue, and to one that holds its key (R55, R57). -/
theorem State.announce_of_full {s : State} {T : ToteNo} {W : Nat} :
    (16 ≤ s.bus.queue.length → (∀ g ∈ s.bus.queue, frameKey g ≠ .wantDrop T) →
        s.announce T W = s.withWants (s.demand.wants.map (s.announced T W))) ∧
      (s.bus.tx = .on → (∃ g ∈ s.bus.queue, frameKey g = .wantDrop T) →
        s.announce T W = (s.withWants (s.demand.wants.map (s.announced T W))).withTx
          (s.bus.queue.map fun g => if frameKey g = .wantDrop T then
            { sender := s.bus.ownStation.getD 0, tote := T, body := .want (BitVec.ofNat 16 W) } else g)) := by
  refine ⟨fun full fresh => ?_, fun on key => State.request_taken (s := s.withWants _) on
    (enqueue_eq_of_key key)⟩
  by_cases on : s.bus.tx = .on
  · exact State.request_taken (s := s.withWants _) on (enqueue_of_full_class3 fresh full rfl)
  · exact State.request_bus_off (s := s.withWants (s.demand.wants.map (s.announced T W))) on _ _

/-- Settles O31: each command where it is due and where it is not, by the state of the queue. -/
theorem staleAndRefresh : Obligations.StaleAndRefresh := by
  unfold Obligations.StaleAndRefresh
  refine fun s => ⟨fun x => ⟨_, rfl, ?_, rfl, rfl, rfl, fun y hy => ?_, ?_⟩,
    fun x T => ⟨_, rfl, ?_, rfl, rfl, rfl, fun e => ?_⟩, exec_refresh_of_early,
    fun configured due => ⟨_, exec_refresh_of_due configured due, s.refresh_frame, ?_, fun on room => ?_,
      fun off => ?_, fun on full queue face park fresh => ?_, fun on key queue park => ?_⟩,
    fun w W wanted weight => ⟨fun early => ?_, fun due => ?_⟩⟩
  · simp [SameExcept]
  · exact (getElem_modifyVec ..).trans (if_neg fun same => hy (Fin.ext same))
  · refine (getElem_modifyVec ..).trans ((if_pos rfl).trans ?_)
    simp [staleStation]
  · simp [SameExcept]
  · simp only [List.mem_filter, isFresh, Bool.or_eq_true, Bool.not_eq_true', Bool.and_eq_false_iff,
      beq_eq_false_iff_ne, decide_eq_true_eq]
    refine and_congr_right fun _ => ?_
    by_cases hx : e.station = x <;> by_cases hT : e.tote = T <;> simp [hx, hT]
  · have board := State.refreshWork_board configured
    rw [State.refreshWork, if_pos (by simp [s.configured_iff.mpr configured, due]), if_pos due] at board
    exact board
  · obtain ⟨notices, state, holds⟩ := State.refresh_of_room on room
    exact ⟨notices, state, fun q hq stock => holds q.tote (mem_holdTotes.mpr ⟨stock, q, hq, rfl⟩)⟩
  · rw [State.refresh_of_off off]
    exact ⟨rfl, rfl⟩
  · rw [State.refresh_of_holds ((holdTotes_of_alone queue park).1 face)]
    obtain ⟨crowded, dropping⟩ := State.recounted_of_full on full fresh
    refine ⟨fun none => ?_, fun a f b split class3 last => ?_⟩
    · rw [crowded none]
      exact ⟨rfl, State.raise_once _ _ _⟩
    · rw [dropping a f b split class3 last]
      exact ⟨rfl, rfl⟩
  · have restated := State.recounted_restated on key
    obtain ⟨alone, held⟩ := holdTotes_of_alone queue park
    refine ⟨fun face => ?_, fun q face stock => ?_⟩
    · rw [State.refresh_of_holds (alone face), restated]
      exact ⟨rfl, rfl⟩
    · rw [State.refresh_of_hold (held q face stock), restated]
      obtain ⟨replaced, full⟩ := State.hold_after_restated (T := q.tote) on
      refine ⟨fun key => ?_, fun fresh long => ⟨fun none => ?_, fun a f b split class3 last => ?_⟩⟩
      · rw [replaced key]
        exact ⟨rfl, rfl⟩
      · rw [(full fresh long).1 none]
        exact ⟨rfl, State.raise_once _ _ _⟩
      · rw [(full fresh long).2 a f b split class3 last]
        exact ⟨rfl, rfl⟩
  · rw [exec_wantRefresh wanted weight, State.refreshDue, if_neg (by simp [early])]
  · have announced := exec_wantRefresh wanted weight
    rw [State.refreshDue, if_pos (by simp [due])] at announced
    obtain ⟨full, replaced⟩ := State.announce_of_full (s := s) (T := w.tote) (W := W)
    refine ⟨_, announced, s.announce_frame w.tote W, ?_, ?_, fun on room => ?_, fun long fresh => ?_,
      fun on key => ?_⟩
    · rw [State.announce_demand]
    · rw [State.announce_demand]
      rfl
    · have queued := State.request_mem
        (s := s.withWants (s.demand.wants.map (s.announced w.tote W))) on room w.tote
        (.want (BitVec.ofNat 16 W))
      exact ⟨_, queued, rfl, rfl⟩
    · rw [full long fresh]
      exact ⟨rfl, rfl⟩
    · rw [replaced on key]
      exact ⟨rfl, rfl⟩

end Sys2Proof.Machine
end

section
/-! PROOFS. An encoder pulse at the expected arrivals (R2, R83, R90 to R93). -/

namespace Sys2Proof.Machine

/-! ### What the pulse leaves of the tracker -/

/-- From `s` to `t` the speed window and the largest deviation stand (R93, R94). -/
structure TimingKept (s t : State) : Prop where
  window : t.tracker.windowCount = s.tracker.windowCount
  speed : t.tracker.speed = s.tracker.speed
  stopped : t.tracker.loopStopped = s.tracker.loopStopped
  deviation : t.tracker.maxDev = s.tracker.maxDev

/-- From `s` to `t` the lock took no event (R90 to R92). -/
structure LockStands (s t : State) : Prop where
  lock : t.tracker.lock = s.tracker.lock
  run : t.tracker.run = s.tracker.run
  attempts : t.tracker.attempts = s.tracker.attempts
  misses : t.tracker.misses = s.tracker.misses
  lost : SourceKept .trackLost s t
  fault : SourceKept .trackFault s t

section
variable {s t u : State}

theorem TimingKept.refl (s : State) : TimingKept s s := ⟨rfl, rfl, rfl, rfl⟩

theorem TimingKept.trans (h : TimingKept s t) (k : TimingKept t u) : TimingKept s u :=
  ⟨k.window.trans h.window, k.speed.trans h.speed, k.stopped.trans h.stopped,
    k.deviation.trans h.deviation⟩

theorem SameExcept.timingKept {bs : List Block} (h : SameExcept bs s t) (hb : Block.tracker ∉ bs) :
    TimingKept s t := by
  have same := h.tracker_eq hb
  constructor <;> rw [same]

theorem LockStands.refl (s : State) : LockStands s s := ⟨rfl, rfl, rfl, rfl, rfl, rfl⟩

theorem LockStands.trans (h : LockStands s t) (k : LockStands t u) : LockStands s u :=
  ⟨k.lock.trans h.lock, k.run.trans h.run, k.attempts.trans h.attempts, k.misses.trans h.misses,
    Eq.trans k.lost h.lost, Eq.trans k.fault h.fault⟩

theorem LockStands.of_raisesOnly {ns : List NoticeSource} (same : t.tracker = s.tracker)
    (raises : RaisesOnly ns s t) (lost : .trackLost ∉ ns) (fault : .trackFault ∉ ns) : LockStands s t :=
  ⟨by rw [same], by rw [same], by rw [same], by rw [same], (raises _).1 lost, (raises _).1 fault⟩

theorem LockFailed.later {T : ToteNo} (h : LockFailed T s t) (k : LockStands t u) : LockFailed T s u := by
  obtain ⟨missed, lost, attempt, fault, faulted⟩ := h
  have kept (n : NoticeSource) (same : SourceKept n t u) (d : BitVec 32) :
      SourceRaised n d s t → SourceRaised n d s u := Eq.trans same
  unfold LockFailed
  rw [k.lock, k.run, k.attempts, k.misses]
  exact ⟨fun a b => (missed a b).imp_right fun h => h.imp_right fun h => h.imp_right (Eq.trans k.lost),
    fun a b => (lost a b).imp_right fun h => h.imp_right fun h => h.imp_right fun h =>
      h.imp_right (kept _ k.lost _),
    fun a b => (attempt a b).imp_right fun h => h.imp_right fun h => h.imp_right (Eq.trans k.fault),
    fun a b => (fault a b).imp_right fun h => h.imp_right fun h => h.imp_right (kept _ k.fault _),
    fun a => (faulted a).imp_right (Eq.trans k.fault)⟩

end

/-! ### One failure (R90, R91) -/

section
variable {s : State} {T : ToteNo}

theorem lockFail_timing (r : Record) (tr : Tracker) :
    (lockFail r tr).1.windowCount = tr.windowCount ∧ (lockFail r tr).1.speed = tr.speed ∧
      (lockFail r tr).1.loopStopped = tr.loopStopped ∧ (lockFail r tr).1.maxDev = tr.maxDev := by
  by_cases locked : tr.lock = .locked
  · by_cases few : tr.misses + 1 < r.missLimit
    · rw [lockFail_missed locked few]
      exact ⟨rfl, rfl, rfl, rfl⟩
    · rw [lockFail_lost locked (by omega)]
      exact ⟨rfl, rfl, rfl, rfl⟩
  · by_cases faulted : tr.lock = .faulted
    · rw [lockFail_faulted faulted]
      exact ⟨rfl, rfl, rfl, rfl⟩
    · have open_ : tr.lock = .seeking ∨ tr.lock = .confirming := by
        cases h : tr.lock <;> simp_all
      by_cases few : tr.attempts + 1 < r.attemptLimit
      · rw [lockFail_attempt open_ few]
        exact ⟨rfl, rfl, rfl, rfl⟩
      · rw [lockFail_fault open_ (by omega)]
        exact ⟨rfl, rfl, rfl, rfl⟩

theorem State.lockFailure_timing (s : State) (T : ToteNo) : TimingKept s (s.lockFailure T) := by
  have tracker : (s.lockFailure T).tracker = (lockFail s.conf s.tracker).1 := by
    unfold State.lockFailure
    dsimp only
    split <;> rfl
  obtain ⟨window, speed, stopped, deviation⟩ := lockFail_timing s.conf s.tracker
  constructor <;> rw [tracker] <;> assumption

theorem State.lockFailure_failed (s : State) (T : ToteNo) : LockFailed T s (s.lockFailure T) := by
  refine ⟨fun locked few => ?_, fun locked many => ?_, fun open_ few => ?_, fun open_ many => ?_,
    fun faulted => ?_⟩
  · rw [State.lockFailure_quiet (lockFail_missed locked few)]
    exact ⟨locked, rfl, rfl, rfl⟩
  · rw [State.lockFailure_raises (lockFail_lost locked many)]
    exact ⟨rfl, rfl, rfl, rfl, (State.raise_for _ _ _).sourceRaised⟩
  · rw [State.lockFailure_quiet (lockFail_attempt open_ few)]
    exact ⟨rfl, rfl, rfl, rfl⟩
  · rw [State.lockFailure_raises (lockFail_fault open_ many)]
    exact ⟨rfl, rfl, rfl, (State.raise_for _ _ _).sourceRaised⟩
  · rw [State.lockFailure_quiet (lockFail_faulted faulted)]
    exact ⟨faulted, rfl⟩

theorem State.lockFailure_raisesOnly (s : State) (T : ToteNo) :
    RaisesOnly [.trackLost, .trackFault] s (s.lockFailure T) := by
  unfold State.lockFailure
  dsimp only
  split
  · rename_i n fails
    refine RaisesOnly.trans (.of_notices_eq rfl) ((State.raise_raisesOnly _ n T).mono ?_)
    unfold lockFail lockAttemptFails at fails
    grind
  · exact .of_notices_eq rfl

end

/-! ### The overdue removals (R83) -/

theorem State.overdueStep_timing (s : State) : TimingKept s s.overdueStep := by
  unfold State.overdueStep
  split
  · exact .refl _
  · split
    · rename_i e rest _ _
      exact TimingKept.trans (t := { s with tracker := { s.tracker with eal := rest } })
        ⟨rfl, rfl, rfl, rfl⟩ (State.lockFailure_timing _ _)
    · exact .refl _

theorem State.overdueSteps_timing (n : Nat) (s : State) : TimingKept s (State.overdueSteps n s) := by
  induction n generalizing s with
  | zero => exact .refl _
  | succ n ih => exact s.overdueStep_timing.trans (ih _)

theorem State.overdueStep_raisesOnly (s : State) :
    RaisesOnly [.trackLost, .trackFault] s s.overdueStep := by
  unfold State.overdueStep
  split
  · exact .refl _ _
  · split
    · rename_i e rest _ _
      exact RaisesOnly.trans (t := { s with tracker := { s.tracker with eal := rest } })
        (.of_notices_eq rfl) (State.lockFailure_raisesOnly _ _)
    · exact .refl _ _

theorem State.overdueSteps_raisesOnly (n : Nat) (s : State) :
    RaisesOnly [.trackLost, .trackFault] s (State.overdueSteps n s) := by
  induction n generalizing s with
  | zero => exact .refl _ _
  | succ n ih => exact s.overdueStep_raisesOnly.trans (ih _)

theorem State.overdueSteps_sublist (n : Nat) (s : State) :
    (State.overdueSteps n s).tracker.eal.Sublist s.tracker.eal := by
  induction n generalizing s with
  | zero => exact .refl _
  | succ n ih =>
    refine (ih _).trans ?_
    rw [State.overdueStep_eal]
    split
    · rename_i empty
      rw [empty]
    · rename_i e rest list
      rw [list]
      split
      · exact List.sublist_cons_self _ _
      · exact .refl _

theorem State.overdueSteps_of_calm (n : Nat) {s : State}
    (h : ∀ e ∈ s.tracker.eal.head?, isOverdue s.conf s.count e = false) :
    State.overdueSteps n s = s := by
  induction n with
  | zero => rfl
  | succ n ih => rw [State.overdueSteps, State.overdueStep_of_calm h, ih]

/-- An entry no farther behind than the window is not overdue (R3, R83). -/
theorem isOverdue_of_within {r : Record} {c : Count} {f : EalEntry}
    (within : -(r.wWin : Int) ≤ signed16 (f.expected - c)) : isOverdue r c f = false := by
  rw [isOverdue_eq_false_iff]
  have high : signed16 (c - f.expected) ≤ 32767 := by
    have := (c - f.expected).toInt_lt
    unfold signed16
    omega
  by_cases wide : 32767 ≤ r.wWin
  · omega
  · have near : signed16 (f.expected - c) ≠ -32768 := by omega
    have := aheadOf_eq_neg (c := f.expected) (e := c) near
    unfold aheadOf at this
    omega

/-- The one overdue entry stands first in the order of the new count (R78, R83). -/
theorem standInOrder_overdue_first {r : Record} {c : Count} {es : List EalEntry} {e : EalEntry}
    (he : e ∈ es) (late : (r.wWin : Int) < signed16 (c - e.expected))
    (others : ∀ f ∈ es, f ≠ e → -(r.wWin : Int) ≤ signed16 (f.expected - c)) :
    ∃ rest, standInOrder c es = e :: rest := by
  have perm := standInOrder_perm c es
  have sorted := foldl_insertEntry_sorted c es (acc := []) .nil
  change (standInOrder c es).Pairwise _ at sorted
  cases list : standInOrder c es with
  | nil =>
    rw [list] at perm
    rw [perm.symm.eq_nil] at he
    cases he
  | cons x rest =>
    rw [list] at perm sorted
    refine ⟨rest, ?_⟩
    by_cases same : x = e
    · rw [same]
    · have ahead := others x (perm.mem_iff.mp List.mem_cons_self) same
      have behind : e ∈ rest := (List.mem_cons.mp (perm.mem_iff.mpr he)).resolve_left (Ne.symm same)
      have order := (List.pairwise_cons.mp sorted).1 e behind
      have far : signed16 (c - e.expected) ≠ -32768 := by omega
      rw [aheadOf_eq_neg far] at order
      unfold aheadOf at order
      omega

section
variable {s : State}

/-- With none overdue the pulse removes nothing (R83). -/
theorem State.advanceCount_calm (n : Nat)
    (within : ∀ f ∈ s.tracker.eal, -(s.conf.wWin : Int) ≤ signed16 (f.expected - (s.count + 1))) :
    State.overdueSteps n s.advanceCount = s.advanceCount :=
  State.overdueSteps_of_calm n fun f hf =>
    isOverdue_of_within (within f ((standInOrder_perm _ _).mem_iff.mp (List.mem_of_mem_head? hf)))

/-- The one overdue entry goes, as a failure of the lock, and no other (R83, R90, R91). -/
theorem State.advanceCount_overdue {e : EalEntry} (he : e ∈ s.tracker.eal)
    (late : (s.conf.wWin : Int) < signed16 (s.count + 1 - e.expected))
    (nodup : (s.tracker.eal.map EalEntry.tote).Nodup)
    (others : ∀ f ∈ s.tracker.eal, f ≠ e →
      -(s.conf.wWin : Int) ≤ signed16 (f.expected - (s.count + 1))) :
    LockFailed e.tote s (State.overdueSteps s.advanceCount.tracker.eal.length s.advanceCount) ∧
      ∀ i, i ∈ (State.overdueSteps s.advanceCount.tracker.eal.length s.advanceCount).tracker.eal ↔
        i ∈ s.tracker.eal ∧ i ≠ e := by
  obtain ⟨rest, list⟩ := standInOrder_overdue_first he late others
  have list : s.advanceCount.tracker.eal = e :: rest := list
  have perm : (e :: rest).Perm s.tracker.eal := list ▸ standInOrder_perm _ _
  have once : e ∉ rest := fun h => by
    have totes := ((perm.map EalEntry.tote).nodup_iff).mpr nodup
    exact (List.nodup_cons.mp totes).1 (List.mem_map_of_mem h)
  have other (i : EalEntry) (hi : i ∈ rest) : i ∈ s.tracker.eal ∧ i ≠ e :=
    ⟨perm.mem_iff.mp (List.mem_cons_of_mem _ hi), fun same => once (same ▸ hi)⟩
  have step := State.overdueStep_of_due list ((isOverdue_iff _ _ e).mpr late)
  have eal : s.advanceCount.overdueStep.tracker.eal = rest := by
    rw [step, State.lockFailure_eal]
  have frame := s.advanceCount.overdueStep_frame
  have calm : ∀ f ∈ s.advanceCount.overdueStep.tracker.eal.head?,
      isOverdue s.advanceCount.overdueStep.conf s.advanceCount.overdueStep.count f = false := by
    intro f hf
    rw [eal] at hf
    obtain ⟨mem, differs⟩ := other f (List.mem_of_mem_head? hf)
    rw [frame.conf_eq (by simp), frame.count_eq (by simp)]
    exact isOverdue_of_within (others f mem differs)
  have steps : State.overdueSteps s.advanceCount.tracker.eal.length s.advanceCount =
      s.advanceCount.overdueStep := by
    rw [list, List.length_cons, State.overdueSteps, State.overdueSteps_of_calm _ calm]
  rw [steps, eal]
  refine ⟨?_, fun i => ⟨other i, fun ⟨mem, differs⟩ =>
    (List.mem_cons.mp (perm.mem_iff.mpr mem)).resolve_left differs⟩⟩
  rw [step]
  exact State.lockFailure_failed
    { s.advanceCount with tracker := { s.advanceCount.tracker with eal := rest } } e.tote

end

end Sys2Proof.Machine
end

section
/-! PROOFS. An encoder pulse at the divert records (R84, R106), and the whole of it: O15. -/

namespace Sys2Proof.Machine

/-! ### Several divert timeouts (R106) -/

/-- The timeouts of these records, oldest first, with these left in flight. -/
def State.timeOuts (rest : List DivertRec) : List DivertRec → State → State
  | [], s => s
  | d :: ds, s => State.timeOuts rest ds (s.timeOut d (ds ++ rest))

/-- The looks at the oldest record time out those whose reach is passed, up to the first that is not. -/
theorem State.divertSteps_eq {ds rest : List DivertRec} (n : Nat) {s : State}
    (records : s.divert.records = ds ++ rest) (len : ds.length ≤ n)
    (due : ∀ d ∈ ds, reachPassed s.conf s.count d = true)
    (early : ∀ d ∈ rest.head?, reachPassed s.conf s.count d = false) :
    State.divertSteps n s = State.timeOuts rest ds s := by
  induction n generalizing ds s with
  | zero =>
    obtain rfl := List.length_eq_zero_iff.mp (Nat.le_zero.mp len)
    rfl
  | succ n ih =>
    cases ds with
    | nil =>
      have still : s.divertStep = s := by
        rw [List.nil_append] at records
        cases rest with
        | nil =>
          unfold State.divertStep
          rw [records]
        | cons d rest =>
          unfold State.divertStep
          rw [records]
          exact if_neg (by simp [early d rfl])
      rw [State.divertSteps, still]
      exact ih records (Nat.zero_le _) due early
    | cons d ds =>
      have step : s.divertStep = s.timeOut d (ds ++ rest) := by
        unfold State.divertStep
        rw [records]
        exact if_pos (due d List.mem_cons_self)
      have frame := s.timeOut_frame d (ds ++ rest)
      have conf : (s.timeOut d (ds ++ rest)).conf = s.conf := frame.conf_eq (by simp)
      have count : (s.timeOut d (ds ++ rest)).count = s.count := frame.count_eq (by simp)
      rw [State.divertSteps, step]
      refine ih (by rw [State.timeOut_divert]) (Nat.le_of_succ_le_succ len) ?_ ?_
      · rw [conf, count]
        exact fun x hx => due x (List.mem_cons_of_mem _ hx)
      · rw [conf, count]
        exact early

theorem State.divertSteps_takeWhile {s : State} :
    State.divertSteps s.divert.records.length s =
      State.timeOuts (s.divert.records.dropWhile (reachPassed s.conf s.count))
        (s.divert.records.takeWhile (reachPassed s.conf s.count)) s := by
  refine State.divertSteps_eq _ List.takeWhile_append_dropWhile.symm
    (List.takeWhile_sublist _).length_le (fun d hd => List.mem_takeWhile_imp hd) fun d hd => ?_
  cases list : s.divert.records.dropWhile (reachPassed s.conf s.count) with
  | nil =>
    rw [list] at hd
    cases hd
  | cons x xs =>
    rw [list] at hd
    obtain rfl : x = d := Option.some.inj hd
    have head := List.head_dropWhile_not (reachPassed s.conf s.count) (l := s.divert.records)
      (by rw [list]; exact List.cons_ne_nil _ _)
    simpa [list] using head

/-! ### What one timeout and several keep -/

section
variable {rest ds : List DivertRec}

theorem State.timeOuts_frame (rest ds : List DivertRec) (s : State) :
    SameExcept [.notices, .divert, .bus, .tracker] s (State.timeOuts rest ds s) := by
  induction ds generalizing s with
  | nil => exact .refl _ _
  | cons d ds ih =>
    exact (s.timeOut_frame d (ds ++ rest)).step (ih _) (List.Subset.refl _) (List.Subset.refl _)

theorem State.timeOuts_divert {s : State} (records : s.divert.records = ds ++ rest) :
    (State.timeOuts rest ds s).divert = { s.divert with records := rest } := by
  induction ds generalizing s with
  | nil =>
    rw [List.nil_append] at records
    rw [← records]
    rfl
  | cons d ds ih =>
    rw [State.timeOuts, ih (by rw [State.timeOut_divert]), State.timeOut_divert]

theorem State.timeOut_raisesOnly (s : State) (d : DivertRec) (rest : List DivertRec) :
    RaisesOnly [.divertFail, .frameAbandoned] s (s.timeOut d rest) := by
  have failed : RaisesOnly [.divertFail, .frameAbandoned] s (s.divertFailed d rest) :=
    ((s.raise_raisesOnly .divertFail d.tote).mono (by simp)).trans (.of_notices_eq rfl)
  have released : RaisesOnly [.divertFail, .frameAbandoned] (s.divertFailed d rest)
      (s.divertReleased d rest) := (State.request_raisesOnly _ _ _).mono (by simp)
  exact (failed.trans released).trans ((s.timeOut_of_released d rest).raisesOnly (by simp))

theorem State.timeOuts_raisesOnly (rest ds : List DivertRec) (s : State) :
    RaisesOnly [.divertFail, .frameAbandoned] s (State.timeOuts rest ds s) := by
  induction ds generalizing s with
  | nil => exact .refl _ _
  | cons d ds ih => exact (s.timeOut_raisesOnly d _).trans (ih _)

theorem State.timeOut_raisedFor (s : State) (d : DivertRec) (rest : List DivertRec) :
    RaisedFor .divertFail [d.tote] s (s.timeOut d rest) := by
  have released : RaisesOnly [.frameAbandoned] (s.raise .divertFail d.tote) (s.timeOut d rest) :=
    RaisesOnly.trans (t := s.divertFailed d rest) (.of_notices_eq rfl)
      ((State.request_raisesOnly _ _ _).trans ((s.timeOut_of_released d rest).raisesOnly (by simp)))
  exact RaisedFor.between (RaisesOnly.refl [] s) (s.raise_for _ _) released (by simp) (by simp)

theorem State.timeOuts_raisedFor (rest ds : List DivertRec) (s : State) :
    RaisedFor .divertFail (ds.map DivertRec.tote) s (State.timeOuts rest ds s) := by
  induction ds generalizing s with
  | nil => exact rfl
  | cons d ds ih => exact (s.timeOut_raisedFor d _).append (ih _)

/-- A placing leaves the tracker but its list and the crowded flag (R79, R81). -/
theorem placeEntry_fields (r : Record) (c : Count) (e : EalEntry) (tr : Tracker) :
    placeEntry r c e tr =
      { tr with eal := (placeEntry r c e tr).eal, crowded := (placeEntry r c e tr).crowded } := by
  cases due : isOverdue r c e with
  | false => exact placeEntry_kept (.of_due due)
  | true =>
    cases next : isOverdue r c (nextLap r e) with
    | false => exact placeEntry_kept (.of_overdue due next)
    | true => rw [placeEntry_of_overdue due next]

theorem State.place_tracker (s : State) (e : EalEntry) :
    (s.place e).tracker =
      { s.tracker with eal := (s.place e).tracker.eal, crowded := (s.place e).tracker.crowded } := by
  cases own : s.inOwnLane e.tote with
  | true => rw [State.place_own own]
  | false =>
    rw [State.place_other own]
    exact placeEntry_fields _ _ _ _

theorem State.timeOut_kept (s : State) (d : DivertRec) (rest : List DivertRec) :
    TimingKept s (s.timeOut d rest) ∧ LockStands s (s.timeOut d rest) := by
  have raises := s.timeOut_raisesOnly d rest
  have tracker := State.place_tracker (s.divertReleased d rest)
    (reAddEntry s.conf d.tote d.readCount d.takeTime d.entry)
  rw [← s.timeOut_eq, (s.divertReleased_frame d rest).tracker_eq (by simp)] at tracker
  refine ⟨?_, ?_, ?_, ?_, ?_, (raises _).1 (by simp), (raises _).1 (by simp)⟩
  · constructor <;> rw [tracker]
  all_goals rw [tracker]

theorem State.timeOuts_kept (rest ds : List DivertRec) (s : State) :
    TimingKept s (State.timeOuts rest ds s) ∧ LockStands s (State.timeOuts rest ds s) := by
  induction ds generalizing s with
  | nil => exact ⟨.refl _, .refl _⟩
  | cons d ds ih =>
    obtain ⟨timing, lock⟩ := s.timeOut_kept d (ds ++ rest)
    obtain ⟨timings, locks⟩ := ih (s.timeOut d (ds ++ rest))
    exact ⟨timing.trans timings, lock.trans locks⟩

/-! ### The expected arrivals of the timed-out records (R84) -/

theorem State.timeOut_own {s : State} (configured : s.mode ≠ .unconfigured) (own : OwnLaneLaw s)
    {d : DivertRec} (hd : s.divert.records = d :: rest) : OwnLaneLaw (s.timeOut d rest) := by
  have stock : d.tote ≠ 0 := own.2.1 d (by rw [hd]; exact List.mem_cons_self)
  exact (State.timeOut_trackKept (c := False) (o := True) configured hd fun _ => stock).own trivial own

theorem placeEntry_length (r : Record) (c : Count) (e : EalEntry) (tr : Tracker) :
    (placeEntry r c e tr).eal.length ≤ tr.eal.length + 1 := by
  unfold placeEntry
  extract_lets x
  have insertion : ∀ es : List EalEntry, es.length ≤ tr.eal.length →
      (insertEntry c x es).length ≤ tr.eal.length + 1 := fun es len => by
    rw [(insertEntry_perm c x es).length_eq, List.length_cons]
    omega
  split
  · exact Nat.le_succ _
  · split
    · exact insertion _ (List.length_filter_le _ _)
    · split
      · exact insertion _ le_rfl
      · dsimp only
        split
        · split
          · exact insertion _ (by rw [List.length_dropLast]; omega)
          · exact Nat.le_succ _
        · exact Nat.le_succ _

/-- The entries of other totes stay where there is space, and the timed-out tote's joins them. -/
theorem State.timeOut_expects {s : State} (own : OwnLaneLaw s) {d : DivertRec}
    (hd : s.divert.records = d :: rest) :
    (s.timeOut d rest).tracker.eal.length ≤ s.tracker.eal.length + 1 ∧
      (s.tracker.eal.length < 32 →
        (∀ i ∈ s.tracker.eal, i ∈ (s.timeOut d rest).tracker.eal) ∧
        (isOverdue s.conf s.count (reAddEntry s.conf d.tote d.readCount d.takeTime d.entry) = false →
          reAddEntry s.conf d.tote d.readCount d.takeTime d.entry ∈
            (s.timeOut d rest).tracker.eal)) := by
  have frame := s.divertReleased_frame d rest
  have out := own.oldest_leaves hd (t := s.divertReleased d rest)
    (congrArg Divert.records (s.divertReleased_divert d rest)) (frame.lane_eq (by simp))
  have placed : (s.timeOut d rest).tracker = placeEntry s.conf s.count
      (reAddEntry s.conf d.tote d.readCount d.takeTime d.entry) s.tracker := by
    rw [s.timeOut_eq, State.place_other (by rw [reAddEntry_tote]; exact out), State.conf,
      frame.cfg_eq (by simp), frame.count_eq (by simp), frame.tracker_eq (by simp)]
    rfl
  have other (i : EalEntry) (hi : i ∈ s.tracker.eal) : i.tote ≠ d.tote := fun same => by
    have absent := (own.2.2 i hi).2
    rw [same, State.inOwnLane, hd, List.any_cons] at absent
    simp at absent
  rw [placed]
  refine ⟨placeEntry_length _ _ _ _, fun space => ?_⟩
  have mem {e : EalEntry} (h : PlacedAs s.conf s.count
      (reAddEntry s.conf d.tote d.readCount d.takeTime d.entry) e) :=
    (placeEntry_of_space h (tr := s.tracker) (.inl space)).2
  have tote {e : EalEntry} (h : PlacedAs s.conf s.count
      (reAddEntry s.conf d.tote d.readCount d.takeTime d.entry) e) : e.tote = d.tote :=
    h.tote_eq.trans (reAddEntry_tote _ _ _ _ _)
  refine ⟨fun i hi => ?_, fun near => (mem (.of_due near) _).mpr (.inr rfl)⟩
  cases due : isOverdue s.conf s.count (reAddEntry s.conf d.tote d.readCount d.takeTime d.entry) with
  | false =>
    have as := PlacedAs.of_due due
    exact (mem as i).mpr (.inl ⟨hi, by rw [tote as]; exact other i hi⟩)
  | true =>
    cases next : isOverdue s.conf s.count
        (nextLap s.conf (reAddEntry s.conf d.tote d.readCount d.takeTime d.entry)) with
    | false =>
      have as := PlacedAs.of_overdue due next
      exact (mem as i).mpr (.inl ⟨hi, by rw [tote as]; exact other i hi⟩)
    | true => rwa [placeEntry_of_overdue due next]

theorem State.timeOuts_expects {s : State} (configured : s.mode ≠ .unconfigured) (own : OwnLaneLaw s)
    (records : s.divert.records = ds ++ rest) (space : s.tracker.eal.length + ds.length ≤ 32) :
    (∀ i ∈ s.tracker.eal, i ∈ (State.timeOuts rest ds s).tracker.eal) ∧
      ∀ d ∈ ds,
        isOverdue s.conf s.count (reAddEntry s.conf d.tote d.readCount d.takeTime d.entry) = false →
        reAddEntry s.conf d.tote d.readCount d.takeTime d.entry ∈
          (State.timeOuts rest ds s).tracker.eal := by
  induction ds generalizing s with
  | nil => exact ⟨fun i hi => hi, fun d hd => (by cases hd)⟩
  | cons d ds ih =>
    rw [List.length_cons] at space
    obtain ⟨length, kept⟩ := State.timeOut_expects (d := d) (rest := ds ++ rest) own records
    obtain ⟨stay, joins⟩ := kept (by omega)
    have frame := s.timeOut_frame d (ds ++ rest)
    obtain ⟨stays, joined⟩ := ih (s := s.timeOut d (ds ++ rest)) (by rwa [s.timeOut_mode])
      (State.timeOut_own configured own records) (by rw [State.timeOut_divert]) (by omega)
    rw [frame.conf_eq (by simp), frame.count_eq (by simp)] at joined
    refine ⟨fun i hi => stays i (stay i hi), fun x hx near => ?_⟩
    rcases List.mem_cons.mp hx with rfl | hx
    · exact stays _ (joins near)
    · exact joined x hx near

end

/-! ### The RELEASEs of the timed-out records (R46, R106) -/

section
variable {rest ds : List DivertRec}

theorem State.timeOut_requests (s : State) (d : DivertRec) (rest : List DivertRec) :
    Requests (· = .holdRelease d.tote) s (s.timeOut d rest) := by
  have failed : Requests (· = .holdRelease d.tote) s (s.divertFailed d rest) := .of_bus_eq rfl
  have asked : Requests (· = .holdRelease d.tote) (s.divertFailed d rest) (s.divertReleased d rest) :=
    State.request_requests (s.divertFailed d rest) d.tote (.release (s.divertRelease d))
  exact (failed.trans asked).trans (.of_bus_eq (State.timeOut_bus d rest))

theorem State.timeOuts_requests (rest ds : List DivertRec) (s : State) :
    Requests (fun k => ∃ d ∈ ds, k = .holdRelease d.tote) s (State.timeOuts rest ds s) := by
  induction ds generalizing s with
  | nil => exact .refl _ _
  | cons d ds ih =>
    exact ((s.timeOut_requests d _).mono fun k same => ⟨d, List.mem_cons_self, same⟩).trans
      ((ih _).mono fun k ⟨x, hx, same⟩ => ⟨x, List.mem_cons_of_mem _ hx, same⟩)

/-- The RELEASE frame of a divert record's timeout (R46, R106). -/
def State.releaseFrame (s : State) (d : DivertRec) : Frame :=
  { sender := s.bus.ownStation.getD 0, tote := d.tote, body := .release (s.divertRelease d) }

/-- The RELEASE reads nothing that a timeout changes. -/
theorem SameExcept.divertRelease {s t : State} {bs : List Block} (h : SameExcept bs s t)
    (cfg : Block.cfg ∉ bs) (clock : Block.clock ∉ bs) (demand : Block.demand ∉ bs) (d : DivertRec) :
    t.divertRelease d = s.divertRelease d := by
  unfold State.divertRelease State.releaseFields
  rw [h.conf_eq cfg, h.clock_eq clock, h.demand_eq demand]

theorem State.timeOuts_releases {L : List TxKey} {s : State} (on : s.bus.tx = .on)
    (keys : ∀ d ∈ ds, .holdRelease d.tote ∈ L) (room : RoomFor L s)
    (nodup : (ds.map DivertRec.tote).Nodup) :
    ∀ d ∈ ds, s.releaseFrame d ∈ (State.timeOuts rest ds s).bus.queue := by
  induction ds generalizing s with
  | nil => exact fun d hd => (by cases hd)
  | cons d ds ih =>
    obtain ⟨once, nodup⟩ := List.nodup_cons.mp nodup
    have asked := s.timeOut_requests d (ds ++ rest)
    have key := keys d List.mem_cons_self
    have left := asked.room L (by rintro k rfl; exact key) room
    intro x hx
    rcases List.mem_cons.mp hx with rfl | hx
    · have first : s.releaseFrame x ∈ (s.timeOut x (ds ++ rest)).bus.queue := by
        rw [State.timeOut_bus]
        exact State.request_queued (s := s.divertFailed x (ds ++ rest)) on key room
      refine (State.timeOuts_requests rest ds _).kept L ?_ left _ first ?_
      · rintro k ⟨y, hy, rfl⟩
        exact keys y (List.mem_cons_of_mem _ hy)
      · rintro ⟨y, hy, same⟩
        have same : x.tote = y.tote := TxKey.holdRelease.inj same
        exact once (same ▸ List.mem_map_of_mem hy)
    · have later := ih (s := s.timeOut d (ds ++ rest)) (asked.tx.trans on)
        (fun y hy => keys y (List.mem_cons_of_mem _ hy)) left nodup x hx
      rwa [State.releaseFrame, asked.ownStation,
        (s.timeOut_frame d _).divertRelease (by simp) (by simp) (by simp)] at later

theorem RoomFor.of_queue_eq {L : List TxKey} {s t : State} (h : RoomFor L s)
    (same : t.bus.queue = s.bus.queue) : RoomFor L t := by
  unfold RoomFor at *
  rwa [same]

theorem OwnLaneLaw.divert_nodup {s : State} (own : OwnLaneLaw s)
    (records : s.divert.records = ds ++ rest) : (ds.map DivertRec.tote).Nodup := by
  obtain ⟨nodup, nonzero, -⟩ := own
  have stock : (ds.map DivertRec.tote).filter (fun T => T != 0) = ds.map DivertRec.tote := by
    refine List.filter_eq_self.mpr fun T hT => ?_
    obtain ⟨d, hd, rfl⟩ := List.mem_map.mp hT
    simpa using nonzero d (by rw [records]; exact List.mem_append_left _ hd)
  rw [← stock]
  refine nodup.sublist (List.Sublist.filter _ ?_)
  rw [ownTotes, records, List.map_append, List.append_assoc, List.append_assoc, List.append_assoc]
  exact List.sublist_append_left _ _

end

/-! ### The pulse -/

/-- The records in flight whose reach is passed at the next count, oldest first. -/
def State.overreached (s : State) : List DivertRec :=
  s.divert.records.takeWhile (reachPassed s.conf (s.count + 1))

/-- The records in flight from the first whose reach is not passed. -/
def State.reaching (s : State) : List DivertRec :=
  s.divert.records.dropWhile (reachPassed s.conf (s.count + 1))

theorem State.overreached_append_reaching (s : State) :
    s.overreached ++ s.reaching = s.divert.records := List.takeWhile_append_dropWhile

theorem State.overreached_length (s : State) : s.overreached.length ≤ s.divert.records.length :=
  (List.takeWhile_sublist _).length_le

/-- The count advanced and the overdue arrivals removed. -/
def State.cleared (s : State) : State :=
  State.overdueSteps s.advanceCount.tracker.eal.length s.advanceCount

/-- The pulse before the test that ends a drain. -/
def State.pulsed (s : State) : State :=
  State.timeOuts s.reaching s.overreached s.cleared

section
variable {s : State}

theorem exec_encoderPulse_unconfigured (unconfigured : s.mode = .unconfigured) :
    exec .encoderPulse s = .next s.advanceCount := by
  refine congrArg Host.Outcome.next (if_neg ?_)
  exact fun h => (s.advanceCount.configured_iff.mp h) unconfigured

theorem exec_encoderPulse (configured : s.mode ≠ .unconfigured) :
    exec .encoderPulse s = .next s.pulsed.drainTest.settleLane := by
  have frame := State.overdueSteps_frame s.advanceCount.tracker.eal.length s.advanceCount
  have divert := State.divertSteps_takeWhile
    (s := State.overdueSteps s.advanceCount.tracker.eal.length s.advanceCount)
  rw [frame.divert_eq (by simp), frame.conf_eq (by simp), frame.count_eq (by simp)] at divert
  refine congrArg Host.Outcome.next ((if_pos (s.advanceCount.configured_iff.mpr configured)).trans ?_)
  refine congrArg (fun u => State.settleLane (State.drainTest u)) ?_
  rw [frame.divert_eq (by simp)]
  exact divert

theorem State.cleared_frame (s : State) : SameExcept [.count, .tracker, .notices] s s.cleared :=
  s.advanceCount_frame.step (State.overdueSteps_frame _ _) (by simp) (by simp)

theorem State.cleared_raisesOnly (s : State) : RaisesOnly [.trackLost, .trackFault] s s.cleared :=
  RaisesOnly.trans (t := s.advanceCount) (.of_notices_eq rfl) (State.overdueSteps_raisesOnly _ _)

theorem State.cleared_count (s : State) : s.cleared.count = s.count + 1 :=
  (State.overdueSteps_frame _ _).count_eq (by simp)

theorem State.cleared_eal (s : State) :
    (∀ i ∈ s.cleared.tracker.eal, i ∈ s.tracker.eal) ∧
      s.cleared.tracker.eal.length ≤ s.tracker.eal.length := by
  have sub := State.overdueSteps_sublist s.advanceCount.tracker.eal.length s.advanceCount
  have perm : s.advanceCount.tracker.eal.Perm s.tracker.eal := standInOrder_perm _ _
  exact ⟨fun i hi => perm.mem_iff.mp (sub.subset hi), sub.length_le.trans perm.length_eq.le⟩

theorem State.cleared_own (configured : s.mode ≠ .unconfigured) (own : OwnLaneLaw s) :
    OwnLaneLaw s.cleared :=
  (State.overdueSteps_trackKept (c := False) (o := True) (s := s.advanceCount) _ configured).own
    trivial (State.advanceCount_ownLaneLaw own)

theorem State.pulsed_of_cleared (s : State) :
    SameExcept [.notices, .divert, .bus, .tracker] s.cleared s.pulsed := State.timeOuts_frame _ _ _

theorem State.cleared_records (s : State) : s.cleared.divert.records = s.overreached ++ s.reaching := by
  rw [s.cleared_frame.divert_eq (by simp), s.overreached_append_reaching]

theorem State.pulsed_divert (s : State) : s.pulsed.divert = { s.divert with records := s.reaching } := by
  rw [State.pulsed, State.timeOuts_divert s.cleared_records, s.cleared_frame.divert_eq (by simp)]

/-- The end of the event leaves the tracker and the divert records. -/
theorem State.pulsed_end (s : State) :
    SameExcept settleBlocks s.pulsed s.pulsed.drainTest.settleLane :=
  (State.drainTest_frame _).step (State.settleLane_frame _) (by simp [settleBlocks])
    (by simp [settleBlocks])

theorem State.drainTest_raisesOnly (u : State) :
    RaisesOnly [.modeChanged, .frameAbandoned] u u.drainTest.settleLane := by
  have settled (v : State) : RaisesOnly [.modeChanged, .frameAbandoned] v v.settleLane :=
    v.settleLane_raisesOnly.mono (by simp)
  by_cases drained : u.mode = .draining ∧ u.laneEmpty = true
  · rw [State.drainTest_of_drained drained.1 drained.2]
    exact (u.enterMode_raisesOnly .rest).trans (settled _)
  · rw [State.drainTest_of_not_drained drained]
    exact settled _

theorem State.pulse_timing (s : State) : TimingKept s.advanceCount s.pulsed.drainTest.settleLane :=
  ((State.overdueSteps_timing _ _).trans (State.timeOuts_kept _ _ _).1).trans
    (s.pulsed_end.timingKept (by simp [settleBlocks]))

theorem State.pulse_lockStands (s : State) : LockStands s.cleared s.pulsed.drainTest.settleLane :=
  (State.timeOuts_kept _ _ _).2.trans
    (.of_raisesOnly (s.pulsed_end.tracker_eq (by simp [settleBlocks])) (State.drainTest_raisesOnly _)
      (by simp) (by simp))

/-! ### What the pulse brings (R84, R106, R147, R151) -/

/-- A RELEASE frame in the queue is that of the record (R30, R46). -/
theorem timeoutReleased_of_mem {t : State} {d : DivertRec} (h : s.releaseFrame d ∈ t.bus.queue) :
    TimeoutReleased d s t := by
  refine ⟨s.divertRelease d, divertClass s.demand.lines d, h, divertClass_spec s d, rfl,
    fun used time known => ?_, fun time unknown => ?_, rfl, rfl, rfl⟩
  · have cold : divertCold d = .known used time := by rw [divertCold, known]; rfl
    show (releaseColdUsed s.conf _ (divertCold d) s.clock).toNat = _
    rw [cold, releaseColdUsed_known]
  · show (releaseColdUsed s.conf _ (divertCold d) s.clock).toNat = _
    rw [show divertCold d = .unknown time from unknown, releaseColdUsed_unknown]

theorem timeoutEntry_eq (s : State) (d : DivertRec) :
    timeoutEntry s d = reAddEntry s.conf d.tote d.readCount d.takeTime d.entry := by
  unfold timeoutEntry reAddEntry
  cases d.entry <;> rfl

section
variable {d : DivertRec} (due : d ∈ s.overreached) (own : OwnLaneLaw s)
include due own

/-- The RELEASE outlasts what follows it. -/
theorem State.pulse_releases (on : s.bus.tx = .on)
    (space : s.bus.queue.length + s.divert.records.length < 16) :
    s.releaseFrame d ∈ s.pulsed.drainTest.settleLane.bus.queue := by
  have bus : s.cleared.bus = s.bus := s.cleared_frame.bus_eq (by simp)
  have few := s.overreached_length
  have room : RoomFor (.state :: s.overreached.map fun d => .holdRelease d.tote) s.cleared := by
    refine .of_length ?_
    rw [bus, List.length_cons, List.length_map]
    omega
  have keys : ∀ d ∈ s.overreached,
      TxKey.holdRelease d.tote ∈ .state :: s.overreached.map fun d => TxKey.holdRelease d.tote :=
    fun d hd => List.mem_cons_of_mem _ (List.mem_map_of_mem (f := fun d => TxKey.holdRelease d.tote) hd)
  have queued := State.timeOuts_releases (rest := s.reaching) (s := s.cleared) (by rw [bus]; exact on) keys room
    (own.divert_nodup s.overreached_append_reaching.symm) d due
  have left := (State.timeOuts_requests s.reaching _ s.cleared).room _
    (by rintro k ⟨x, hx, rfl⟩; exact keys x hx) room
  have same : s.cleared.releaseFrame d = s.releaseFrame d := by
    rw [State.releaseFrame, bus, s.cleared_frame.divertRelease (by simp) (by simp) (by simp)]
    rfl
  rw [same] at queued
  refine (State.settleLane_requests _).kept _ (by rintro k rfl; exact List.mem_cons_self)
    (left.of_queue_eq (State.drainTest_queue _)) _ ?_ (by simp [State.releaseFrame, frameKey])
  rw [State.drainTest_queue]
  exact queued

end

/-- The expected arrivals that stay, and those that the timeouts add (R84). -/
theorem State.pulse_expects (configured : s.mode ≠ .unconfigured) (own : OwnLaneLaw s)
    (space : s.tracker.eal.length + s.divert.records.length ≤ 32) :
    (∀ i ∈ s.cleared.tracker.eal, i ∈ s.pulsed.drainTest.settleLane.tracker.eal) ∧
      ∀ d ∈ s.overreached,
        signed16 (s.count + 1 - (d.readCount + BitVec.ofNat 16 s.conf.loopLen)) ≤ (s.conf.wWin : Int) →
        timeoutEntry s d ∈ s.pulsed.drainTest.settleLane.tracker.eal := by
  have few := s.overreached_length
  have shorter := s.cleared_eal.2
  obtain ⟨stay, join⟩ := State.timeOuts_expects (s := s.cleared)
    (by rw [State.mode, s.cleared_frame.modeCtl_eq (by simp)]; exact configured)
    (State.cleared_own configured own) s.cleared_records (by omega)
  rw [s.pulsed_end.tracker_eq (by simp [settleBlocks])]
  refine ⟨stay, fun d hd near => ?_⟩
  rw [timeoutEntry_eq]
  have conf : s.cleared.conf = s.conf := s.cleared_frame.conf_eq (by simp)
  rw [conf, s.cleared_count] at join
  exact join d hd ((isOverdue_eq_false_iff _ _ _).mpr (by rw [reAddEntry_expected]; exact near))

/-- A drain whose lane the timeouts emptied ends in REST, and otherwise the mode stands (R151). -/
theorem State.pulse_mode (s : State) :
    (¬ (s.mode = .draining ∧ s.pulsed.laneEmpty = true) →
        s.pulsed.drainTest.settleLane.mode = s.mode ∧
          SourceKept .modeChanged s s.pulsed.drainTest.settleLane) ∧
      (s.mode = .draining → s.pulsed.laneEmpty = true →
        s.pulsed.drainTest.settleLane.mode = .rest ∧
          SourceRaised .modeChanged 4 s s.pulsed.drainTest.settleLane) := by
  have mode : s.pulsed.mode = s.mode := by
    rw [State.mode, s.pulsed_of_cleared.modeCtl_eq (by simp), s.cleared_frame.modeCtl_eq (by simp)]
    rfl
  have before : SourceKept .modeChanged s s.pulsed := by
    exact ((State.timeOuts_raisesOnly _ _ _ _).1 (by simp)).trans ((s.cleared_raisesOnly _).1 (by simp))
  refine ⟨fun stays => ?_, fun draining empty => ?_⟩
  · rw [← mode] at stays
    rw [State.drainTest_of_not_drained stays, State.settleLane_mode]
    exact ⟨mode, ((State.settleLane_raisesOnly _ _).1 (by simp)).trans before⟩
  · rw [State.drainTest_of_drained (mode.trans draining) empty, State.settleLane_mode]
    refine ⟨rfl, ?_⟩
    have settled := (State.settleLane_raisesOnly (s.pulsed.enterMode .rest) .modeChanged).1 (by simp)
    have raised : SourceRaised .modeChanged 4 s.pulsed (s.pulsed.enterMode .rest) := by
      have raised := (s.pulsed.raise_for .modeChanged 4).sourceRaised
      unfold SourceRaised at raised ⊢
      rwa [s.pulsed.enterRest_notices]
    unfold SourceRaised at raised ⊢
    rw [settled, raised, before]

theorem State.pulsed_lane (s : State) : s.pulsed.lane = s.lane :=
  (s.pulsed_of_cleared.lane_eq (by simp)).trans (s.cleared_frame.lane_eq (by simp))

theorem State.pulse_able (s : State) :
    s.pulsed.drainTest.settleLane.modeCtl.able =
      decide (s.pulsed.drainTest.settleLane.mode = .active ∧ s.lane.jam = none ∧
        s.pulsed.drainTest.settleLane.divert.records.length + s.lane.queue.length < s.conf.c) := by
  have frame := s.pulsed.drainTest_frame
  have conf : s.pulsed.drainTest.conf = s.conf := by
    rw [frame.conf_eq (by simp), s.pulsed_of_cleared.conf_eq (by simp), s.cleared_frame.conf_eq (by simp)]
  rw [State.settleLane_modeCtl, State.settleLane_mode, (State.settleLane_frame _).divert_eq (by simp)]
  show s.pulsed.drainTest.ableNow = _
  rw [State.ableNow_iff, conf, frame.lane_eq (by simp), s.pulsed_lane]

end

/-- Settles O15: the overdue arrivals, the divert timeouts and the end of the event. -/
theorem pulseMovesTheCount : Obligations.PulseMovesTheCount := by
  unfold Obligations.PulseMovesTheCount
  intro s
  by_cases unconfigured : s.mode = .unconfigured
  · have next := exec_encoderPulse_unconfigured unconfigured
    exact ⟨_, next, exec_next_frame next, rfl, rfl, rfl, rfl, rfl, fun _ => s.advanceCount_frame,
      fun h => absurd unconfigured h, fun h => absurd unconfigured h, fun h => absurd unconfigured h⟩
  · have next := exec_encoderPulse unconfigured
    have timing := s.pulse_timing
    have stands := s.pulse_lockStands
    have divert : s.pulsed.drainTest.settleLane.divert.records =
        s.reaching := by
      rw [s.pulsed_end.divert_eq (by simp [settleBlocks]), s.pulsed_divert]
    have count : s.pulsed.drainTest.settleLane.count = s.count + 1 := by
      rw [s.pulsed_end.count_eq (by simp [settleBlocks]), s.pulsed_of_cleared.count_eq (by simp),
        s.cleared_count]
    refine ⟨_, next, exec_next_frame next, count, timing.window, timing.speed, timing.stopped,
      timing.deviation, fun h => absurd h unconfigured, fun _ => divert, fun _ => ⟨?_, ?_⟩,
      fun _ own => ⟨?_, fun d due => ⟨fun on space => timeoutReleased_of_mem
        (State.pulse_releases due own on space), fun space near =>
          (State.pulse_expects unconfigured own space).2 d due near⟩, fun _ _ _ => ?_⟩⟩
    · intro e he late nodup others
      obtain ⟨failed, left⟩ := State.advanceCount_overdue he late nodup others
      refine ⟨failed.later stands, fun early => ?_⟩
      have none : s.overreached = [] := by
        unfold State.overreached
        cases list : s.divert.records with
        | nil => rfl
        | cons d rest =>
          refine List.takeWhile_cons_of_neg ?_
          rw [reachPassed, decide_eq_true_eq, ge_iff_le, not_le]
          exact early d (by rw [list]; rfl)
      have same : s.pulsed = s.cleared := by
        rw [State.pulsed, none]
        rfl
      rw [s.pulsed_end.tracker_eq (by simp [settleBlocks]), same]
      exact left
    · intro within
      have calm : s.cleared = s.advanceCount := State.advanceCount_calm _ within
      rw [calm] at stands
      refine ⟨stands.lock, stands.run, stands.attempts, stands.misses, stands.lost, stands.fault,
        fun i hi space own => (State.pulse_expects unconfigured own space).1 i ?_⟩
      rw [calm]
      exact (standInOrder_perm _ _).mem_iff.mpr hi
    · exact (State.timeOuts_raisedFor _ _ _).between s.cleared_raisesOnly (State.drainTest_raisesOnly _)
        (by simp) (by simp)
    · obtain ⟨stays, drains⟩ := s.pulse_mode
      have empty : s.pulsed.laneEmpty = true ↔ s.pulsed.drainTest.settleLane.divert.records = [] ∧
          s.lane.queue = [] ∧ s.lane.parkRec = none ∧ s.lane.face = .empty := by
        rw [State.laneEmpty_iff, s.pulsed_lane, s.pulsed_end.divert_eq (by simp [settleBlocks])]
      refine ⟨s.pulse_able, fun occupied => stays ?_, fun draining records queue park face =>
        drains draining (empty.mpr ⟨records, queue, park, face⟩)⟩
      rw [empty]
      rintro ⟨draining, records, queue, park, face⟩
      simp [draining, records, queue, park, face] at occupied

end Sys2Proof.Machine
end

section
/-! PROOFS. SET_TIME and PLACE_ORDER in a state with two lines of one tag: the announcement checks of O13 and
O23. -/

namespace Sys2Proof.Machine

/-- As `twoLinesOneTag`, but that the line of tote 40117 at the queue's head is EXPRESS, and its order's
deadline far off, so that the head is not urgent. -/
def farDeadline : State :=
  { twoLinesOneTag with
    puts := (putsReset.set 2 (some { handle := 501, deadline := 20000, ready := false })).set 8
      (some { handle := 610, deadline := 20000, ready := false })
    demand := { twoLinesOneTag.demand with
      lines := [
        { tag := 40, tote := 61204, handle := 610, cls := .ambient, qty := 5, puts := 0,
          prio := .normal, state := .active },
        { tag := 40, tote := 40117, handle := 501, cls := .ambient, qty := 2, puts := 0,
          prio := .express, state := .waiting }] } }

theorem farDeadline_wants : WantsLaw farDeadline := by
  have placed : isPlaced farDeadline.puts 501 = true := by decide
  refine ⟨by decide, fun T => ?_⟩
  rw [hasWorkable_iff]
  constructor
  · rintro ⟨w, hw, rfl⟩
    obtain rfl := List.mem_singleton.mp hw
    exact ⟨_, .tail _ (.head _), rfl, rfl, placed⟩
  · rintro ⟨l, hl, hT, waiting, -⟩
    rcases List.mem_cons.mp hl with rfl | hl
    · cases waiting
    · obtain rfl := List.mem_singleton.mp hl
      exact ⟨_, .head _, hT⟩

/-- 200 seconds before the deadline the head is urgent, and the presented tote is parked. The park suspends
every line of tag 40: the head's tote has no workable line left. -/
theorem farDeadline_setTime : (farDeadline.setTime 19800).weightOf 40117 = none := by
  decide

/-- Refutes O13: the check of the want records does not ask that no two lines have one tag. The urgent flags
are worked out before the check, and a park suspends the lines of the ACTIVE line's tag; a wanted tote whose
workable line has that tag too is left without a weight to be checked at. -/
theorem not_setTimeKeepsIntervals : ¬ Obligations.SetTimeKeepsIntervals := by
  intro h
  obtain ⟨-, t, ht, -, -, -, -, -, -, -, -, -, -, checked, -⟩ := h 19800 farDeadline (by decide)
  obtain rfl := Host.Outcome.next.inj ht
  obtain ⟨W, weight, -⟩ := checked farDeadline_wants _ (.head _)
  cases weight.symm.trans farDeadline_setTime

/-- A deadline 500 seconds ahead makes the head urgent in the same way. -/
theorem farDeadline_placeOrder : (farDeadline.placeOrder 501 3 10500).weightOf 40117 = none := by
  decide

/-- Refutes O23, by its clause on the want records at a new deadline, for the reason of O13. -/
theorem not_placeOrder : ¬ Obligations.PlaceOrder := by
  rintro ⟨-, accepted⟩
  obtain ⟨-, replaced⟩ := accepted 501 2 10500 farDeadline (by decide) (by decide)
  obtain ⟨t, ht, -, -, -, -, -, checked, -⟩ := replaced
    { handle := 501, deadline := 20000, ready := false } (by decide) (by decide)
  obtain rfl := Host.Outcome.next.inj ht
  obtain ⟨W, weight, -⟩ := checked farDeadline_wants _ (.head _)
    ⟨_, .tail _ (.head _), rfl, rfl, rfl⟩
  cases weight.symm.trans farDeadline_placeOrder

end Sys2Proof.Machine
end
